-- ==== Sys2Proof/Word.lean ====
section
/-! DEFINITION. Words, bytes and fixed-size tables: the plainest data the model is made of. -/

namespace Sys2Proof

/-- One byte of a message, a frame or a control-link transaction (R190). -/
abbrev Byte := BitVec 8

/-- One 16-bit word of the store memory or of a matrix port (R195, R196). -/
abbrev Word := BitVec 16

/-- A fixed number of like things, by number: the destinations, the keys, the links. -/
abbrev Tab (α : Type) (n : Nat) := Vector α n

/-- The table whose entry `i` is `f i`. -/
def tabOf {α : Type} {n : Nat} (f : Fin n → α) : Tab α n := ⟨⟨List.ofFn f⟩, by simp⟩

/-- Entry `i` of a table. -/
def Tab.at {α : Type} {n : Nat} (t : Tab α n) (i : Fin n) : α := t.toArray.toList[i.1]'(by simp)

/-- The table with entry `i` replaced. -/
def Tab.put {α : Type} {n : Nat} (t : Tab α n) (i : Fin n) (x : α) : Tab α n :=
  ⟨⟨t.toArray.toList.set i.1 x⟩, by simp⟩

@[simp] theorem Tab.at_tabOf {α : Type} {n : Nat} (f : Fin n → α) (i : Fin n) :
    Tab.at (tabOf f) i = f i := by simp [Tab.at, tabOf]

@[simp] theorem Tab.at_put_same {α : Type} {n : Nat} (t : Tab α n) (i : Fin n) (x : α) :
    (Tab.put t i x).at i = x := by simp [Tab.at, Tab.put]

theorem Tab.at_put {α : Type} {n : Nat} (t : Tab α n) (i j : Fin n) (x : α) :
    (Tab.put t i x).at j = if i = j then x else t.at j := by
  simp [Tab.at, Tab.put, List.getElem_set, Fin.ext_iff]

@[simp] theorem Tab.at_put_ne {α : Type} {n : Nat} (t : Tab α n) {i j : Fin n} (x : α)
    (h : i ≠ j) : (Tab.put t i x).at j = t.at j := by simp [Tab.at_put, h]

/-- Two tables with equal entries are equal. -/
theorem Tab.ext_at {α : Type} {n : Nat} {t u : Tab α n} (h : ∀ i, t.at i = u.at i) : t = u := by
  apply Vector.ext
  intro i hi
  have := h ⟨i, hi⟩
  simpa [Tab.at] using this

/-- All the numbers below `n`, ascending. -/
def fins (n : Nat) : List (Fin n) := List.ofFn id

@[simp] theorem mem_fins {n : Nat} (i : Fin n) : i ∈ fins n := by simp [fins, List.mem_ofFn]

end Sys2Proof
end

