-- ==== Sys2Proof/Syntax.lean ====
section
/-! DEFINITION. The commands: one constructor per row of spec/opcode_table.json. A request carries its originator,
its tag and the fields of R192 in R192's order, each as the number the message carries (R190): a named value is its
code, an absent optional one-byte field is 255, a set is its bitmap with bit i for member i. -/

namespace Sys2Proof

/-- Who a request comes from: a panel link or the control link (R5). -/
inductive Origin
  | panel (p : Fin 8)
  | ctl
  deriving DecidableEq, Repr

/-- The commands of the block, in the order of spec/opcode_table.json. -/
inductive Instr
  -- starts (R188, R189)
  | powerOn
  | lineReset
  | loadComplete
  -- control-link transactions (R173 to R176)
  | status (code : Byte) (extra : Nat)
  | writeRequest (clocked : List Byte)
  | readResponse (clocked : Nat)
  | writeUrgent (clocked : List Byte)
  -- panel-link events (R155, R156, R165)
  | frameReceived (p : Fin 8) (bytes : List Byte)
  | interByteTimeout (p : Fin 8)
  | frameSent (p : Fin 8)
  -- panel sessions (R159 to R170)
  | hello (o : Origin) (tag : Byte)
  | bye (o : Origin) (tag : Byte)
  | ping (o : Origin) (tag : Byte)
  | subscribe (o : Origin) (tag : Byte) (classes : Nat)
  | hold (o : Origin) (tag : Byte) (time : Nat)
  | resume (o : Origin) (tag : Byte)
  | holdTimerExpiry (p : Fin 8)
  | supervisionExpiry (p : Fin 8)
  -- route table (R6 to R21)
  | route (o : Origin) (tag : Byte) (d source : Nat)
  | lock (o : Origin) (tag : Byte) (d : Nat)
  | protect (o : Origin) (tag : Byte) (d : Nat)
  | unlock (o : Origin) (tag : Byte) (d : Nat)
  | forceUnlock (o : Origin) (tag : Byte) (d : Nat)
  | defineDestination (o : Origin) (tag : Byte) (d cls index home : Nat)
  | queryRoute (o : Origin) (tag : Byte) (d : Nat)
  -- salvos and presets (R25 to R41)
  | salvo (o : Origin) (tag : Byte) (pairs : List (Nat × Nat))
  | cancelSalvo (o : Origin) (tag : Byte) (salvoTag : Byte)
  | querySalvos (o : Origin) (tag : Byte) (index : Nat)
  | savePreset (o : Origin) (tag : Byte) (preset : Nat) (dests : List Nat)
  | clearPreset (o : Origin) (tag : Byte) (preset : Nat)
  | recallPreset (o : Origin) (tag : Byte) (preset : Nat)
  -- store engine events (R181, R40)
  | storeWordReady
  | recallReadComplete
  -- takes and the feed matrix port (R42 to R57)
  | referencePulse
  | internalFrameTimerExpiry
  | commandWord
  | burstAbandon
  | feedReport (w : Word)
  | confirmationTimerExpiry (d : Fin 48)
  | matrixRefresh (o : Origin) (tag : Byte)
  -- tally (R71 to R81)
  | flashTimerExpiry
  | busTally (o : Origin) (tag : Byte) (program preview : Nat)
  | setSwitcher (o : Origin) (tag : Byte) (link source : Nat)
  | clearSwitcherTally (o : Origin) (tag : Byte)
  | defineTallyChannel (o : Origin) (tag : Byte) (channel source : Nat)
  | queryTally (o : Origin) (tag : Byte) (kind number : Nat)
  -- talk (R88 to R107)
  | defineStation (o : Origin) (tag : Byte) (station mic : Nat)
  | defineParty (o : Origin) (tag : Byte) (party channel : Nat)
  | defineKey (o : Origin) (tag : Byte) (key assigned mode kind target call : Nat)
  | keyDown (o : Origin) (tag : Byte) (key : Nat)
  | keyUp (o : Origin) (tag : Byte) (key : Nat)
  | thresholdExpiry (k : Fin 128)
  | latchLimitExpiry (k : Fin 128)
  | talkPortSend
  | allTalkOff
  | queryKey (o : Origin) (tag : Byte) (kind number : Nat)
  -- guards (R126 to R140)
  | armGuard (o : Origin) (tag : Byte) (g : Nat)
  | disarmGuard (o : Origin) (tag : Byte) (g : Nat)
  | debounceExpiry (g : Fin 4)
  | tripGuard (g : Nat)
  | recoveryExpiry (g : Fin 4)
  | restoreGuard (o : Origin) (tag : Byte) (g : Nat)
  | defineGuard (o : Origin) (tag : Byte) (g line level debounce mode armed : Nat) (pairs : List (Nat × Nat))
      (actionSet actionValues : Nat)
  | queryGuard (o : Origin) (tag : Byte) (g : Nat)
  -- signal lines (R144 to R151)
  | inputSampleChange (l : Fin 16) (high : Bool)
  | lineSet (o : Origin) (tag : Byte) (lines values : Nat)
  | defineLine (o : Origin) (tag : Byte) (line direction mode target latch : Nat)
  | queryLine (o : Origin) (tag : Byte) (line : Nat)
  -- control-only requests (R164, R177 to R180)
  | quiesceLink (o : Origin) (tag : Byte) (link : Nat)
  | setTiming (o : Origin) (tag : Byte) (rate threshold limit timeout : Nat)
  | readStatus (o : Origin) (tag : Byte)
  | readAttention (o : Origin) (tag : Byte)
  | setAttentionMask (o : Origin) (tag : Byte) (mask : Nat)
  | restart (o : Origin) (tag : Byte)
  -- store access (R184 to R186)
  | storeEnable (o : Origin) (tag : Byte)
  | storeDisable (o : Origin) (tag : Byte)
  | storeGrant (o : Origin) (tag : Byte)
  | storeRelease (o : Origin) (tag : Byte)
  | rawRead (o : Origin) (tag : Byte) (start count : Nat)
  | rawWrite (o : Origin) (tag : Byte) (start : Nat) (words : List Word)
  deriving DecidableEq, Repr

end Sys2Proof
end

