-- ==== Sys2Proof/Decode.lean ====
section
/-! DEFINITION. The commands that bits spell. A transaction of the control link is the row that its code byte names
(R194), with the bytes or the number of bytes clocked after it as the row's operand. No row of spec/opcode_table.json
gives bits of its own (its rows are transactions, messages and events; messages are decoded in Machine/Formats.lean), so
no table word spells a command. -/

namespace Sys2Proof

/-- The transactions of the control link (R173). -/
inductive Transaction
  | status | writeRequest | readResponse | writeUrgent
  deriving DecidableEq, Repr

/-- The transaction that a code byte names (R194); a code byte that names none is taken as STATUS (R173). -/
def transactionCode (code : Byte) : Transaction :=
  if code = 0x01 then .writeRequest
  else if code = 0x02 then .readResponse
  else if code = 0x03 then .writeUrgent
  else .status

/-- The command that a transaction is, by the bytes the host clocks in it, the code byte first: the bytes of a STATUS or
a READ RESPONSE after the code byte are ignored, and their number counts (R173 to R176). No byte makes no transaction. -/
def transactionOf : List Byte → Option Instr
  | [] => none
  | code :: clocked =>
    match transactionCode code with
    | .status => some (.status code clocked.length)
    | .writeRequest => some (.writeRequest clocked)
    | .readResponse => some (.readResponse clocked.length)
    | .writeUrgent => some (.writeUrgent clocked)

/-- The command that the table's bits give the word `w` of `nbits` bits: none, since no row gives bits. -/
def decodeTableWord (nbits w : Nat) : Option Instr :=
  match nbits, w with
  | _, _ => none

end Sys2Proof
end

