-- ==== Sys2Proof/Config.lean ====
section
/-! DEFINITION. What the part fixes once (frame rates and their periods, fixed times and sizes) and the
free values: what the spec leaves open and the model does not choose. -/

namespace Sys2Proof

/-- The four frame rates (00_scope.md, R179, codes of R192). -/
inductive FrameRate
  | r25 | r2997 | r50 | r5994
  deriving DecidableEq, Repr

namespace Config

/-- Nominal frame period in µs, as the table of 00_scope.md states it. -/
def nominalPeriod : FrameRate → Nat
  | .r25 => 40000
  | .r2997 => 33367
  | .r50 => 20000
  | .r5994 => 16683

/-- Confirmation timeout, two nominal frame periods, in µs, as the table of 00_scope.md states it.
R51's ready wait has the same length. -/
def twoPeriods : FrameRate → Nat
  | .r25 => 80000
  | .r2997 => 66733
  | .r50 => 40000
  | .r5994 => 33367

/-- Quarter of a nominal frame period in µs, as the table of R44 states it. -/
def quarterPeriod : FrameRate → Nat
  | .r25 => 10000
  | .r2997 => 8342
  | .r50 => 5000
  | .r5994 => 4171

/-- Half of the lamp flash in µs (R71). -/
def flashHalf : Nat := 250000

/-- Milliseconds as µs. -/
def ms (n : Nat) : Nat := n * 1000

/-- Minutes as µs. -/
def minutes (n : Nat) : Nat := n * 60000000

/-- Pending salvo queue (R29). -/
def salvoQueueSize : Nat := 4

/-- Store queue (R182). -/
def storeQueueSize : Nat := 4

/-- Interrupter list (R111). -/
def interrupterSize : Nat := 8

/-- Words of the store memory (R181). -/
def storeWords : Nat := 4096

/-- What a store word that nothing has written reads as: DESIGN CHOICE (log 4). -/
def blankWord : Word := 0

/-- First word of preset `n`: 1024 + 17n (R196). -/
def presetBase (n : Nat) : Nat := 1024 + 17 * n

/-- FREE VALUE (log 9): does a word write that the memory had taken land when a start cuts it off? R187 says
"completed or lost inside the memory". Applied to the counter `State.free`. -/
opaque cutWriteLands : Nat → Bool

/-- FREE VALUE (log 14): the tag in the response to a control-link request of one byte, which carries no tag.
Applied to the counter `State.free`. -/
opaque missingTag : Nat → Byte

/-- FREE VALUE (log 25): is a remaining time of this many µs, not a whole number of ms, reported rounded up? R107 and
R140 give it "in milliseconds" and say no more. -/
opaque roundsUp : Nat → Bool

end Config

end Sys2Proof
end

