-- ==== Sys2Proof/Machine/State.lean ====
section
/-! DEFINITION. The state of the controller, block by block as the spec names it, and the state right after POWER. -/

namespace Sys2Proof.Machine

/-- A source S0–S63. -/
abbrev Src := Fin 64
/-- A destination D0–D47. -/
abbrev Dst := Fin 48
/-- A panel link or station P0–P7. -/
abbrev Pnl := Fin 8
/-- A party Y0–Y31. -/
abbrev Pty := Fin 32
/-- A tally channel T0–T31. -/
abbrev Chn := Fin 32
/-- A talk key K0–K127. -/
abbrev KeyId := Fin 128
/-- A changeover guard G0–G3. -/
abbrev Gid := Fin 4
/-- A signal line L0–L15. -/
abbrev Lid := Fin 16

/-! ### Reasons a step can stop -/

/-- The spec names no condition that stops the controller, so a fault has no constructor: safe, since no step ends in
one. -/
inductive Fault
  deriving DecidableEq, Repr

/-- Why a command has no meaning here. -/
inductive Refusal
  /-- Raised by exec for a command the model gives no meaning yet, by its row's name: safe. No arm of exec raises it. -/
  | notModelled (mnemonic : String)
  deriving DecidableEq, Repr

/-! ### Timing values (R179) -/

/-- The four values SET TIMING replaces. -/
structure Timing where
  rate : FrameRate
  /-- Latch threshold in ms. -/
  threshold : Nat
  /-- Latch limit in min, 0 for none. -/
  limit : Nat
  /-- Link timeout in ms. -/
  linkTimeout : Nat
  deriving DecidableEq, Repr

/-- Factory timing: 50 frames/s, 350 ms, 15 min, 500 ms (R179). -/
def Timing.factory : Timing := ⟨.r50, 350, 15, 500⟩

/-! ### Route table (R1 to R4) -/

/-- The class of a destination; SWIN alone carries a switcher input index (R1, R2). -/
inductive DestClass
  | plain | tx | pvw | iso | swin (w : Fin 24) | ifb
  deriving DecidableEq, Repr

/-- A destination definition (R1). -/
structure DestDef where
  cls : DestClass
  home : Src
  deriving DecidableEq, Repr

/-- The factory definition of Dd: PLAIN with home source Sd (R2). -/
def DestDef.factory (d : Dst) : DestDef := ⟨.plain, ⟨d.1, by omega⟩⟩

/-- A salvo mark: originator and tag (R3), with the place of the pair in its salvo and the recall flag, from which R30
rebuilds the salvo. -/
structure Mark where
  orig : Origin
  tag : Byte
  pair : Nat
  isRecall : Bool
  deriving DecidableEq, Repr

/-- A staged change: routed by a requester, a pair of a salvo, or staged by a guard. A guard's change never carries a
salvo mark (R3). -/
inductive Staged
  | routed (source : Src) (orig : Origin)
  | salvo (source : Src) (mark : Mark)
  | guarded (source : Src) (g : Gid)
  deriving DecidableEq, Repr

/-- The kinds of lock (R11). -/
inductive LockKind
  | lock | protect
  deriving DecidableEq, Repr

/-- A lock of a destination (R11). -/
structure Lock where
  owner : Origin
  kind : LockKind
  deriving DecidableEq, Repr

/-- A confirmation state; AWAITING runs the confirmation timer, in µs left (R53 to R57). -/
inductive Confirmation
  | settled
  | awaiting (left : Nat)
  | unconfirmed
  | mismatch
  deriving DecidableEq, Repr

/-- A route entry (R3). -/
structure Entry where
  current : Src
  staged : Option Staged
  lock : Option Lock
  hold : Option Gid
  /-- The interrupter list; it stands empty on a destination that is not IFB, which has none (R111). -/
  interrupters : List KeyId
  commanded : Option Src
  confirmation : Option Confirmation
  reported : Option Src
  deriving DecidableEq, Repr

/-- A route entry after POWER and LINE that carries source `s` (R23). -/
def Entry.fresh (s : Src) : Entry := ⟨s, none, none, none, [], none, none, none⟩

/-! ### Salvo unit (R29) -/

/-- An entry of the pending salvo queue. -/
structure PendingSalvo where
  orig : Origin
  tag : Byte
  pairs : List (Dst × Src)
  isRecall : Bool
  deriving DecidableEq, Repr

/-! ### Take engine (R42 to R51) -/

/-- The state of the reference monitor (R42). -/
inductive Reference
  | ok | lost
  deriving DecidableEq, Repr

/-- A burst in flight: the command words not yet sent, oldest first, and the µs left of the wait for ready (R50, R51). -/
structure Burst where
  todo : List (Dst × Src)
  wait : Nat
  deriving DecidableEq, Repr

/-- The take engine and the command channel of the feed matrix port. -/
structure TakeEngine where
  reference : Reference
  missed : Fin 3
  frameTimer : Nat
  /-- µs since the last take event, if there has been one since the start (R44). -/
  sinceTake : Option Nat
  dirty : Tab Bool 48
  /-- Present while the burst-in-flight flag is set (R48). -/
  burst : Option Burst
  /-- The last command word sent (R195). -/
  feedWord : Option Word
  deriving DecidableEq, Repr

/-! ### Tally unit (R67 to R75) -/

/-- A lamp state (R67). -/
inductive Lamp
  | off | on | flash
  deriving DecidableEq, Repr

/-- A tally channel (R67). -/
structure Channel where
  mapped : Option Src
  red : Lamp
  green : Lamp
  amber : Lamp
  calls : Nat
  deriving DecidableEq, Repr

/-- A channel that maps nothing and counts no call (R84). -/
def Channel.dark : Channel := ⟨none, .off, .off, .off, 0⟩

/-- The tally unit: switcher settings and record, channels, flash timer. -/
structure TallyUnit where
  switcher : Option Pnl
  programSource : Option Src
  program : Tab Bool 24
  preview : Tab Bool 24
  fresh : Bool
  channels : Tab Channel 32
  flashLit : Bool
  flashTimer : Nat
  deriving DecidableEq, Repr

/-! ### Talk engine (R86 to R101) -/

/-- The modes of a key (R90). -/
inductive KeyMode
  | auto | momentary | latch
  deriving DecidableEq, Repr

/-- The target of a key; only a party key may carry the call flag (R90). -/
inductive KeyTarget
  | party (y : Pty) (call : Bool)
  | ifb (d : Dst)
  deriving DecidableEq, Repr

/-- The definition of an assigned key (R90). -/
structure KeyDef where
  mode : KeyMode
  target : KeyTarget
  deriving DecidableEq, Repr

/-- The state of a key. The threshold timer runs in TIMING of an AUTO key and the latch-limit timer in LATCHED when the
limit is not 0, each in µs left (R90, R96, R97). -/
inductive KeyState
  | idle
  | timing (threshold : Option Nat)
  | held
  | latched (limit : Option Nat)
  | clearing
  deriving DecidableEq, Repr

/-- A key record; no definition means not assigned (R90). -/
structure Key where
  defn : Option KeyDef
  state : KeyState
  deriving DecidableEq, Repr

/-- The talk engine and the talk matrix port. -/
structure TalkEngine where
  mics : Tab (Option Src) 8
  parties : Tab (Option Chn) 32
  keys : Tab Key 128
  /-- Hold counts, by station and party (R100). -/
  holds : Tab (Tab Nat 32) 8
  /-- Commanded state of each crosspoint, true for CLOSED (R100). -/
  closed : Tab (Tab Bool 32) 8
  sendList : List (Pnl × Pty)
  /-- The last word sent on the talk matrix port (R195). -/
  talkWord : Word
  deriving DecidableEq, Repr

/-! ### Guard unit (R124) -/

/-- The definition of a guard. -/
structure GuardDef where
  line : Lid
  /-- Trip level HIGH. -/
  high : Bool
  /-- Debounce time in ms. -/
  debounce : Nat
  /-- Restore mode AUTO. -/
  auto : Bool
  fallback : List (Dst × Src)
  /-- The line action: the forced value of each line it names. -/
  action : Tab (Option Bool) 16
  armedAtStart : Bool
  deriving DecidableEq, Repr

/-- The factory definition of every guard (R124). -/
def GuardDef.factory : GuardDef := ⟨0, true, 1, false, [], tabOf fun _ => none, false⟩

/-- The state of a guard, with the guard timer (µs left) in DEBOUNCING and RECOVERING and the return list in TRIPPED and
RECOVERING (R124). -/
inductive GuardState
  | disabled
  | armed
  | debouncing (timer : Nat)
  | tripped (returns : List Src)
  | recovering (timer : Nat) (returns : List Src)
  deriving DecidableEq, Repr

/-- A guard record. -/
structure Guard where
  defn : GuardDef
  state : GuardState
  deriving DecidableEq, Repr

/-! ### Signal line unit (R143) -/

/-- The output mode of an OUT line with its target. -/
inductive OutMode
  | manual
  | tally (source : Src)
  | talk (party : Pty)
  deriving DecidableEq, Repr

/-- A line record: an IN line has an input sample (true for high); an OUT line a mode, a manual latch and a driven
value (true for on). -/
inductive Line
  | input (sample : Bool)
  | output (mode : OutMode) (latch driven : Bool)
  deriving DecidableEq, Repr

/-- The sixteen lines, and the level outside equipment puts on each pin. -/
structure LineUnit where
  recs : Tab Line 16
  pins : Tab Bool 16
  deriving DecidableEq, Repr

/-! ### Panel link unit (R154) -/

/-- The result codes of R192. -/
inductive Result
  | ok | accepted | queued | staged | dropped | empty | range | repeated
  | cls | config | guarded | locked | notOwner | inUse | full | welcome
  | storeBusy | storeLocked | notPermitted | notArmed | stillFaulted | quiescing | busy | notReady
  deriving DecidableEq, Repr

/-- The states of a panel link (R158). -/
inductive LinkState
  | down | up | quiescing | quiesced
  deriving DecidableEq, Repr

/-- The record classes a link subscribes to (R167). -/
structure Subs where
  routes : Bool
  tally : Bool
  keys : Bool
  deriving DecidableEq, Repr

/-- No subscription. -/
def Subs.none : Subs := ⟨false, false, false⟩

/-- A record reference of a change set; a key is named by its number on the link's own panel (R154). -/
inductive Ref
  | route (d : Dst)
  | tally (c : Chn)
  | key (k : Fin 16)
  deriving DecidableEq, Repr

/-- The kinds of request that deferred outcomes name (R34). -/
inductive OutcomeKind
  | salvo | recallPreset | savePreset | clearPreset
  deriving DecidableEq, Repr

/-- An item of a link's reply queue: a reply to the request of type `typ`, which may be the reply the held buffer waits
for, or a deferred outcome (R34, R190, R191). -/
inductive Item
  | reply (typ tag : Byte) (code : Result) (params : List Byte) (answersHeld : Bool)
  | outcome (kind : OutcomeKind) (tag : Byte) (code : Result) (ended : Bool) (detail : Byte)
  deriving DecidableEq, Repr

/-- The held buffer: the body of one frame, and whether its request still waits for its block (R156). -/
structure HeldFrame where
  body : List Byte
  waiting : Bool
  deriving DecidableEq, Repr

/-- A frame the transmitter is sending, and whether its end frees the held buffer (R156, R165). -/
structure Sending where
  frame : List Byte
  freesHeld : Bool
  deriving DecidableEq, Repr

/-- A panel link record (R154). -/
structure Link where
  state : LinkState
  assembling : List Byte
  held : Option HeldFrame
  supervision : Option Nat
  subs : Subs
  changes : List Ref
  hold : Option Nat
  replies : List Item
  /-- Type and tag of the frame the waiting BUSY refuses. -/
  busy : Option (Byte × Byte)
  sending : Option Sending
  /-- Quiesce response owed, with the tag of the QUIESCE LINK. -/
  quiesceOwed : Option Byte
  deriving DecidableEq, Repr

/-- A link after POWER and LINE (R172). -/
def Link.start : Link := ⟨.down, [], none, none, .none, [], none, [], none, none, none⟩

/-! ### Control link (R173 to R180) -/

/-- The request buffer: a request body, and whether it still waits for its block. -/
structure Request where
  body : List Byte
  waiting : Bool
  deriving DecidableEq, Repr

/-- URG_RESULT (R173). -/
inductive UrgentResult
  | ok | range | notArmed | notReady
  deriving DecidableEq, Repr

/-- Start causes (R178). -/
inductive StartCause
  | power | line | restart
  deriving DecidableEq, Repr

/-- The attention causes (R177). -/
inductive Cause
  | guardTrip (g : Gid)
  | mismatch | linkDown | switcherStale | refLost | configDefaulted
  deriving DecidableEq, Repr

/-- The control link. RSP_READY, ATTN and the status byte are computed from it. -/
structure ControlLink where
  ready : Bool
  request : Option Request
  reqFree : Bool
  response : Option (List Byte)
  urgent : Option (List Byte)
  urgFree : Bool
  discard : Bool
  urgResult : UrgentResult
  /-- The attention set, by the bit numbers of R190. -/
  attention : Tab Bool 9
  mask : Tab Bool 9
  startCause : StartCause
  preserved : Bool
  /-- The bytes clocked out in the latest transaction. -/
  out : List Byte
  deriving DecidableEq, Repr

/-! ### Store engine (R181 to R187) -/

/-- What a store operation does; a save holds its snapshot (R182). -/
inductive StoreWork
  | save (pairs : List (Dst × Src))
  | clear
  | recallPreset
  deriving DecidableEq, Repr

/-- An operation of the store queue (R182). -/
structure StoreOp where
  work : StoreWork
  orig : Origin
  tag : Byte
  preset : Fin 64
  deriving DecidableEq, Repr

/-- An operation in progress: a write sequence whose first word awaits ready, a RECALL's read, or the one word that a
RESTART lets finish, with the tag of the RESTART (R183, R187). A marked operation's outcome is discarded. -/
inductive Job
  | write (op : StoreOp) (first : Nat × Word) (rest : List (Nat × Word)) (marked : Bool)
  | read (op : StoreOp) (marked : Bool)
  | drain (word : Nat × Word) (tag : Byte)
  deriving DecidableEq, Repr

/-- A raw write in progress: its request's tag, the word that awaits ready and the words after it (R186). -/
structure RawJob where
  tag : Byte
  first : Nat × Word
  rest : List (Nat × Word)
  deriving DecidableEq, Repr

/-- The engine state with the grant: BUSY may have a STORE GRANT waiting (grant PENDING, with its tag), and GRANTED is
grant HELD (R182, R185). -/
inductive Engine
  | loading
  | idle
  | busy (job : Job) (wanted : Option Byte)
  | granted (raw : Option RawJob)
  deriving DecidableEq, Repr

/-- A command on the store port (R181). -/
inductive PortCmd
  | read (start count : Nat)
  | writeEnable
  | writeWord (a : Nat) (v : Word)
  | writeDisable
  deriving DecidableEq, Repr

/-- The store memory: (word address, word) pairs, addresses strictly rising, none equal to what an unlisted address
reads as. -/
abbrev Memory := List (Nat × Word)

/-- The store engine and the memory it speaks to. -/
structure StoreEngine where
  engine : Engine
  queue : List StoreOp
  permit : Bool
  /-- The memory's write-enable latch. -/
  latch : Bool
  mem : Memory
  /-- The commands sent by the latest step that used the store port, in order. -/
  port : List PortCmd
  deriving DecidableEq, Repr

/-! ### The whole state -/

/-- The state of the controller. -/
structure State where
  timing : Timing
  defs : Tab DestDef 48
  routes : Tab Entry 48
  salvos : List PendingSalvo
  take : TakeEngine
  tally : TallyUnit
  talk : TalkEngine
  guards : Tab Guard 4
  lines : LineUnit
  links : Tab Link 8
  ctl : ControlLink
  store : StoreEngine
  /-- The model's own: how many free values have been used. -/
  free : Nat
  /-- The commands waiting to be taken, first in first out. -/
  pending : List Instr
  deriving DecidableEq, Repr

/-- The state right after a POWER or LINE start: the ALL OPEN word and write-disable are sent, the engine is LOADING and
reads words 0–320 (R188; values of R23, R33, R45, R60, R84, R109, R123, R141, R152, R172, R173, R177, R178, R189).
The definitions and current sources stand at the factory values until the load ends (log 8). -/
def State.start (cause : StartCause) (mem : Memory) (pins : Tab Bool 16) (free : Nat) (pending : List Instr) : State where
  timing := Timing.factory
  defs := tabOf DestDef.factory
  routes := tabOf fun d => Entry.fresh (DestDef.factory d).home
  salvos := []
  take := ⟨.lost, 0, Config.nominalPeriod .r50, none, tabOf fun _ => true, none, none⟩
  tally := ⟨none, none, tabOf fun _ => false, tabOf fun _ => false, true, tabOf fun _ => Channel.dark, true,
    Config.flashHalf⟩
  talk := ⟨tabOf fun _ => none, tabOf fun _ => none, tabOf fun _ => ⟨none, .idle⟩, tabOf fun _ => tabOf fun _ => 0,
    tabOf fun _ => tabOf fun _ => false, [], 0x8000⟩
  guards := tabOf fun _ => ⟨GuardDef.factory, .disabled⟩
  lines := ⟨tabOf fun l => .input (pins.at l), pins⟩
  links := tabOf fun _ => Link.start
  ctl := ⟨false, none, true, none, none, true, false, .ok, tabOf fun _ => false, tabOf fun _ => true, cause, false, []⟩
  store := ⟨.loading, [], false, false, mem, [.writeDisable, .read 0 321]⟩
  free := free
  pending := pending

/-- The state right after POWER, with a blank store memory (log 4) and every pin low (log 6). -/
def State.reset : State := State.start .power [] (tabOf fun _ => false) 0 []

end Sys2Proof.Machine
end

