-- ==== Sys2Proof/Machine/Operands.lean ====
section
/-! DEFINITION. The operand forms of requests: message types, numbers of things, optional fields, sets and named
values, with the codes of R190 and R192, and which requests pass a link's own checks. -/

namespace Sys2Proof.Machine

/-! ### Message types (R192) -/

/-- The request kinds, in the order of R192's message types. -/
inductive ReqKind
  | hello | bye | ping | subscribe | hold | resume
  | route | salvo | cancelSalvo | lock | protect | unlock | forceUnlock | savePreset | clearPreset | recallPreset
  | queryRoute | querySalvos | queryTally | queryKey | queryGuard | queryLine
  | keyDown | keyUp | busTally
  | defineDestination | defineTallyChannel | defineStation | defineParty | defineKey | defineGuard | defineLine
  | setSwitcher | setTiming | armGuard | disarmGuard | restoreGuard | lineSet | quiesceLink | clearSwitcherTally
  | matrixRefresh
  | storeEnable | storeDisable | storeGrant | storeRelease | rawRead | rawWrite
  | readStatus | readAttention | setAttentionMask | restart
  | allTalkOff | tripGuard
  deriving DecidableEq, Repr

/-- Every request kind. -/
def ReqKind.all : List ReqKind :=
  [.hello, .bye, .ping, .subscribe, .hold, .resume,
   .route, .salvo, .cancelSalvo, .lock, .protect, .unlock, .forceUnlock, .savePreset, .clearPreset, .recallPreset,
   .queryRoute, .querySalvos, .queryTally, .queryKey, .queryGuard, .queryLine,
   .keyDown, .keyUp, .busTally,
   .defineDestination, .defineTallyChannel, .defineStation, .defineParty, .defineKey, .defineGuard, .defineLine,
   .setSwitcher, .setTiming, .armGuard, .disarmGuard, .restoreGuard, .lineSet, .quiesceLink, .clearSwitcherTally,
   .matrixRefresh,
   .storeEnable, .storeDisable, .storeGrant, .storeRelease, .rawRead, .rawWrite,
   .readStatus, .readAttention, .setAttentionMask, .restart,
   .allTalkOff, .tripGuard]

/-- The message type byte of a request (R192). -/
def ReqKind.code : ReqKind → Byte
  | .hello => 0x01
  | .bye => 0x02
  | .ping => 0x03
  | .subscribe => 0x04
  | .hold => 0x05
  | .resume => 0x06
  | .route => 0x10
  | .salvo => 0x11
  | .cancelSalvo => 0x12
  | .lock => 0x13
  | .protect => 0x14
  | .unlock => 0x15
  | .forceUnlock => 0x16
  | .savePreset => 0x17
  | .clearPreset => 0x18
  | .recallPreset => 0x19
  | .queryRoute => 0x20
  | .querySalvos => 0x21
  | .queryTally => 0x22
  | .queryKey => 0x23
  | .queryGuard => 0x24
  | .queryLine => 0x25
  | .keyDown => 0x28
  | .keyUp => 0x29
  | .busTally => 0x2A
  | .defineDestination => 0x30
  | .defineTallyChannel => 0x31
  | .defineStation => 0x32
  | .defineParty => 0x33
  | .defineKey => 0x34
  | .defineGuard => 0x35
  | .defineLine => 0x36
  | .setSwitcher => 0x37
  | .setTiming => 0x38
  | .armGuard => 0x39
  | .disarmGuard => 0x3A
  | .restoreGuard => 0x3B
  | .lineSet => 0x3C
  | .quiesceLink => 0x3D
  | .clearSwitcherTally => 0x3E
  | .matrixRefresh => 0x3F
  | .storeEnable => 0x40
  | .storeDisable => 0x41
  | .storeGrant => 0x42
  | .storeRelease => 0x43
  | .rawRead => 0x44
  | .rawWrite => 0x45
  | .readStatus => 0x48
  | .readAttention => 0x49
  | .setAttentionMask => 0x4A
  | .restart => 0x4B
  | .allTalkOff => 0x4C
  | .tripGuard => 0x4D

/-- The request kind of a message type byte, if it is a request (R157, R174). -/
def ReqKind.ofCode? (b : Byte) : Option ReqKind := ReqKind.all.find? fun k => k.code == b

/-- The urgent requests, which travel through the urgent slot alone (R174, R176). -/
def ReqKind.urgent : ReqKind → Bool
  | .allTalkOff | .tripGuard => true
  | _ => false

/-- The control-only requests (section 10.7). -/
def ReqKind.controlOnly : ReqKind → Bool
  | .defineDestination | .defineTallyChannel | .defineStation | .defineParty | .defineKey | .defineGuard | .defineLine
  | .setSwitcher | .clearSwitcherTally | .setTiming | .armGuard | .disarmGuard | .restoreGuard | .lineSet
  | .forceUnlock | .quiesceLink | .matrixRefresh
  | .storeEnable | .storeDisable | .storeGrant | .storeRelease | .rawRead | .rawWrite
  | .readStatus | .readAttention | .setAttentionMask | .restart | .allTalkOff | .tripGuard => true
  | _ => false

/-- The requests that belong to a panel session (R174, check 3). -/
def ReqKind.panelOnly : ReqKind → Bool
  | .hello | .bye | .subscribe | .hold | .resume | .keyDown | .keyUp | .busTally => true
  | _ => false

/-- The requests a QUIESCING link still takes: KEY UP, PING, BYE and the queries (R157, check 4). -/
def ReqKind.takenQuiescing : ReqKind → Bool
  | .keyUp | .ping | .bye | .queryRoute | .querySalvos | .queryTally | .queryKey | .queryGuard | .queryLine => true
  | _ => false

/-! ### Numbers of things (R190) -/

/-- The thing numbered `x` of `n` things, if there is one. -/
def finOf (n x : Nat) : Option (Fin n) := if h : x < n then some ⟨x, h⟩ else none

/-- An optional one-byte field: 0xFF is absent, a number names a thing, any other value is out of range. -/
def optOf (n x : Nat) : Option (Option (Fin n)) := if x = 255 then some none else (finOf n x).map some

/-- Every item converted, or none if one is out of range. -/
def allOf {α β : Type} (f : α → Option β) : List α → Option (List β)
  | [] => some []
  | a :: as =>
    match f a, allOf f as with
    | some b, some bs => some (b :: bs)
    | _, _ => none

/-- A (destination, source) pair in range. -/
def pairOf (p : Nat × Nat) : Option (Dst × Src) :=
  match finOf 48 p.1, finOf 64 p.2 with
  | some d, some s => some (d, s)
  | _, _ => none

/-- A set carried as a bitmap, bit i for member i. -/
def bitsOf (n x : Nat) : Tab Bool n := tabOf fun i => x.testBit i.1

/-- The bitmap of a set. -/
def bitmap {n : Nat} (t : Tab Bool n) : Nat := (fins n).foldl (fun acc i => acc + if t.at i then 2 ^ i.1 else 0) 0

/-- No item stands twice. -/
def distinct {α : Type} [DecidableEq α] : List α → Bool
  | [] => true
  | a :: as => !as.contains a && distinct as

/-! ### Named values (R192) -/

def rateOf? : Nat → Option FrameRate
  | 0 => some .r25
  | 1 => some .r2997
  | 2 => some .r50
  | 3 => some .r5994
  | _ => none

def DestClass.code : DestClass → Nat
  | .plain => 0
  | .tx => 1
  | .pvw => 2
  | .iso => 3
  | .swin _ => 4
  | .ifb => 5

/-- The switcher input index a class carries (R2). -/
def DestClass.input : DestClass → Option (Fin 24)
  | .swin w => some w
  | _ => none

/-- A class code with its switcher input index: present with SWIN and with SWIN only (R2, R19). -/
def DestClass.of? (code : Nat) (index : Option (Fin 24)) : Option DestClass :=
  match code, index with
  | 0, none => some .plain
  | 1, none => some .tx
  | 2, none => some .pvw
  | 3, none => some .iso
  | 4, some w => some (.swin w)
  | 5, none => some .ifb
  | _, _ => none

def LockKind.code : LockKind → Nat
  | .lock => 0
  | .protect => 1

def Confirmation.code : Confirmation → Nat
  | .settled => 0
  | .awaiting _ => 1
  | .unconfirmed => 2
  | .mismatch => 3

def Lamp.code : Lamp → Nat
  | .off => 0
  | .on => 1
  | .flash => 2

def KeyMode.code : KeyMode → Nat
  | .auto => 0
  | .momentary => 1
  | .latch => 2

def KeyMode.ofCode? : Nat → Option KeyMode
  | 0 => some .auto
  | 1 => some .momentary
  | 2 => some .latch
  | _ => none

def KeyState.code : KeyState → Nat
  | .idle => 0
  | .timing _ => 1
  | .held => 2
  | .latched _ => 3
  | .clearing => 4

def GuardState.code : GuardState → Nat
  | .disabled => 0
  | .armed => 1
  | .debouncing _ => 2
  | .tripped _ => 3
  | .recovering _ _ => 4

def LinkState.code : LinkState → Nat
  | .down => 0
  | .up => 1
  | .quiescing => 2
  | .quiesced => 3

def StartCause.code : StartCause → Nat
  | .power => 0
  | .line => 1
  | .restart => 2

/-- Engine state codes (R192). -/
def Engine.code : Engine → Nat
  | .loading => 0
  | .idle => 1
  | .busy _ _ => 2
  | .granted _ => 3

/-- Grant codes: NONE, PENDING, HELD (R182, R192). -/
def Engine.grantCode : Engine → Nat
  | .busy _ (some _) => 1
  | .granted _ => 2
  | _ => 0

def Result.code : Result → Byte
  | .ok => 0x00
  | .accepted => 0x01
  | .queued => 0x02
  | .staged => 0x03
  | .dropped => 0x04
  | .empty => 0x05
  | .range => 0x06
  | .repeated => 0x07
  | .cls => 0x08
  | .config => 0x09
  | .guarded => 0x0A
  | .locked => 0x0B
  | .notOwner => 0x0C
  | .inUse => 0x0D
  | .full => 0x0E
  | .welcome => 0x0F
  | .storeBusy => 0x10
  | .storeLocked => 0x11
  | .notPermitted => 0x12
  | .notArmed => 0x13
  | .stillFaulted => 0x14
  | .quiescing => 0x15
  | .busy => 0x16
  | .notReady => 0x17

/-- The originator code of a requester: the panel number, or 8 for CTL (R190). -/
def originCode : Origin → Nat
  | .panel p => p.1
  | .ctl => 8

/-- Outcomes name their request by its type (R191). -/
def OutcomeKind.req : OutcomeKind → ReqKind
  | .salvo => .salvo
  | .recallPreset => .recallPreset
  | .savePreset => .savePreset
  | .clearPreset => .clearPreset

/-! ### Codes a link checks before any block (R190, log 16, log 34) -/

/-- DEFINE KEY: the assigned flag, and with it set the mode, the target kind and the call flag. An unassigning request's
other fields are ignored (R91). That a flag of 2 or more is RANGE is DEDUCED (log 34). -/
def keyCodesOk (assigned mode kind call : Nat) : Bool :=
  assigned == 0 || (assigned == 1 && mode < 3 && kind < 2 && call < 2)

/-- DEFINE LINE: the direction, and for OUT the mode and the latch. For IN the rest is not checked (R150). That an initial
latch of 2 or more is RANGE, which R150 and R192 leave open, is a DESIGN CHOICE (log 34). -/
def lineCodesOk (direction mode latch : Nat) : Bool :=
  direction == 0 || (direction == 1 && mode < 3 && latch < 2)

/-- DEFINE GUARD: trip level, restore mode and armed-at-start flag. That a flag of 2 or more is RANGE is DEDUCED (log 34). -/
def guardCodesOk (level mode armed : Nat) : Bool := level < 2 && mode < 2 && armed < 2

/-- No field of the request holds a code outside the field's table (R190). -/
def codesOk : Instr → Bool
  | .defineDestination _ _ _ cls _ _ => cls < 6
  | .defineKey _ _ _ assigned mode kind _ call => keyCodesOk assigned mode kind call
  | .defineGuard _ _ _ _ level _ mode armed _ _ _ => guardCodesOk level mode armed
  | .defineLine _ _ _ direction mode _ latch => lineCodesOk direction mode latch
  | .setTiming _ _ rate _ _ _ => rate < 4
  | .queryTally _ _ kind _ => kind < 3
  | .queryKey _ _ kind _ => kind < 3
  | _ => true

end Sys2Proof.Machine
end

