-- ==== Sys2Proof/Machine/Flags.lean ====
section
/-! DEFINITION. The flags: the attention set with its output, and the status byte of the control link (R173, R177, R194). -/

namespace Sys2Proof.Machine

/-- The bit of an attention cause (R190). -/
def Cause.bit : Cause → Fin 9
  | .guardTrip g => ⟨g.1, by omega⟩
  | .mismatch => 4
  | .linkDown => 5
  | .switcherStale => 6
  | .refLost => 7
  | .configDefaulted => 8

/-- Place a cause in the attention set; a cause already in the set leaves it unchanged (R177). -/
def raise (c : Cause) (s : State) : State :=
  { s with ctl := { s.ctl with attention := s.ctl.attention.put c.bit true } }

/-- The attention output is asserted and ATTN set while the set holds a cause whose enable is set (R177). -/
def attn (s : State) : Bool := (fins 9).any fun i => s.ctl.attention.at i && s.ctl.mask.at i

def UrgentResult.code : UrgentResult → Nat
  | .ok => 0
  | .range => 1
  | .notArmed => 2
  | .notReady => 3

/-- RSP_READY: a response waits in the response buffer (R173). -/
def rspReady (s : State) : Bool := s.ctl.response.isSome

/-- The status byte (R173), by the bits of R194. -/
def statusByte (s : State) : Byte :=
  BitVec.ofNat 8
    ((if s.ctl.ready then 128 else 0) + (if s.ctl.reqFree then 64 else 0) + (if rspReady s then 32 else 0)
      + (if s.ctl.urgFree then 16 else 0) + (if attn s then 8 else 0) + (if s.ctl.discard then 4 else 0)
      + s.ctl.urgResult.code)

/-- Take source codes: NONE before take events begin at READY, then REFERENCE or INTERNAL (R42, R45, R192; log 10). -/
def takeSourceCode (s : State) : Nat :=
  if s.ctl.ready then
    match s.take.reference with
    | .ok => 1
    | .lost => 2
  else 0

def Reference.code : Reference → Nat
  | .ok => 0
  | .lost => 1

end Sys2Proof.Machine
end

