-- ==== Sys2Proof/Machine/Ops.lean ====
section
/-! DEFINITION. The named operations over the records: reading and replacing one record, the store memory, the values
the route table, guard unit and signal line unit derive, and the passing of time. -/

namespace Sys2Proof.Machine

/-- What a command ends in. -/
abbrev Outcome := Host.Outcome State Fault Refusal

/-! ### One record at a time -/

def State.entry (s : State) (d : Dst) : Entry := s.routes.at d
def State.setEntry (s : State) (d : Dst) (e : Entry) : State := { s with routes := s.routes.put d e }

def State.link (s : State) (p : Pnl) : Link := s.links.at p
def State.setLink (s : State) (p : Pnl) (l : Link) : State := { s with links := s.links.put p l }

def State.key (s : State) (k : KeyId) : Key := s.talk.keys.at k
def State.setKey (s : State) (k : KeyId) (x : Key) : State :=
  { s with talk := { s.talk with keys := s.talk.keys.put k x } }

def State.guard (s : State) (g : Gid) : Guard := s.guards.at g
def State.setGuard (s : State) (g : Gid) (x : Guard) : State := { s with guards := s.guards.put g x }

def State.channel (s : State) (c : Chn) : Channel := s.tally.channels.at c
def State.setChannel (s : State) (c : Chn) (x : Channel) : State :=
  { s with tally := { s.tally with channels := s.tally.channels.put c x } }

def State.line (s : State) (l : Lid) : Line := s.lines.recs.at l
def State.setLine (s : State) (l : Lid) (x : Line) : State :=
  { s with lines := { s.lines with recs := s.lines.recs.put l x } }

/-- The hold count of a station and party (R100). -/
def State.holdCount (s : State) (p : Pnl) (y : Pty) : Nat := (s.talk.holds.at p).at y
def State.setHold (s : State) (p : Pnl) (y : Pty) (n : Nat) : State :=
  { s with talk := { s.talk with holds := s.talk.holds.put p ((s.talk.holds.at p).put y n) } }

/-- The commanded state of a crosspoint, true for CLOSED (R100). -/
def State.crosspoint (s : State) (p : Pnl) (y : Pty) : Bool := (s.talk.closed.at p).at y
def State.setCrosspoint (s : State) (p : Pnl) (y : Pty) (b : Bool) : State :=
  { s with talk := { s.talk with closed := s.talk.closed.put p ((s.talk.closed.at p).put y b) } }

/-- Put a destination in the dirty set, where it stands once (R47). -/
def State.markDirty (s : State) (d : Dst) : State :=
  { s with take := { s.take with dirty := s.take.dirty.put d true } }

/-! ### Keys and stations (R86, R90) -/

/-- The station of key Kk is P(k div 16). -/
def stationOf (k : KeyId) : Pnl := ⟨k.1 / 16, by omega⟩

/-- The number of a key on its panel, k mod 16. -/
def keyNumber (k : KeyId) : Fin 16 := ⟨k.1 % 16, by omega⟩

/-- Key `i` of panel `p`: 16 × p + i. -/
def keyOf (p : Pnl) (i : Fin 16) : KeyId := ⟨16 * p.1 + i.1, by omega⟩

/-- The sixteen keys of a station, ascending. -/
def stationKeys (p : Pnl) : List KeyId := (fins 16).map (keyOf p)

/-- The talk states (R90). -/
def KeyState.talking : KeyState → Bool
  | .timing _ | .held | .latched _ => true
  | .idle | .clearing => false

def KeyState.isTiming : KeyState → Bool
  | .timing _ => true
  | _ => false

def KeyState.isLatched : KeyState → Bool
  | .latched _ => true
  | _ => false

/-- The key's target is IFB destination `d`. -/
def Key.targetsIfb (x : Key) (d : Dst) : Bool :=
  match x.defn with
  | some ⟨_, .ifb d'⟩ => d' = d
  | _ => false

/-- The key is assigned with target kind IFB. -/
def Key.isIfb (x : Key) : Bool :=
  match x.defn with
  | some ⟨_, .ifb _⟩ => true
  | _ => false

/-- The key is a call key of party `y`. -/
def Key.callsParty (x : Key) (y : Pty) : Bool :=
  match x.defn with
  | some ⟨_, .party y' true⟩ => y' = y
  | _ => false

/-- Some key of the station is in a talk state. -/
def stationTalks (s : State) (p : Pnl) : Bool := (stationKeys p).any fun k => (s.key k).state.talking

/-! ### The store memory (R181, log 4, log 5) -/

/-- The word at an address. -/
def memRead : Memory → Nat → Word
  | [], _ => Config.blankWord
  | (b, v) :: rest, a => if a = b then v else memRead rest a

/-- Write one word, keeping the canonical form. -/
def memWrite : Memory → Nat → Word → Memory
  | [], a, v => if v = Config.blankWord then [] else [(a, v)]
  | (b, w) :: rest, a, v =>
    if a < b then (if v = Config.blankWord then (b, w) :: rest else (a, v) :: (b, w) :: rest)
    else if a = b then (if v = Config.blankWord then rest else (a, v) :: rest)
    else (b, w) :: memWrite rest a v

/-- The canonical form: addresses strictly rising, no entry that reads as an unlisted address does. -/
def Memory.wf : Memory → Bool
  | [] => true
  | (a, v) :: rest => v != Config.blankWord && rest.all (fun c => a < c.1) && Memory.wf rest

/-! ### Values the route table derives (R4, R16, R49) -/

/-- The source of a staged change. -/
def Staged.source : Staged → Src
  | .routed x _ => x
  | .salvo x _ => x
  | .guarded x _ => x

/-- The requester a staged change comes from, if it is not a guard. -/
def Staged.requester : Staged → Option Origin
  | .routed _ o => some o
  | .salvo _ m => some m.orig
  | .guarded _ _ => none

/-- The salvo mark of a staged change. -/
def Staged.mark : Staged → Option Mark
  | .salvo _ m => some m
  | _ => none

/-- The salvo mark standing on an entry. -/
def Entry.mark (e : Entry) : Option Mark := e.staged.bind Staged.mark

/-- The entry has a staged change that carries a salvo mark (R6, R25). -/
def Entry.marked (e : Entry) : Bool := e.mark.isSome

/-- The entry's staged change belongs to the salvo (o, tag). -/
def Entry.inSalvo (e : Entry) (o : Origin) (tag : Byte) : Bool :=
  match e.mark with
  | some m => m.orig = o && m.tag = tag
  | none => false

/-- The lock test of R6 and R25: a LOCK of any owner, or a PROTECT of another owner. -/
def Entry.lockedAgainst (e : Entry) (o : Origin) : Bool :=
  match e.lock with
  | none => false
  | some l => l.kind = .lock || l.owner != o

/-- The tally source: the reported source if present, else the commanded source if present (R4). -/
def Entry.tallySource (e : Entry) : Option Src :=
  match e.reported with
  | some x => some x
  | none => e.commanded

/-- The effective interrupt source: the mic source of the station that owns the last key in the list (R4). -/
def effective (s : State) (d : Dst) : Option Src :=
  match (s.entry d).interrupters.getLast? with
  | none => none
  | some k => s.talk.mics.at (stationOf k)

/-- A lock is orphaned while its owning panel's link is in any state other than UP (R16). -/
def orphaned (s : State) (l : Lock) : Bool :=
  match l.owner with
  | .panel p => (s.link p).state != .up
  | .ctl => false

/-- The target of a take: the effective interrupt source, or the current source (R49). -/
def target (s : State) (d : Dst) : Src := (effective s d).getD (s.entry d).current

/-- Stage a change on a destination and put it in the dirty set (R7, R47). -/
def stageOn (d : Dst) (x : Staged) (s : State) : State :=
  (s.setEntry d { s.entry d with staged := some x }).markDirty d

/-! ### Guards and lines (R125, R145) -/

/-- The guard is TRIPPED or RECOVERING. -/
def GuardState.holding : GuardState → Bool
  | .tripped _ | .recovering _ _ => true
  | _ => false

def GuardState.isDisabled : GuardState → Bool
  | .disabled => true
  | _ => false

/-- The return list, present while TRIPPED or RECOVERING (R124). -/
def GuardState.returns : GuardState → Option (List Src)
  | .tripped r => some r
  | .recovering _ r => some r
  | _ => none

/-- The guard timer, running in DEBOUNCING and RECOVERING (R124). -/
def GuardState.timer : GuardState → Option Nat
  | .debouncing t => some t
  | .recovering t _ => some t
  | _ => none

/-- The monitor line's input sample stands at the trip level; an OUT line has no sample and does not match (R125,
log 19). -/
def matching (s : State) (g : GuardDef) : Bool :=
  match s.line g.line with
  | .input sample => sample == g.high
  | .output _ _ _ => false

/-- The value a TRIPPED or RECOVERING guard forces a line to, if one does (R145, R148). -/
def forced (s : State) (l : Lid) : Option Bool :=
  (fins 4).findSome? fun g => if (s.guard g).state.holding then (s.guard g).defn.action.at l else none

/-- The red lamp of some channel mapped to the source is not OFF (R83, R146). -/
def redShown (s : State) (x : Src) : Bool :=
  (fins 32).any fun c => (s.channel c).mapped = some x && (s.channel c).red != .off

/-- Some hold count of the party is above 0 (R147). -/
def partyHeard (s : State) (y : Pty) : Bool := (fins 8).any fun p => 0 < s.holdCount p y

/-- The value an OUT line's own mode gives (R145). -/
def modeValue (s : State) (mode : OutMode) (latch : Bool) : Bool :=
  match mode with
  | .manual => latch
  | .tally x => redShown s x
  | .talk y => partyHeard s y

/-- The driven value of an OUT line: the forced value, else its mode's (R145). -/
def drivenValue (s : State) (l : Lid) (mode : OutMode) (latch : Bool) : Bool :=
  (forced s l).getD (modeValue s mode latch)

/-- A line with its driven value in line with R145. -/
def drivenLine (s : State) (l : Lid) : Line :=
  match (s.line l) with
  | .input sample => .input sample
  | .output mode latch _ => .output mode latch (drivenValue s l mode latch)

/-- Bring every driven value into line with R145. -/
def driveLines (s : State) : State := { s with lines := { s.lines with recs := tabOf (drivenLine s) } }

/-! ### Time (log 2, log 3) -/

/-- A remaining time in ms; the rounding of a part of a ms is open (log 25). -/
def msLeft (t : Nat) : Nat := t / 1000 + if t % 1000 = 0 then 0 else if Config.roundsUp t then 1 else 0

/-- A remaining time in whole seconds, rounded up (R107). -/
def secondsLeft (t : Nat) : Nat := (t + 999999) / 1000000

/-- One µs off a timer that runs. -/
def tickTimer (t : Option Nat) : Option Nat := t.map (· - 1)

def tickEntry (e : Entry) : Entry :=
  match e.confirmation with
  | some (.awaiting t) => { e with confirmation := some (.awaiting (t - 1)) }
  | _ => e

def tickKey (k : Key) : Key :=
  match k.state with
  | .timing t => { k with state := .timing (tickTimer t) }
  | .latched t => { k with state := .latched (tickTimer t) }
  | _ => k

def tickGuard (g : Guard) : Guard :=
  match g.state with
  | .debouncing t => { g with state := .debouncing (t - 1) }
  | .recovering t r => { g with state := .recovering (t - 1) r }
  | _ => g

/-- One µs passes: every running timer has one µs less, down to 0, and the time since the last take event one more. An
expiry is a command of its own. -/
def tick (s : State) : State :=
  { s with
    routes := tabOf fun d => tickEntry (s.entry d)
    take := { s.take with
      frameTimer := s.take.frameTimer - 1
      sinceTake := s.take.sinceTake.map (· + 1)
      burst := s.take.burst.map fun b => { b with wait := b.wait - 1 } }
    tally := { s.tally with flashTimer := s.tally.flashTimer - 1 }
    talk := { s.talk with keys := tabOf fun k => tickKey (s.key k) }
    guards := tabOf fun g => tickGuard (s.guard g)
    links := tabOf fun p => { s.link p with
      supervision := tickTimer (s.link p).supervision
      hold := tickTimer (s.link p).hold } }

end Sys2Proof.Machine
end

