-- ==== Sys2Proof/Machine/TallyUnit.lean ====
section
/-! DEFINITION. The tally unit's computation: what each source's conditions are, which lamps they light, and the lamp
outputs (R62 to R73). -/

namespace Sys2Proof.Machine

/-- The five conditions of a source (section 4.2). -/
structure Conditions where
  pgmDirect : Bool
  pgmSwitcher : Bool
  pvwDirect : Bool
  pvwSwitcher : Bool
  iso : Bool
  deriving DecidableEq, Repr

/-- Some destination whose class satisfies `f` has tally source `x`. -/
def givenBy (s : State) (f : DestClass → Bool) (x : Src) : Bool :=
  (fins 48).any fun d => f (s.defs.at d).cls && (s.entry d).tallySource = some x

/-- The program gate: open with no switcher program source, or while that source is on a TX destination (R64). -/
def programGate (s : State) : Bool :=
  match s.tally.programSource with
  | none => true
  | some x => givenBy s (· = .tx) x

/-- Some switcher input of the set carries `x`: the SWIN destination of that input has tally source `x` (R63). -/
def carriedIn (s : State) (set : Tab Bool 24) (x : Src) : Bool :=
  givenBy s (fun c => match c with | .swin w => set.at w | _ => false) x

/-- The conditions of a source (R64 to R66). -/
def conditions (s : State) (x : Src) : Conditions where
  pgmDirect := givenBy s (· = .tx) x
  pgmSwitcher := programGate s && carriedIn s s.tally.program x
  pvwDirect := givenBy s (· = .pvw) x
  pvwSwitcher := carriedIn s s.tally.preview x
  iso := givenBy s (· = .iso) x

/-- The lamp of a direct and a via-switcher condition: direct is steady, via the switcher alone flashes while the record
is STALE (R68, R69). -/
def pathLamp (direct switcher fresh : Bool) : Lamp :=
  if direct then .on else if switcher then (if fresh then .on else .flash) else .off

/-- The red lamp (R68). -/
def redLamp (c : Conditions) (fresh : Bool) : Lamp := pathLamp c.pgmDirect c.pgmSwitcher fresh

/-- The green lamp, OFF while red is not OFF (R69). -/
def greenLamp (c : Conditions) (fresh : Bool) : Lamp :=
  if redLamp c fresh = .off then pathLamp c.pvwDirect c.pvwSwitcher fresh else .off

/-- The amber lamp: FLASH for a call, ON for ISO (R70). -/
def amberLamp (c : Conditions) (calls : Nat) : Lamp :=
  if 0 < calls then .flash else if c.iso then .on else .off

/-- A channel's lamps as its mapped source's conditions, the freshness and its call count give them; an unmapped channel
is dark (R67). -/
def lit (s : State) (c : Channel) : Channel :=
  match c.mapped with
  | none => { c with red := .off, green := .off, amber := .off }
  | some x =>
    { c with
      red := redLamp (conditions s x) s.tally.fresh
      green := greenLamp (conditions s x) s.tally.fresh
      amber := amberLamp (conditions s x) c.calls }

/-- Recompute the lamps of all 32 channels (R73). -/
def recompute (s : State) : State :=
  { s with tally := { s.tally with channels := tabOf fun c => lit s (s.channel c) } }

/-- Recompute the lamps, then the driven lines that follow them and the hold counts (R73, R83, R145). -/
def refresh (s : State) : State := driveLines (recompute s)

/-- A lamp's output, high for lit (R71). -/
def lampOutput (s : State) (l : Lamp) : Bool :=
  match l with
  | .off => false
  | .on => true
  | .flash => s.tally.flashLit

/-- The switcher tally record becomes STALE with its attention cause if `p` is the configured switcher link (R77). -/
def switcherLost (p : Pnl) (s : State) : State :=
  if s.tally.switcher = some p then raise .switcherStale { s with tally := { s.tally with fresh := false } } else s

/-- The channels mapped to a source, ascending (R81). -/
def mappedTo (s : State) (x : Src) : List Chn := (fins 32).filter fun c => (s.channel c).mapped = some x

end Sys2Proof.Machine
end

