-- ==== Sys2Proof/WellFormed.lean ====
section
/-! DEFINITION. Which commands are well formed: every field fits the width the message gives it, a request fits the link
it comes from, and a port word or code byte is of the form its port carries. Whether a well-formed request is in range is
the controller's own check and is answered RANGE by the meanings. -/

namespace Sys2Proof

/-- A field of a request body: one byte, two bytes high byte first, or a set of switcher inputs in three bytes with
W0–W7 first (R190). -/
inductive Field
  | one (n : Nat)
  | two (n : Nat)
  | inputs (n : Nat)
  deriving DecidableEq, Repr

/-- How many bytes a field takes. -/
def Field.size : Field → Nat
  | .one _ => 1
  | .two _ => 2
  | .inputs _ => 3

/-- The number fits the field. -/
def Field.fits : Field → Bool
  | .one n => n < 256
  | .two n => n < 65536
  | .inputs n => n < 16777216

/-- Pairs, each a destination byte and a source byte (R192). -/
def pairFields (ps : List (Nat × Nat)) : List Field := ps.flatMap fun p => [.one p.1, .one p.2]

/-- The fields a request carries after its type and tag, in the order of R192; none for an event or a transaction. -/
def Instr.fields : Instr → List Field
  | .powerOn => []
  | .lineReset => []
  | .loadComplete => []
  | .status _ _ => []
  | .writeRequest _ => []
  | .readResponse _ => []
  | .writeUrgent _ => []
  | .frameReceived _ _ => []
  | .interByteTimeout _ => []
  | .frameSent _ => []
  | .hello _ _ => []
  | .bye _ _ => []
  | .ping _ _ => []
  | .subscribe _ _ classes => [.one classes]
  | .hold _ _ time => [.two time]
  | .resume _ _ => []
  | .holdTimerExpiry _ => []
  | .supervisionExpiry _ => []
  | .route _ _ d source => [.one d, .one source]
  | .lock _ _ d => [.one d]
  | .protect _ _ d => [.one d]
  | .unlock _ _ d => [.one d]
  | .forceUnlock _ _ d => [.one d]
  | .defineDestination _ _ d cls index home => [.one d, .one cls, .one index, .one home]
  | .queryRoute _ _ d => [.one d]
  | .salvo _ _ pairs => .one pairs.length :: pairFields pairs
  | .cancelSalvo _ _ salvoTag => [.one salvoTag.toNat]
  | .querySalvos _ _ index => [.one index]
  | .savePreset _ _ preset dests => .one preset :: .one dests.length :: dests.map .one
  | .clearPreset _ _ preset => [.one preset]
  | .recallPreset _ _ preset => [.one preset]
  | .storeWordReady => []
  | .recallReadComplete => []
  | .referencePulse => []
  | .internalFrameTimerExpiry => []
  | .commandWord => []
  | .burstAbandon => []
  | .feedReport _ => []
  | .confirmationTimerExpiry _ => []
  | .matrixRefresh _ _ => []
  | .flashTimerExpiry => []
  | .busTally _ _ program preview => [.inputs program, .inputs preview]
  | .setSwitcher _ _ link source => [.one link, .one source]
  | .clearSwitcherTally _ _ => []
  | .defineTallyChannel _ _ channel source => [.one channel, .one source]
  | .queryTally _ _ kind number => [.one kind, .one number]
  | .defineStation _ _ station mic => [.one station, .one mic]
  | .defineParty _ _ party channel => [.one party, .one channel]
  | .defineKey _ _ key assigned mode kind target call =>
      [.one key, .one assigned, .one mode, .one kind, .one target, .one call]
  | .keyDown _ _ key => [.one key]
  | .keyUp _ _ key => [.one key]
  | .thresholdExpiry _ => []
  | .latchLimitExpiry _ => []
  | .talkPortSend => []
  | .allTalkOff => []
  | .queryKey _ _ kind number => [.one kind, .one number]
  | .armGuard _ _ g => [.one g]
  | .disarmGuard _ _ g => [.one g]
  | .debounceExpiry _ => []
  | .tripGuard g => [.one g]
  | .recoveryExpiry _ => []
  | .restoreGuard _ _ g => [.one g]
  | .defineGuard _ _ g line level debounce mode armed pairs actionSet actionValues =>
      [.one g, .one line, .one level, .two debounce, .one mode, .one armed, .one pairs.length]
        ++ pairFields pairs ++ [.two actionSet, .two actionValues]
  | .queryGuard _ _ g => [.one g]
  | .inputSampleChange _ _ => []
  | .lineSet _ _ lines values => [.two lines, .two values]
  | .defineLine _ _ line direction mode target latch =>
      [.one line, .one direction, .one mode, .one target, .one latch]
  | .queryLine _ _ line => [.one line]
  | .quiesceLink _ _ link => [.one link]
  | .setTiming _ _ rate threshold limit timeout => [.one rate, .two threshold, .one limit, .two timeout]
  | .readStatus _ _ => []
  | .readAttention _ _ => []
  | .setAttentionMask _ _ mask => [.two mask]
  | .restart _ _ => []
  | .storeEnable _ _ => []
  | .storeDisable _ _ => []
  | .storeGrant _ _ => []
  | .storeRelease _ _ => []
  | .rawRead _ _ start count => [.two start, .one count]
  | .rawWrite _ _ start words => .two start :: .one words.length :: words.map fun w => .two w.toNat

/-- Bytes a request's fields take. -/
def Instr.fieldBytes (i : Instr) : Nat := (i.fields.map Field.size).sum

/-- The longest body that a panel frame (R155) or a WRITE REQUEST (R174) carries: 62 bytes with type and tag fits both;
the control link takes 64. An urgent body carries no tag and at most 8 bytes (R176), which every urgent request fits. -/
def Origin.maxBody : Origin → Nat
  | .panel _ => 62
  | .ctl => 64

/-- The originator of a request that can be long, and none for the others, whose bodies always fit. -/
def Instr.longOrigin : Instr → Option Origin
  | .salvo o _ _ => some o
  | .savePreset o _ _ _ => some o
  | .defineGuard o _ _ _ _ _ _ _ _ _ _ => some o
  | .rawWrite o _ _ _ => some o
  | _ => none

/-- A command is well formed: its fields fit their widths, its body fits its link, a STATUS code byte names no other
transaction (R173, R194), and a report word holds 0 in the bits its layout does not name (R195). -/
def Instr.wellFormed (i : Instr) : Bool :=
  i.fields.all Field.fits
    && (match i.longOrigin with
        | some o => 2 + i.fieldBytes ≤ o.maxBody
        | none => true)
    && (match i with
        | .status code _ => transactionCode code = .status
        | .feedReport w => w.toNat / 16384 == 0 && w.toNat / 64 % 4 == 0
        | _ => true)

end Sys2Proof
end

