-- ==== Sys2Proof/Machine/Formats.lean ====
section
/-! DEFINITION. Message layouts (R190 to R195): replies, outcomes, notices and frames as bytes; request bodies as bytes
and back. -/

namespace Sys2Proof.Machine

/-! ### Fields (R190) -/

/-- A one-byte field. -/
def byte (n : Nat) : Byte := BitVec.ofNat 8 n

/-- A two-byte field, high byte first. -/
def two (n : Nat) : List Byte := [byte (n / 256), byte (n % 256)]

/-- An optional one-byte field, 0xFF when absent. -/
def optByte (n : Option Nat) : Byte := byte (n.getD 255)

/-- An optional two-byte field, 0xFFFF when absent. -/
def optTwo (n : Option Nat) : List Byte := two (n.getD 65535)

/-- A flag, 0 or 1. -/
def flag (b : Bool) : Byte := if b then 1 else 0

/-- The number of an optional thing. -/
def numOf {n : Nat} (x : Option (Fin n)) : Option Nat := x.map Fin.val

/-- A set of switcher inputs: W0–W7 in the first byte. -/
def inputSet (t : Tab Bool 24) : List Byte :=
  [byte (bitmap t % 256), byte (bitmap t / 256 % 256), byte (bitmap t / 65536)]

/-! ### Frames (R155, R191) -/

/-- The sync byte. -/
def sync : Byte := 0xA5

/-- The 8-bit sum of bytes. -/
def sum8 (bs : List Byte) : Byte := bs.foldl (· + ·) 0

/-- A frame around a body: sync, length, body and the check that makes the sum zero. -/
def frame (body : List Byte) : List Byte :=
  sync :: byte body.length :: body ++ [0 - sum8 (byte body.length :: body)]

/-! ### Replies and outcomes (R190, R191) -/

/-- The type byte of the reply to a request type (log 13). -/
def replyType (typ : Byte) : Byte := typ + 0x80

/-- A reply or response body: type, tag, result code, parameters. -/
def replyBody (typ tag : Byte) (code : Result) (params : List Byte) : List Byte :=
  replyType typ :: tag :: code.code :: params

/-- The body of an item of the reply queue. -/
def Item.body : Item → List Byte
  | .reply typ tag code params _ => replyBody typ tag code params
  | .outcome kind tag code ended detail => [0x70, tag, kind.req.code, code.code, flag ended, detail]

/-- Sending this item to its end frees the held buffer (R156). -/
def Item.freesHeld : Item → Bool
  | .reply _ _ _ _ answers => answers
  | .outcome _ _ _ _ _ => false

/-! ### Records in replies and notices (R193) -/

/-- The originator code of a staged change (R190). -/
def Staged.originCode : Staged → Nat
  | .routed _ o => Sys2Proof.Machine.originCode o
  | .salvo _ m => Sys2Proof.Machine.originCode m.orig
  | .guarded _ g => 9 + g.1

/-- The route part, shared by QUERY ROUTE and the route notice. -/
def routePart (s : State) (d : Dst) : List Byte :=
  let e := s.entry d
  [byte e.current.1,
   optByte (e.staged.map fun x => x.source.1),
   optByte (e.staged.map Staged.originCode),
   optByte (e.mark.map fun m => originCode m.orig),
   (match e.mark with | some m => m.tag | none => 255),
   optByte (e.lock.map fun l => originCode l.owner),
   optByte (e.lock.map fun l => l.kind.code),
   flag (match e.lock with | some l => orphaned s l | none => false),
   optByte (numOf e.hold),
   optByte (numOf (effective s d)),
   byte e.interrupters.length,
   optByte (numOf e.commanded),
   optByte (e.confirmation.map Confirmation.code),
   optByte (numOf e.reported),
   optByte (numOf e.tallySource)]

/-- QUERY ROUTE's parameters. -/
def routeReply (s : State) (d : Dst) : List Byte :=
  [byte (s.defs.at d).cls.code, optByte (numOf (s.defs.at d).cls.input), byte (s.defs.at d).home.1] ++ routePart s d

/-- The tally notice's parameters: mapped source, lamps, call count. -/
def channelPart (s : State) (c : Chn) : List Byte :=
  let x := s.channel c
  [optByte (numOf x.mapped), byte x.red.code, byte x.green.code, byte x.amber.code, byte x.calls]

/-- A conditions byte. -/
def conditionsByte (c : Conditions) : Byte :=
  byte ((if c.pgmDirect then 1 else 0) + (if c.pgmSwitcher then 2 else 0) + (if c.pvwDirect then 4 else 0)
    + (if c.pvwSwitcher then 8 else 0) + (if c.iso then 16 else 0))

/-- QUERY TALLY's parameters for a channel. -/
def channelReply (s : State) (c : Chn) : List Byte :=
  channelPart s c ++ [match (s.channel c).mapped with | some x => conditionsByte (conditions s x) | none => 255]

/-- QUERY TALLY's parameters for a source. -/
def sourceReply (s : State) (x : Src) : List Byte :=
  [conditionsByte (conditions s x), byte (mappedTo s x).length] ++ (mappedTo s x).map fun c => byte c.1

/-- QUERY TALLY's parameters for the switcher record. -/
def switcherReply (s : State) : List Byte :=
  [optByte (numOf s.tally.switcher), optByte (numOf s.tally.programSource), flag (programGate s)]
    ++ inputSet s.tally.program ++ inputSet s.tally.preview ++ [flag !s.tally.fresh]

/-- A key's mode, target kind, target and call flag, each 0xFF when not assigned. -/
def keyDefPart : Option KeyDef → List Byte
  | none => [255, 255, 255, 255]
  | some ⟨m, .party y call⟩ => [byte m.code, 0, byte y.1, flag call]
  | some ⟨m, .ifb d⟩ => [byte m.code, 1, byte d.1, 0]

/-- The threshold timer of a key, if it runs. -/
def KeyState.thresholdLeft : KeyState → Option Nat
  | .timing t => t
  | _ => none

/-- The latch-limit timer of a key, if it runs. -/
def KeyState.limitLeft : KeyState → Option Nat
  | .latched t => t
  | _ => none

/-- QUERY KEY's parameters for a key. -/
def keyReply (s : State) (k : KeyId) : List Byte :=
  let x := s.key k
  flag x.defn.isSome :: keyDefPart x.defn ++ [byte x.state.code] ++ optTwo (x.state.thresholdLeft.map msLeft)
    ++ optTwo (x.state.limitLeft.map secondsLeft)

/-- How many keys of a station stand in the state with this code. -/
def keysIn (s : State) (p : Pnl) (code : Nat) : Nat :=
  ((stationKeys p).filter fun k => (s.key k).state.code = code).length

/-- QUERY KEY's parameters for a station. -/
def stationReply (s : State) (p : Pnl) : List Byte :=
  [optByte (numOf (s.talk.mics.at p)), byte (s.link p).state.code] ++ (List.range 5).map (fun c => byte (keysIn s p c))
    ++ (fins 32).map fun y => byte (s.holdCount p y)

/-- QUERY KEY's parameters for a party. -/
def partyReply (s : State) (y : Pty) : List Byte :=
  [optByte (numOf (s.talk.parties.at y))] ++ (fins 8).map (fun p => byte (s.holdCount p y)) ++ [flag (partyHeard s y)]

/-- The key notice's parameters. -/
def keyPart (s : State) (k : KeyId) : List Byte :=
  [byte (s.key k).state.code, flag (s.key k).defn.isSome] ++ keyDefPart (s.key k).defn

/-- Pairs as destination and source bytes. -/
def pairBytes (ps : List (Dst × Src)) : List Byte := ps.flatMap fun p => [byte p.1.1, byte p.2.1]

/-- The lines a line action names, as a bitmap. -/
def actionSet (t : Tab (Option Bool) 16) : Nat := bitmap (tabOf fun l : Lid => (t.at l).isSome)

/-- The values a line action forces, as a bitmap; 0 for a line outside the action set: DESIGN CHOICE (log 33). -/
def actionValues (t : Tab (Option Bool) 16) : Nat := bitmap (tabOf fun l : Lid => (t.at l).getD false)

/-- QUERY GUARD's parameters. -/
def guardReply (s : State) (g : Gid) : List Byte :=
  let x := s.guard g
  [byte x.defn.line.1, flag x.defn.high] ++ two x.defn.debounce
    ++ [flag x.defn.auto, byte x.defn.fallback.length] ++ pairBytes x.defn.fallback
    ++ two (actionSet x.defn.action) ++ two (actionValues x.defn.action)
    ++ [flag x.defn.armedAtStart, byte x.state.code] ++ optTwo (x.state.timer.map msLeft)
    ++ (match x.state.returns with
        | some r => r.map fun y => byte y.1
        | none => x.defn.fallback.map fun _ => 255)
    ++ [flag (matching s x.defn)]

/-- The level of a line: the input sample of an IN line, the driven value of an OUT line (R151). -/
def Line.level : Line → Bool
  | .input sample => sample
  | .output _ _ driven => driven

def Line.isOut : Line → Bool
  | .input _ => false
  | .output _ _ _ => true

def OutMode.code : OutMode → Nat
  | .manual => 0
  | .tally _ => 1
  | .talk _ => 2

/-- The target of an output mode, if it has one. -/
def OutMode.targetNumber : OutMode → Option Nat
  | .manual => none
  | .tally x => some x.1
  | .talk y => some y.1

/-- QUERY LINE's parameters for one line. -/
def lineReply (s : State) (l : Lid) : List Byte :=
  match (s.line l) with
  | .input sample =>
    [0, 255, 255, 255, flag sample] ++ (fins 4).map fun g =>
      if (s.guard g).defn.line = l then flag (matching s (s.guard g).defn) else 255
  | .output mode latch driven =>
    [1, byte mode.code, optByte mode.targetNumber, flag latch, flag driven] ++ (fins 4).map fun g =>
      match (s.guard g).defn.action.at l with
      | some _ => flag (s.guard g).state.holding
      | none => 255

/-- QUERY LINE's parameters for all lines. -/
def allLinesReply (s : State) : List Byte :=
  two (bitmap (tabOf fun l : Lid => (s.line l).isOut)) ++ two (bitmap (tabOf fun l : Lid => (s.line l).level))

/-- QUERY SALVOS' parameters: the length and, where there is one, the entry. -/
def salvosReply (s : State) (i : Nat) : List Byte :=
  byte s.salvos.length :: match s.salvos[i]? with
    | none => []
    | some x =>
      [byte (originCode x.orig), x.tag, flag x.isRecall, byte x.pairs.length]
        ++ x.pairs.flatMap fun p => [byte p.1.1, byte p.2.1, optByte (numOf (s.entry p.1).hold)]

/-- READ STATUS' parameters. -/
def statusReply (s : State) : List Byte :=
  [byte s.ctl.startCause.code, flag s.ctl.preserved, byte s.take.reference.code, byte (takeSourceCode s),
   byte s.store.engine.code, byte s.store.engine.grantCode, flag s.store.permit, flag !s.tally.fresh]
    ++ (fins 8).map fun p => byte (s.link p).state.code

/-- WELCOME's parameters. -/
def welcomeReply (s : State) (p : Pnl) : List Byte :=
  byte p.1 :: two s.timing.linkTimeout ++ [flag (s.tally.switcher = some p)]

/-- The body of a notice for a record, built from the record as it stands (R169, R191, R193). -/
def noticeBody (s : State) (p : Pnl) : Ref → List Byte
  | .route d => [0x71, 0, byte d.1] ++ routePart s d
  | .tally c => [0x72, 0, byte c.1] ++ channelPart s c
  | .key i => [0x73, 0, byte i.1] ++ keyPart s (keyOf p i)

/-! ### Port words (R195) -/

/-- A feed command word. -/
def feedCommand (d : Dst) (x : Src) : Word := BitVec.ofNat 16 (d.1 * 256 + x.1)

/-- A talk crosspoint word. -/
def talkCommand (close : Bool) (p : Pnl) (y : Pty) : Word :=
  BitVec.ofNat 16 ((if close then 256 else 0) + p.1 * 32 + y.1)

/-- The ALL OPEN word. -/
def allOpen : Word := 0x8000

/-! ### Request bodies (R192) -/

/-- The bytes of a field. -/
def Field.bytes : Field → List Byte
  | .one n => [byte n]
  | .two n => two n
  | .inputs n => [byte (n % 256), byte (n / 256 % 256), byte (n / 65536)]

/-- The kind, originator and tag of a request; none for an event or a transaction. The urgent requests carry no tag. -/
def requestHead : Instr → Option (ReqKind × Origin × Byte)
  | .hello o t => some (.hello, o, t)
  | .bye o t => some (.bye, o, t)
  | .ping o t => some (.ping, o, t)
  | .subscribe o t _ => some (.subscribe, o, t)
  | .hold o t _ => some (.hold, o, t)
  | .resume o t => some (.resume, o, t)
  | .route o t _ _ => some (.route, o, t)
  | .lock o t _ => some (.lock, o, t)
  | .protect o t _ => some (.protect, o, t)
  | .unlock o t _ => some (.unlock, o, t)
  | .forceUnlock o t _ => some (.forceUnlock, o, t)
  | .defineDestination o t _ _ _ _ => some (.defineDestination, o, t)
  | .queryRoute o t _ => some (.queryRoute, o, t)
  | .salvo o t _ => some (.salvo, o, t)
  | .cancelSalvo o t _ => some (.cancelSalvo, o, t)
  | .querySalvos o t _ => some (.querySalvos, o, t)
  | .savePreset o t _ _ => some (.savePreset, o, t)
  | .clearPreset o t _ => some (.clearPreset, o, t)
  | .recallPreset o t _ => some (.recallPreset, o, t)
  | .matrixRefresh o t => some (.matrixRefresh, o, t)
  | .busTally o t _ _ => some (.busTally, o, t)
  | .setSwitcher o t _ _ => some (.setSwitcher, o, t)
  | .clearSwitcherTally o t => some (.clearSwitcherTally, o, t)
  | .defineTallyChannel o t _ _ => some (.defineTallyChannel, o, t)
  | .queryTally o t _ _ => some (.queryTally, o, t)
  | .defineStation o t _ _ => some (.defineStation, o, t)
  | .defineParty o t _ _ => some (.defineParty, o, t)
  | .defineKey o t _ _ _ _ _ _ => some (.defineKey, o, t)
  | .keyDown o t _ => some (.keyDown, o, t)
  | .keyUp o t _ => some (.keyUp, o, t)
  | .queryKey o t _ _ => some (.queryKey, o, t)
  | .armGuard o t _ => some (.armGuard, o, t)
  | .disarmGuard o t _ => some (.disarmGuard, o, t)
  | .restoreGuard o t _ => some (.restoreGuard, o, t)
  | .defineGuard o t _ _ _ _ _ _ _ _ _ => some (.defineGuard, o, t)
  | .queryGuard o t _ => some (.queryGuard, o, t)
  | .lineSet o t _ _ => some (.lineSet, o, t)
  | .defineLine o t _ _ _ _ _ => some (.defineLine, o, t)
  | .queryLine o t _ => some (.queryLine, o, t)
  | .quiesceLink o t _ => some (.quiesceLink, o, t)
  | .setTiming o t _ _ _ _ => some (.setTiming, o, t)
  | .readStatus o t => some (.readStatus, o, t)
  | .readAttention o t => some (.readAttention, o, t)
  | .setAttentionMask o t _ => some (.setAttentionMask, o, t)
  | .restart o t => some (.restart, o, t)
  | .storeEnable o t => some (.storeEnable, o, t)
  | .storeDisable o t => some (.storeDisable, o, t)
  | .storeGrant o t => some (.storeGrant, o, t)
  | .storeRelease o t => some (.storeRelease, o, t)
  | .rawRead o t _ _ => some (.rawRead, o, t)
  | .rawWrite o t _ _ => some (.rawWrite, o, t)
  | _ => none

/-- The body of a request: type, tag, then its fields in the order of R192. -/
def encodeBody (i : Instr) : Option (List Byte) :=
  (requestHead i).map fun h => h.1.code :: h.2.2 :: i.fields.flatMap Field.bytes

/-- Two bytes as a number, high byte first. -/
def num2 (hi lo : Byte) : Nat := hi.toNat * 256 + lo.toNat

/-- Three bytes as a set of switcher inputs, W0–W7 first. -/
def num3 (a b c : Byte) : Nat := a.toNat + b.toNat * 256 + c.toNat * 65536

/-- Bytes as pairs; none if one is left over. -/
def toPairs : List Byte → Option (List (Nat × Nat))
  | [] => some []
  | [_] => none
  | d :: x :: rest => (toPairs rest).map ((d.toNat, x.toNat) :: ·)

/-- Bytes as words, high byte first; none if one is left over. -/
def toWords : List Byte → Option (List Word)
  | [] => some []
  | [_] => none
  | hi :: lo :: rest => (toWords rest).map (BitVec.ofNat 16 (num2 hi lo) :: ·)

/-- A list whose length the count names, or none. -/
def counted {α : Type} (count : Byte) (xs : Option (List α)) : Option (List α) :=
  match xs with
  | some l => if l.length = count.toNat then some l else none
  | none => none

/-- DEFINE GUARD's part after the pair count: the pairs, the action set and the action values. -/
def guardTail (count : Byte) (rest : List Byte) : Option (List (Nat × Nat) × Nat × Nat) :=
  match toPairs (rest.take (2 * count.toNat)), rest.drop (2 * count.toNat) with
  | some ps, [s1, s0, v1, v0] =>
    if ps.length = count.toNat then some (ps, num2 s1 s0, num2 v1 v0) else none
  | _, _ => none

/-- The request that a kind, an originator, a tag and parameters make; none where the length does not fit the type or a
count disagrees with the entries that follow (R190). -/
def decodeParams (k : ReqKind) (o : Origin) (t : Byte) (ps : List Byte) : Option Instr :=
  match k with
  | .hello => match ps with | [] => some (.hello o t) | _ => none
  | .bye => match ps with | [] => some (.bye o t) | _ => none
  | .ping => match ps with | [] => some (.ping o t) | _ => none
  | .subscribe => match ps with | [c] => some (.subscribe o t c.toNat) | _ => none
  | .hold => match ps with | [a, b] => some (.hold o t (num2 a b)) | _ => none
  | .resume => match ps with | [] => some (.resume o t) | _ => none
  | .route => match ps with | [d, x] => some (.route o t d.toNat x.toNat) | _ => none
  | .salvo => match ps with
    | n :: rest => (counted n (toPairs rest)).map (Instr.salvo o t)
    | _ => none
  | .cancelSalvo => match ps with | [x] => some (.cancelSalvo o t x) | _ => none
  | .lock => match ps with | [d] => some (.lock o t d.toNat) | _ => none
  | .protect => match ps with | [d] => some (.protect o t d.toNat) | _ => none
  | .unlock => match ps with | [d] => some (.unlock o t d.toNat) | _ => none
  | .forceUnlock => match ps with | [d] => some (.forceUnlock o t d.toNat) | _ => none
  | .savePreset => match ps with
    | p :: n :: rest => (counted n (some (rest.map BitVec.toNat))).map (Instr.savePreset o t p.toNat)
    | _ => none
  | .clearPreset => match ps with | [p] => some (.clearPreset o t p.toNat) | _ => none
  | .recallPreset => match ps with | [p] => some (.recallPreset o t p.toNat) | _ => none
  | .queryRoute => match ps with | [d] => some (.queryRoute o t d.toNat) | _ => none
  | .querySalvos => match ps with | [i] => some (.querySalvos o t i.toNat) | _ => none
  | .queryTally => match ps with | [a, b] => some (.queryTally o t a.toNat b.toNat) | _ => none
  | .queryKey => match ps with | [a, b] => some (.queryKey o t a.toNat b.toNat) | _ => none
  | .queryGuard => match ps with | [g] => some (.queryGuard o t g.toNat) | _ => none
  | .queryLine => match ps with | [l] => some (.queryLine o t l.toNat) | _ => none
  | .keyDown => match ps with | [k] => some (.keyDown o t k.toNat) | _ => none
  | .keyUp => match ps with | [k] => some (.keyUp o t k.toNat) | _ => none
  | .busTally => match ps with
    | [a, b, c, d, e, f] => some (.busTally o t (num3 a b c) (num3 d e f))
    | _ => none
  | .defineDestination => match ps with
    | [d, c, i, h] => some (.defineDestination o t d.toNat c.toNat i.toNat h.toNat)
    | _ => none
  | .defineTallyChannel => match ps with | [c, x] => some (.defineTallyChannel o t c.toNat x.toNat) | _ => none
  | .defineStation => match ps with | [n, x] => some (.defineStation o t n.toNat x.toNat) | _ => none
  | .defineParty => match ps with | [y, c] => some (.defineParty o t y.toNat c.toNat) | _ => none
  | .defineKey => match ps with
    | [k, a, m, tk, x, c] => some (.defineKey o t k.toNat a.toNat m.toNat tk.toNat x.toNat c.toNat)
    | _ => none
  | .defineGuard => match ps with
    | g :: l :: v :: d1 :: d0 :: m :: a :: n :: rest =>
      (guardTail n rest).map fun x =>
        Instr.defineGuard o t g.toNat l.toNat v.toNat (num2 d1 d0) m.toNat a.toNat x.1 x.2.1 x.2.2
    | _ => none
  | .defineLine => match ps with
    | [l, d, m, x, i] => some (.defineLine o t l.toNat d.toNat m.toNat x.toNat i.toNat)
    | _ => none
  | .setSwitcher => match ps with | [l, x] => some (.setSwitcher o t l.toNat x.toNat) | _ => none
  | .setTiming => match ps with
    | [r, t1, t0, l, k1, k0] => some (.setTiming o t r.toNat (num2 t1 t0) l.toNat (num2 k1 k0))
    | _ => none
  | .armGuard => match ps with | [g] => some (.armGuard o t g.toNat) | _ => none
  | .disarmGuard => match ps with | [g] => some (.disarmGuard o t g.toNat) | _ => none
  | .restoreGuard => match ps with | [g] => some (.restoreGuard o t g.toNat) | _ => none
  | .lineSet => match ps with | [a, b, c, d] => some (.lineSet o t (num2 a b) (num2 c d)) | _ => none
  | .quiesceLink => match ps with | [l] => some (.quiesceLink o t l.toNat) | _ => none
  | .clearSwitcherTally => match ps with | [] => some (.clearSwitcherTally o t) | _ => none
  | .matrixRefresh => match ps with | [] => some (.matrixRefresh o t) | _ => none
  | .storeEnable => match ps with | [] => some (.storeEnable o t) | _ => none
  | .storeDisable => match ps with | [] => some (.storeDisable o t) | _ => none
  | .storeGrant => match ps with | [] => some (.storeGrant o t) | _ => none
  | .storeRelease => match ps with | [] => some (.storeRelease o t) | _ => none
  | .rawRead => match ps with | [a, b, n] => some (.rawRead o t (num2 a b) n.toNat) | _ => none
  | .rawWrite => match ps with
    | a :: b :: n :: rest => (counted n (toWords rest)).map (Instr.rawWrite o t (num2 a b))
    | _ => none
  | .readStatus => match ps with | [] => some (.readStatus o t) | _ => none
  | .readAttention => match ps with | [] => some (.readAttention o t) | _ => none
  | .setAttentionMask => match ps with | [a, b] => some (.setAttentionMask o t (num2 a b)) | _ => none
  | .restart => match ps with | [] => some (.restart o t) | _ => none
  | .allTalkOff => match ps with | [] => some .allTalkOff | _ => none
  | .tripGuard => match ps with | [g] => some (.tripGuard g.toNat) | _ => none

/-- The request a body with type and tag makes from its originator; none where the type is no request or the length does
not fit it (R157, R174, check 1). -/
def decodeBody (o : Origin) : List Byte → Option Instr
  | typ :: tag :: ps =>
    match ReqKind.ofCode? typ with
    | some k => decodeParams k o tag ps
    | none => none
  | _ => none

/-- The request an urgent body makes: a type and no tag (R176, R190). -/
def decodeUrgent : List Byte → Option Instr
  | [] => none
  | typ :: ps =>
    match ReqKind.ofCode? typ with
    | some .allTalkOff => decodeParams .allTalkOff .ctl 0 ps
    | some .tripGuard => decodeParams .tripGuard .ctl 0 ps
    | _ => none

end Sys2Proof.Machine
end

