-- ==== Sys2Proof/Machine/Links.lean ====
section
/-! DEFINITION. What every command shares at the links: which records it has changed and for whom, what the
transmitters do next, where replies, responses and outcomes are placed, and the checks a request meets before its
block. -/

namespace Sys2Proof.Machine

/-! ### Marking (R22, R82, R108, R168) -/

/-- The notice-visible parts of a route entry (R22). -/
structure RouteView where
  current : Src
  staged : Option Src
  lock : Option (Lock × Bool)
  hold : Option Gid
  interrupt : Option Src
  confirmation : Option Nat
  deriving DecidableEq, Repr

/-- The notice-visible parts of route entry `d` as they stand. -/
def routeView (s : State) (d : Dst) : RouteView where
  current := (s.entry d).current
  staged := (s.entry d).staged.map Staged.source
  lock := (s.entry d).lock.map fun l => (l, orphaned s l)
  hold := (s.entry d).hold
  interrupt := effective s d
  confirmation := (s.entry d).confirmation.map Confirmation.code

/-- The lamp states of a channel (R82). -/
def lampView (s : State) (c : Chn) : Lamp × Lamp × Lamp :=
  ((s.channel c).red, (s.channel c).green, (s.channel c).amber)

/-- A link covers records while it is UP or QUIESCING (R168). -/
def LinkState.session : LinkState → Bool
  | .up | .quiescing => true
  | .down | .quiesced => false

/-- The records of link `p`'s classes whose notice-visible parts differ, in the order route entries, tally channels,
own keys, each ascending (R168). -/
def changedFor (before after : State) (p : Pnl) (subs : Subs) : List Ref :=
  (if subs.routes then ((fins 48).filter fun d => routeView before d != routeView after d).map .route else [])
    ++ (if subs.tally then ((fins 32).filter fun c => lampView before c != lampView after c).map .tally else [])
    ++ (if subs.keys then
          ((fins 16).filter fun i =>
            (before.key (keyOf p i)).state.code != (after.key (keyOf p i)).state.code).map .key
        else [])

/-- Add references at the end of a change set, each that is not in it yet (R168). -/
def addRefs (set new : List Ref) : List Ref :=
  new.foldl (fun acc r => if acc.contains r then acc else acc ++ [r]) set

/-- Link `p` with the records it covers marked that the step has changed. -/
def markLink (before after : State) (p : Pnl) : Link :=
  if (after.link p).state.session then
    { after.link p with
      changes := addRefs (after.link p).changes (changedFor before after p (after.link p).subs) }
  else after.link p

/-- Mark on every link what the step has changed. -/
def markAll (before after : State) : State := { after with links := tabOf (markLink before after) }

/-! ### The transmitters (R165, R169) -/

/-- A notice may be chosen: the link is UP or QUIESCING and no hold is in force (R165, R170). -/
def Link.noticesOpen (l : Link) : Bool := l.state.session && l.hold.isNone

/-- A link whose transmitter is idle begins the next frame: the waiting BUSY, else the oldest reply or outcome, else a
notice of the oldest reference (R165). -/
def nextFrame (s : State) (p : Pnl) (l : Link) : Link :=
  match l.busy with
  | some b => { l with busy := none, sending := some ⟨frame (replyBody b.1 b.2 .busy []), false⟩ }
  | none =>
    match l.replies with
    | i :: rest => { l with replies := rest, sending := some ⟨frame i.body, i.freesHeld⟩ }
    | [] =>
      match l.changes with
      | r :: rest =>
        if l.noticesOpen then { l with changes := rest, sending := some ⟨frame (noticeBody s p r), false⟩ } else l
      | [] => l

/-- Link `p` with its transmitter busy if it has something to send. -/
def transmitLink (s : State) (p : Pnl) : Link :=
  match (s.link p).sending with
  | some _ => s.link p
  | none => nextFrame s p (s.link p)

/-- Every idle transmitter begins what it may begin. -/
def transmit (s : State) : State := { s with links := tabOf (transmitLink s) }

/-- The end of a command: marks for what it changed, then the transmitters (R165, R168). -/
def settle (before after : State) : State := transmit (markAll before after)

/-- A command that ends in `after`. -/
def finish (before after : State) : Outcome := .next (settle before after)

/-! ### Replies, responses and outcomes (R156, R157, R166, R175) -/

/-- Put an item at the end of a link's reply queue. -/
def place (p : Pnl) (i : Item) (s : State) : State :=
  s.setLink p { s.link p with replies := (s.link p).replies ++ [i] }

/-- The body begins with this type and tag. -/
def headIs (typ tag : Byte) : List Byte → Bool
  | t :: g :: _ => t = typ && g = tag
  | _ => false

/-- The held buffer holds a request of this type and tag that still waits for its block. -/
def heldWaits (l : Link) (typ tag : Byte) : Bool :=
  match l.held with
  | some h => h.waiting && headIs typ tag h.body
  | none => false

/-- Place a response in the response buffer; RSP_READY is then set (R175). -/
def placeResponse (typ tag : Byte) (code : Result) (params : List Byte) (s : State) : State :=
  { s with ctl := { s.ctl with response := some (replyBody typ tag code params) } }

/-- A control-link request is being taken: REQ_FREE is clear, and the request buffer's request of this type and tag
waits no longer (R174, log 1). -/
def takeRequest (typ tag : Byte) (s : State) : State :=
  { s with ctl := { s.ctl with
      reqFree := false
      request := s.ctl.request.map fun r => if headIs typ tag r.body then { r with waiting := false } else r } }

/-- Place the answer to a request: in the panel's reply queue, or in the response buffer. -/
def answer (o : Origin) (typ tag : Byte) (code : Result) (params : List Byte) (s : State) : State :=
  match o with
  | .panel p =>
    let l := s.link p
    let m := heldWaits l typ tag
    s.setLink p { l with
      replies := l.replies ++ [.reply typ tag code params m]
      held := if m then l.held.map fun h => { h with waiting := false } else l.held }
  | .ctl => placeResponse typ tag code params (takeRequest typ tag s)

/-- A request a link discards frees the held buffer it stands in (R156, R158). -/
def discardHeld (o : Origin) (typ tag : Byte) (s : State) : State :=
  match o with
  | .panel p => if heldWaits (s.link p) typ tag then s.setLink p { s.link p with held := none } else s
  | .ctl => s

/-- A deferred outcome of a salvo or a store operation: placed for a panel whose link is UP or QUIESCING, and otherwise
discarded; the control link is sent no later outcome (R34, R35, R166). -/
def outcome (o : Origin) (kind : OutcomeKind) (tag : Byte) (code : Result) (ended : Bool) (detail : Byte)
    (s : State) : State :=
  match o with
  | .panel p => if (s.link p).state.session then place p (.outcome kind tag code ended detail) s else s
  | .ctl => s

/-! ### The checks at the link (R157, R158, R174) -/

/-- What a link does with a request before any block sees it. -/
inductive Gate
  | drop
  | refuse (code : Result)
  | pass
  deriving DecidableEq, Repr

/-- A panel link's checks, by its state; a DOWN or QUIESCED link takes HELLO alone (R157, R158). -/
def panelGate (s : State) (p : Pnl) (k : ReqKind) (codes : Bool) : Gate :=
  if (s.link p).state.session then
    if !codes then .refuse .range
    else if k.controlOnly then .refuse .notPermitted
    else if k = .busTally && s.tally.switcher != some p then .refuse .notPermitted
    else if (s.link p).state = .quiescing && !k.takenQuiescing then .refuse .quiescing
    else .pass
  else if k = .hello then .pass else .drop

/-- The control link's checks (R174). -/
def controlGate (s : State) (k : ReqKind) (codes : Bool) : Gate :=
  if !codes || k.urgent then .refuse .range
  else if !s.ctl.ready && k != .readStatus then .refuse .notReady
  else if k.panelOnly then .refuse .notPermitted
  else .pass

/-- The checks a request meets at the link it comes from. -/
def gate (s : State) (o : Origin) (k : ReqKind) (codes : Bool) : Gate :=
  match o with
  | .panel p => panelGate s p k codes
  | .ctl => controlGate s k codes

/-- What a block answers: a result code with parameters, or nothing yet. -/
inductive Answer
  | now (code : Result) (params : List Byte)
  | later
  deriving DecidableEq, Repr

/-- Place a block's answer, or note that the request has been taken and its response is owed (R175). -/
def place? (o : Origin) (typ tag : Byte) (a : Answer) (s : State) : State :=
  match a with
  | .now code params => answer o typ tag code params s
  | .later => takeRequest typ tag s

/-- Take a request: the link's checks, then its block, then its answer (R157, R174). -/
def serve (k : ReqKind) (o : Origin) (tag : Byte) (codes : Bool) (block : State → State × Answer) (s : State) :
    Outcome :=
  match gate s o k codes with
  | .drop => finish s (discardHeld o k.code tag s)
  | .refuse code => finish s (answer o k.code tag code [] s)
  | .pass => finish s (place? o k.code tag (block s).2 (block s).1)

/-- A block that answers a result code and leaves the records as they were. -/
def refuseWith (code : Result) (s : State) : State × Answer := (s, .now code [])

/-- A block that answers OK. -/
def okWith (s : State) : State × Answer := (s, .now .ok [])

/-- A query: OK with its parameters, and nothing changed. -/
def replyWith (params : List Byte) (s : State) : State × Answer := (s, .now .ok params)

/-! ### The urgent slot (R176) -/

/-- An urgent request that has been taken with all its effects is complete: URG_RESULT takes its result, and the urgent
slot is free (R176). -/
def urgentDone (taken : State × UrgentResult) : State :=
  { taken.1 with ctl := { taken.1.ctl with urgResult := taken.2, urgent := none, urgFree := true } }

/-! ### A request that waits in a buffer (log 1, log 2) -/

/-- The request that waits in the request buffer, else in the held buffer of the lowest numbered panel link that has
one. None waits in the urgent slot, since an urgent request is taken at once (R176, log 20). -/
def waitingRequest (s : State) : Option Instr :=
  match s.ctl.request with
  | some ⟨body, true⟩ => decodeBody .ctl body
  | _ =>
    (fins 8).findSome? fun p =>
      match (s.link p).held with
      | some ⟨body, true⟩ => decodeBody (.panel p) body
      | _ => none

end Sys2Proof.Machine
end

