-- ==== Sys2Proof/Machine/TalkUnit.lean ====
section
/-! DEFINITION. The talk engine's transitions: a key changes state together with the hold counts, crosspoint commands,
call counts and interrupter lists it moves (R95 to R103, R112, R114). -/

namespace Sys2Proof.Machine

/-- Hand a crosspoint to the talk matrix port: at the end of the send list, or in the place it already has (R101). -/
def handCrosspoint (p : Pnl) (y : Pty) (s : State) : State :=
  if s.talk.sendList.contains (p, y) then s
  else { s with talk := { s.talk with sendList := s.talk.sendList ++ [(p, y)] } }

/-- A key of station `p` targeting party `y` enters a talk state: the hold count rises, and a rise from 0 closes the
crosspoint (R100). -/
def holdUp (p : Pnl) (y : Pty) (s : State) : State :=
  let n := s.holdCount p y
  let t := s.setHold p y (n + 1)
  if n = 0 then handCrosspoint p y (t.setCrosspoint p y true) else t

/-- Such a key leaves a talk state: the hold count falls, and a fall to 0 opens the crosspoint (R100). -/
def holdDown (p : Pnl) (y : Pty) (s : State) : State :=
  let n := s.holdCount p y
  let t := s.setHold p y (n - 1)
  if n = 1 then handCrosspoint p y (t.setCrosspoint p y false) else t

/-- The call count of the party's call channel moves by a talking call key (R74). -/
def countCall (y : Pty) (f : Nat → Nat) (s : State) : State :=
  match s.talk.parties.at y with
  | none => s
  | some c => s.setChannel c { s.channel c with calls := f (s.channel c).calls }

/-- A key joins its destination's interrupter list as the newest entry, and the destination becomes dirty (R112). -/
def joinList (k : KeyId) (d : Dst) (s : State) : State :=
  (s.setEntry d { s.entry d with interrupters := (s.entry d).interrupters ++ [k] }).markDirty d

/-- A key leaves its destination's interrupter list from any place, and the destination becomes dirty (R114). -/
def leaveList (k : KeyId) (d : Dst) (s : State) : State :=
  (s.setEntry d { s.entry d with interrupters := (s.entry d).interrupters.filter (· != k) }).markDirty d

/-- What entering a talk state changes beside the key (R102). -/
def enterTalk (k : KeyId) (t : KeyTarget) (s : State) : State :=
  match t with
  | .party y call =>
    let s := holdUp (stationOf k) y s
    if call then countCall y (· + 1) s else s
  | .ifb d => joinList k d s

/-- What leaving a talk state changes beside the key (R102). -/
def leaveTalk (k : KeyId) (t : KeyTarget) (s : State) : State :=
  match t with
  | .party y call =>
    let s := holdDown (stationOf k) y s
    if call then countCall y (· - 1) s else s
  | .ifb d => leaveList k d s

/-- A key's transition to a new state, with what it changes in the other records (R94, R102). -/
def moveKey (k : KeyId) (new : KeyState) (s : State) : State :=
  let x := s.key k
  let t := s.setKey k { x with state := new }
  match x.defn with
  | none => t
  | some f =>
    if !x.state.talking && new.talking then enterTalk k f.target t
    else if x.state.talking && !new.talking then leaveTalk k f.target t
    else t

/-- Several keys' transitions in one step, in the order given; `f` says where each state goes (R102; the order
is ascending at every use, log 31). -/
def moveKeys (ks : List KeyId) (f : KeyState → KeyState) (s : State) : State :=
  ks.foldl (fun t k => moveKey k (f (t.key k).state) t) s

/-- ALL TALK OFF's table (R103). -/
def talkOff : KeyState → KeyState
  | .timing _ => .clearing
  | .held => .clearing
  | .latched _ => .idle
  | .clearing => .clearing
  | .idle => .idle

/-- A latched key goes IDLE at the start of a quiesce; the others keep their states (R106). -/
def latchedOff : KeyState → KeyState
  | .latched _ => .idle
  | x => x

/-- A key in CLEARING goes IDLE as its link enters QUIESCED (R106, R163). -/
def clearingOff : KeyState → KeyState
  | .clearing => .idle
  | x => x

/-- The latch-limit timer a key starts with as it enters LATCHED: none under a limit of 0 (R97). -/
def limitTimer (s : State) : Option Nat := if s.timing.limit = 0 then none else some (Config.minutes s.timing.limit)

/-- The threshold timer an AUTO key starts with as it enters TIMING (R96). -/
def thresholdTimer (s : State) : Nat := Config.ms s.timing.threshold

/-- The talk state a press takes an IDLE key into, by mode (R95). -/
def pressState (s : State) : KeyMode → KeyState
  | .auto => .timing (some (thresholdTimer s))
  | .momentary => .held
  | .latch => .timing none

/-- The press would take an IFB key from IDLE into a list that already holds 8 keys (R99). -/
def listFull (s : State) (t : KeyTarget) : Bool :=
  match t with
  | .party _ _ => false
  | .ifb d => Config.interrupterSize ≤ (s.entry d).interrupters.length

/-- Where KEY DOWN takes an assigned key, and the reply (R95, R99). -/
def pressed (s : State) (f : KeyDef) (x : KeyState) : KeyState × Result :=
  match x with
  | .idle => if listFull s f.target then (.clearing, .full) else (pressState s f.mode, .ok)
  | .latched _ => (.clearing, .ok)
  | .timing t => (.timing t, .ok)
  | .held => (.held, .ok)
  | .clearing => (.clearing, .ok)

/-- Where KEY UP takes a key on an UP link, or on a QUIESCING one (R95). -/
def released (s : State) (up : Bool) (x : KeyState) : KeyState :=
  match x with
  | .timing _ => if up then .latched (limitTimer s) else .idle
  | .held => .idle
  | .clearing => .idle
  | .idle => .idle
  | .latched t => .latched t

end Sys2Proof.Machine
end

