-- ==== Sys2Proof/Machine/Sessions.lean ====
section
/-! DEFINITION. How a panel session begins and ends: entry into UP, loss of a link, quiesce (R159 to R164). -/

namespace Sys2Proof.Machine

/-- The link timeout in µs (R160). -/
def supervisionTime (s : State) : Nat := Config.ms s.timing.linkTimeout

/-- The link enters UP: subscriptions and change set empty, hold absent, supervision started (R159). -/
def enterUp (p : Pnl) (s : State) : State :=
  s.setLink p { s.link p with
    state := .up, subs := .none, changes := [], hold := none, supervision := some (supervisionTime s) }

/-- The request kind a salvo's later outcomes name (R34). -/
def salvoKind (isRecall : Bool) : OutcomeKind := if isRecall then .recallPreset else .salvo

/-- The owed response to a QUIESCE LINK is placed with the link state reached (R164). -/
def payQuiesce (owed : Option Byte) (reached : LinkState) (s : State) : State :=
  match owed with
  | some tag => placeResponse ReqKind.quiesceLink.code tag .ok [byte reached.code] s
  | none => s

/-- The originator of an unmarked store operation in progress (R163). -/
def Job.owner : Job → Option Origin
  | .write op _ _ marked => if marked then none else some op.orig
  | .read op marked => if marked then none else some op.orig
  | .drain _ _ => none

/-- The operation in progress is marked if it is the panel's (R183). -/
def Job.markFor (p : Pnl) : Job → Job
  | .write op first rest marked => .write op first rest (marked || op.orig = Origin.panel p)
  | .read op marked => .read op (marked || op.orig = Origin.panel p)
  | .drain w t => .drain w t

def Engine.markFor (p : Pnl) : Engine → Engine
  | .busy job wanted => .busy (job.markFor p) wanted
  | .loading => .loading
  | .idle => .idle
  | .granted raw => .granted raw

/-- The originator of the unmarked operation in progress, if there is one. -/
def Engine.owner : Engine → Option Origin
  | .busy job _ => job.owner
  | _ => none

/-- A store operation of the panel is queued or in progress (R163). -/
def ownsStoreOp (s : State) (p : Pnl) : Bool :=
  s.store.queue.any (fun op => op.orig = Origin.panel p) || s.store.engine.owner = some (Origin.panel p)

/-- A link as it enters DOWN: nothing waits, and a frame being sent is sent to its end (R161). -/
def Link.cleared (l : Link) : Link :=
  { Link.start with sending := l.sending.map fun x => { x with freesHeld := false } }

/-- The link enters DOWN on supervision expiry (R161). -/
def linkDown (p : Pnl) (s : State) : State :=
  let s := moveKeys (stationKeys p) (fun _ => .idle) s
  let s := { s with
    salvos := s.salvos.filter fun x => x.orig != Origin.panel p
    store := { s.store with
      queue := s.store.queue.filter fun op => op.orig != Origin.panel p
      engine := s.store.engine.markFor p } }
  let owed := (s.link p).quiesceOwed
  let s := s.setLink p (s.link p).cleared
  refresh (switcherLost p (raise .linkDown (payQuiesce owed .down s)))

/-- The link enters QUIESCED (R163). -/
def enterQuiesced (p : Pnl) (s : State) : State :=
  let s := moveKeys (stationKeys p) clearingOff s
  let owed := (s.link p).quiesceOwed
  let s := s.setLink p { s.link p with
    state := .quiesced, supervision := none, changes := [], subs := .none, hold := none, quiesceOwed := none }
  refresh (switcherLost p (payQuiesce owed .quiesced s))

/-- A QUIESCING link whose station has no talking key and which has no store operation of its own (R163). -/
def quiesceDone (s : State) (p : Pnl) : Bool :=
  (s.link p).state = .quiescing && !stationTalks s p && !ownsStoreOp s p

/-- Test whether a QUIESCING link may become QUIESCED (R163). -/
def testQuiesced (p : Pnl) (s : State) : State := if quiesceDone s p then enterQuiesced p s else s

/-- The panel's queued salvos end DROPPED, oldest first (R33). -/
def dropSalvos (p : Pnl) (s : State) : State :=
  let mine := s.salvos.filter fun x => x.orig = Origin.panel p
  let s := { s with salvos := s.salvos.filter fun x => x.orig != Origin.panel p }
  mine.foldl (fun t x => outcome (.panel p) (salvoKind x.isRecall) x.tag .dropped true 255 t) s

/-- An UP link starts to quiesce, on BYE or QUIESCE LINK; `owed` is the tag of the QUIESCE LINK (R162). -/
def startQuiesce (p : Pnl) (owed : Option Byte) (s : State) : State :=
  let s := s.setLink p { s.link p with state := .quiescing, quiesceOwed := owed }
  let s := moveKeys (stationKeys p) latchedOff s
  testQuiesced p (refresh (dropSalvos p s))

end Sys2Proof.Machine
end

