-- ==== Sys2Proof/Machine/SalvoUnit.lean ====
section
/-! DEFINITION. The salvo unit: the checks of a salvo, its staging, its queue, its unstaging by a trip and the
examination of the queue at a restore (R25 to R31, R40). -/

namespace Sys2Proof.Machine

/-- What becomes of a submitted salvo. -/
inductive Verdict
  /-- Refused; LOCKED names the first locked pair. -/
  | refuse (code : Result) (pair : Option Nat)
  /-- A destination is held: it joins the queue if there is room. -/
  | wait (pairs : List (Dst × Src))
  /-- It stages. -/
  | stage (pairs : List (Dst × Src))
  deriving DecidableEq, Repr

/-- The requester has a staged or queued salvo with this tag (R25, check 2). -/
def tagInUse (s : State) (o : Origin) (tag : Byte) : Bool :=
  (fins 48).any (fun d => (s.entry d).inSalvo o tag) || s.salvos.any fun x => x.orig = o && x.tag = tag

/-- The number of the first pair whose destination is locked against the originator (R25, check 3). -/
def firstLocked (s : State) (o : Origin) (pairs : List (Dst × Src)) : Option Nat :=
  pairs.findIdx? fun p => (s.entry p.1).lockedAgainst o

/-- Some pair's destination has a staged change that carries a salvo mark (R25, check 4). -/
def anyMarked (s : State) (pairs : List (Dst × Src)) : Bool := pairs.any fun p => (s.entry p.1).marked

/-- Some pair's destination has a guard hold (R26). -/
def anyHeld (s : State) (pairs : List (Dst × Src)) : Bool := pairs.any fun p => (s.entry p.1).hold.isSome

/-- The checks of R25 in order, then the examination for holds of R26. -/
def judgeSalvo (s : State) (o : Origin) (tag : Byte) (raw : List (Nat × Nat)) : Verdict :=
  if raw.length = 0 || 16 < raw.length then .refuse .range none
  else
    match allOf pairOf raw with
    | none => .refuse .range none
    | some pairs =>
      if !distinct (pairs.map Prod.fst) || tagInUse s o tag then .refuse .repeated none
      else
        match firstLocked s o pairs with
        | some i => .refuse .locked (some i)
        | none =>
          if anyMarked s pairs then .refuse .staged none
          else if anyHeld s pairs then .wait pairs else .stage pairs

/-- Stage the pairs from number `i` on with the salvo's mark (R27). -/
def stagePairs (o : Origin) (tag : Byte) (isRecall : Bool) : Nat → List (Dst × Src) → State → State
  | _, [], s => s
  | i, p :: rest, s =>
    stagePairs o tag isRecall (i + 1) rest (stageOn p.1 (.salvo p.2 ⟨o, tag, i, isRecall⟩) s)

/-- Stage a salvo whole (R27). -/
def stageSalvo (o : Origin) (tag : Byte) (isRecall : Bool) (pairs : List (Dst × Src)) (s : State) : State :=
  stagePairs o tag isRecall 0 pairs s

/-- The pending salvo queue is full (R26). -/
def salvosFull (s : State) : Bool := Config.salvoQueueSize ≤ s.salvos.length

/-- A salvo joins the queue as its newest entry (R30). -/
def joinSalvos (x : PendingSalvo) (s : State) : State := { s with salvos := s.salvos ++ [x] }

/-! ### Unstaging by a trip (R30, R130) -/

/-- The pairs staged under a mark, in the order of their pair numbers, rebuilt into the salvo they came from (R30). -/
def rebuild (s : State) (m : Mark) : PendingSalvo where
  orig := m.orig
  tag := m.tag
  isRecall := m.isRecall
  pairs := (List.range 16).filterMap fun n =>
    (fins 48).findSome? fun d =>
      match (s.entry d).staged with
      | some (.salvo x k) => if k.orig = m.orig && k.tag = m.tag && k.pair = n then some (d, x) else none
      | _ => none

/-- Remove a salvo's staged changes from every destination it marks; they keep their places in the dirty set (R30). -/
def removeSalvo (m : Mark) (s : State) : State :=
  { s with routes := tabOf fun d =>
      if (s.entry d).inSalvo m.orig m.tag then { s.entry d with staged := none } else s.entry d }

/-- What becomes of an unstaged salvo: the queue, DROPPED, or no outcome, by its originator's link (R30, R130). -/
def requeue (x : PendingSalvo) (s : State) : State :=
  let kind := salvoKind x.isRecall
  match x.orig with
  | .panel p =>
    match (s.link p).state with
    | .up =>
      if salvosFull s then outcome x.orig kind x.tag .dropped true 255 s
      else outcome x.orig kind x.tag .queued false 255 (joinSalvos x s)
    | .quiescing => outcome x.orig kind x.tag .dropped true 255 s
    | .down | .quiesced => s
  | .ctl => if salvosFull s then s else joinSalvos x s

/-- Unstage the salvo that marks destination `d`, if one does (R130). -/
def unstageAt (s : State) (d : Dst) : State :=
  match (s.entry d).mark with
  | some m => requeue (rebuild s m) (removeSalvo m s)
  | none => s

/-- Unstage every salvo that touches the destinations, in ascending order of the lowest destination each marks (R130). -/
def unstageSalvos (ds : List Dst) (s : State) : State :=
  ((fins 48).filter fun d => ds.contains d).foldl unstageAt s

/-! ### Examination at a restore (R31) -/

/-- Examine the entries of the queue, oldest first: those that still name a held destination stay, the others stage or
end. The result is the state with an unchanged queue, and the entries that stay. -/
def examine : List PendingSalvo → State → State × List PendingSalvo
  | [], s => (s, [])
  | x :: rest, s =>
    if anyHeld s x.pairs then
      let r := examine rest s
      (r.1, x :: r.2)
    else
      let kind := salvoKind x.isRecall
      match firstLocked s x.orig x.pairs with
      | some i => examine rest (outcome x.orig kind x.tag .locked true (byte i) s)
      | none =>
        if anyMarked s x.pairs then examine rest (outcome x.orig kind x.tag .staged true 255 s)
        else
          examine rest
            (outcome x.orig kind x.tag .staged false 255 (stageSalvo x.orig x.tag x.isRecall x.pairs s))

/-- The examination of the pending salvo queue (R31). -/
def examineQueue (s : State) : State :=
  let r := examine s.salvos s
  { r.1 with salvos := r.2 }

end Sys2Proof.Machine
end

