-- ==== Sys2Proof/Machine/StoreUnit.lean ====
section
/-! DEFINITION. The store engine: how operations start, write, read and end, and what follows them (R181 to R187, R37 to
R41). -/

namespace Sys2Proof.Machine

/-- A pair word: destination in bits 13–8, source in bits 5–0 (R196). -/
def pairWord (p : Dst × Src) : Word := BitVec.ofNat 16 (p.1.1 * 256 + p.2.1)

/-- The header of an EMPTY preset, and of a VALID one with `n` pairs (R196). -/
def emptyHeader : Word := 0x0000
def validHeader (n : Nat) : Word := BitVec.ofNat 16 (0x5600 + n)

/-- The pair words of a save from address `a` on (R183). -/
def pairWrites : Nat → List (Dst × Src) → List (Nat × Word)
  | _, [] => []
  | a, p :: rest => (a, pairWord p) :: pairWrites (a + 1) rest

/-- The request kind of an operation (R34). -/
def StoreWork.kind : StoreWork → OutcomeKind
  | .save _ => .savePreset
  | .clear => .clearPreset
  | .recallPreset => .recallPreset

def StoreOp.kind (op : StoreOp) : OutcomeKind := op.work.kind

/-- The first word of the operation's preset. -/
def StoreOp.base (op : StoreOp) : Nat := Config.presetBase op.preset.1

/-- The words after the EMPTY header that a save or clear writes first: the pairs and the VALID header of a save, none
of a clear (R183). -/
def StoreOp.moreWrites (op : StoreOp) : List (Nat × Word) :=
  match op.work with
  | .save pairs => pairWrites (op.base + 1) pairs ++ [(op.base, validHeader pairs.length)]
  | .clear => []
  | .recallPreset => []

/-- The count a VALID header gives, or none where the header is not VALID (R197). -/
def headerCount (h : Word) : Option Nat := if h.toNat / 256 = 0x56 then some (h.toNat % 256) else none

/-- A count from 1 to 16, which R39 takes as a salvo. -/
def salvoCount (n : Nat) : Bool := 1 ≤ n && n ≤ 16

/-- The words a RECALL reads: the header and the pair words of a VALID header with a count of 1 to 16 (R183). -/
def recallLength (m : Memory) (base : Nat) : Nat :=
  match headerCount (memRead m base) with
  | some n => if salvoCount n then 1 + n else 1
  | none => 1

/-- The pair words that follow a preset's header, as numbers; bits the layout does not name are not read (log 18). -/
def presetPairs (m : Memory) (base count : Nat) : List (Nat × Nat) :=
  (List.range count).map fun i =>
    let w := (memRead m (base + 1 + i)).toNat
    (w / 256 % 64, w % 64)

/-- The pair number that LOCKED carries (R190). -/
def pairParam (pair : Option Nat) : List Byte :=
  match pair with
  | some i => [byte i]
  | none => []

/-- The first outcome of a store operation: a panel's deferred outcome with the pair number or the preset number, or the
control link's response (R34, R35, R191). -/
def firstOutcome (op : StoreOp) (code : Result) (ended : Bool) (pair : Option Nat) (s : State) : State :=
  match op.orig with
  | .panel _ => outcome op.orig op.kind op.tag code ended (byte (pair.getD op.preset.1)) s
  | .ctl =>
    placeResponse op.kind.req.code op.tag code (pairParam pair) s

def State.setEngine (s : State) (e : Engine) : State := { s with store := { s.store with engine := e } }

/-- The panel link unit is told that an operation of the panel has finished (R183). -/
def tellLink (o : Origin) (s : State) : State :=
  match o with
  | .panel p => testQuiesced p s
  | .ctl => s

/-- A command that uses the store port begins; nothing has been sent in it yet. -/
def openPort (s : State) : State := { s with store := { s.store with port := [] } }

/-- Commands are sent on the store port (R181). -/
def sendPort (cs : List PortCmd) (s : State) : State :=
  { s with store := { s.store with port := s.store.port ++ cs } }

def State.setLatch (s : State) (b : Bool) : State := { s with store := { s.store with latch := b } }

/-- The operations that wait, oldest first, as the engine takes them up: a RECALL reads, a save or clear tests write
permission and writes or ends STORE_LOCKED, and with none the engine is IDLE (R182, R183). -/
def startOps : List StoreOp → State → State
  | [], s => { s with store := { s.store with engine := .idle, queue := [] } }
  | op :: rest, s =>
    let s := { s with store := { s.store with engine := .idle, queue := rest } }
    match op.work with
    | .recallPreset =>
      sendPort [.read op.base (recallLength s.store.mem op.base)] (s.setEngine (.busy (.read op false) none))
    | .save _ | .clear =>
      if s.store.permit then
        sendPort [.writeEnable, .writeWord op.base emptyHeader]
          ((s.setEngine (.busy (.write op (op.base, emptyHeader) op.moreWrites false) none)).setLatch true)
      else startOps rest (tellLink op.orig (firstOutcome op .storeLocked true none s))

/-- An operation joins the store queue, and starts at once on an IDLE engine (R182). -/
def joinStore (op : StoreOp) (s : State) : State :=
  if s.store.engine = .idle then startOps (s.store.queue ++ [op]) (openPort s)
  else { s with store := { s.store with queue := s.store.queue ++ [op] } }

/-- The control link holds the grant (R182, R185, R186). -/
def grantHeld (s : State) : Bool :=
  match s.store.engine with
  | .granted _ => true
  | _ => false

/-- The store queue holds 4 operations, or the control link asks while it holds the grant (R35, R37). -/
def storeBusy (s : State) (o : Origin) : Bool :=
  Config.storeQueueSize ≤ s.store.queue.length
    || (o = .ctl && grantHeld s)

/-- After an operation: a STORE GRANT that waits takes the grant, else the next queued operation starts (R182, R185). -/
def afterOp (wanted : Option Byte) (s : State) : State :=
  match wanted with
  | some tag => placeResponse ReqKind.storeGrant.code tag .ok [] (s.setEngine (.granted none))
  | none => startOps s.store.queue s

/-- An operation has ended and its outcome, if any, is placed: the link is told, then the next step follows (R183). -/
def endOp (op : StoreOp) (marked : Bool) (wanted : Option Byte) (s : State) : State :=
  let s := s.setEngine .idle
  afterOp wanted (if marked then s else tellLink op.orig s)

/-- A word takes its value as the memory reports ready, and the port is free to send again (R181, log 5). -/
def landWord (w : Nat × Word) (s : State) : State :=
  openPort { s with store := { s.store with mem := memWrite s.store.mem w.1 w.2 } }

/-- The write sequence's next word is sent. -/
def sendWord (w : Nat × Word) (s : State) : State := sendPort [.writeWord w.1 w.2] s

/-- The write sequence ends with write-disable (R181). -/
def closeSequence (s : State) : State := sendPort [.writeDisable] (s.setLatch false)

/-- The memory reports ready after a word write (R181, R183, R186, R187). -/
def wordReady (s : State) : State :=
  match s.store.engine with
  | .busy (.write op first rest marked) wanted =>
    let s := landWord first s
    match rest with
    | next :: more => sendWord next (s.setEngine (.busy (.write op next more marked) wanted))
    | [] =>
      let s := closeSequence s
      endOp op marked wanted (if marked then s else firstOutcome op .ok true none s)
  | .busy (.drain w tag) wanted =>
    let s := closeSequence (landWord w s)
    afterOp wanted (placeResponse ReqKind.restart.code tag .ok [] (s.setEngine .idle))
  | .granted (some raw) =>
    let s := landWord raw.first s
    match raw.rest with
    | next :: more => sendWord next (s.setEngine (.granted (some ⟨raw.tag, next, more⟩)))
    | [] =>
      placeResponse ReqKind.rawWrite.code raw.tag .ok [] (closeSequence (s.setEngine (.granted none)))
  | _ => s

/-- The requester's link is QUIESCING. -/
def quiescing (s : State) (o : Origin) : Bool :=
  match o with
  | .panel p => (s.link p).state = .quiescing
  | .ctl => false

/-- A recall salvo is submitted: staged, queued, or refused, as the first outcome of its RECALL (R40; FULL before
DROPPED, log 31). -/
def submitRecall (op : StoreOp) (raw : List (Nat × Nat)) (s : State) : State :=
  match judgeSalvo s op.orig op.tag raw with
  | .refuse code pair => firstOutcome op code true pair s
  | .wait pairs =>
    if salvosFull s then firstOutcome op .full true none s
    else if quiescing s op.orig then firstOutcome op .dropped true none s
    else firstOutcome op .queued false none (joinSalvos ⟨op.orig, op.tag, pairs, true⟩ s)
  | .stage pairs => firstOutcome op .staged false none (stageSalvo op.orig op.tag true pairs s)

/-- What a RECALL's header decides (R39). -/
def recallResult (op : StoreOp) (s : State) : State :=
  match headerCount (memRead s.store.mem op.base) with
  | some n =>
    if salvoCount n then submitRecall op (presetPairs s.store.mem op.base n) s
    else firstOutcome op .range true none s
  | none => firstOutcome op .empty true none s

/-- A RECALL's read completes; a marked one submits nothing (R40, R183). -/
def readDone (s : State) : State :=
  match s.store.engine with
  | .busy (.read op marked) wanted =>
    endOp op marked wanted (if marked then openPort s else recallResult op (openPort s))
  | _ => s

/-- The word write that awaits ready, if there is one. -/
def Engine.inFlight : Engine → Option (Nat × Word)
  | .busy (.write _ first _ _) _ => some first
  | .busy (.drain w _) _ => some w
  | .granted (some raw) => some raw.first
  | _ => none

end Sys2Proof.Machine
end

