-- ==== Sys2Proof/Machine/GuardUnit.lean ====
section
/-! DEFINITION. The guard unit: line events, arming, the trip action and the restore action (R125 to R136). -/

namespace Sys2Proof.Machine

/-- The debounce time in µs, for which the guard timer runs (R124). -/
def GuardDef.wait (f : GuardDef) : Nat := Config.ms f.debounce

def State.setGuardState (s : State) (g : Gid) (x : GuardState) : State := s.setGuard g { s.guard g with state := x }

/-- A guard takes its line becoming matching (R128, R133, R134). -/
def becomesMatching (x : Guard) : GuardState :=
  match x.state with
  | .armed => .debouncing x.defn.wait
  | .recovering _ r => .tripped r
  | .disabled => .disabled
  | .debouncing t => .debouncing t
  | .tripped r => .tripped r

/-- A guard takes its line stopping matching (R128, R133). -/
def stopsMatching (x : Guard) : GuardState :=
  match x.state with
  | .debouncing _ => .armed
  | .tripped r => if x.defn.auto then .recovering x.defn.wait r else .tripped r
  | .disabled => .disabled
  | .armed => .armed
  | .recovering t r => .recovering t r

/-- A guard takes a change of line `l` to the level `high` (R125). -/
def guardOnChange (l : Lid) (high : Bool) (x : Guard) : Guard :=
  if x.defn.line = l then
    { x with state := if high = x.defn.high then becomesMatching x else stopsMatching x }
  else x

/-- Where arming takes a DISABLED guard (R126). -/
def armedState (s : State) (f : GuardDef) : GuardState :=
  if matching s f then .debouncing f.wait else .armed

/-- The monitor line's direction is IN (R126). -/
def monitorIn (s : State) (f : GuardDef) : Bool := !(s.line f.line).isOut

/-! ### The trip action (R130 to R132) -/

/-- The hold and the fallback of one pair (R131). -/
def holdPair (g : Gid) (s : State) (p : Dst × Src) : State :=
  stageOn p.1 (.guarded p.2 g) (s.setEntry p.1 { s.entry p.1 with hold := some g })

/-- The trip action with the guard's entry into TRIPPED: salvos unstaged, current sources saved, holds set, fallbacks
staged, lines forced, attention raised. -/
def trip (g : Gid) (s : State) : State :=
  let f := (s.guard g).defn
  let s := unstageSalvos (f.fallback.map Prod.fst) s
  let returns := f.fallback.map fun p => (s.entry p.1).current
  let s := f.fallback.foldl (holdPair g) s
  raise (.guardTrip g) (driveLines (s.setGuardState g (.tripped returns)))

/-! ### The restore action (R136) -/

/-- Step 1 for the pairs of the fallback list with their saved sources. -/
def stageReturns (g : Gid) (ds : List Dst) (returns : List Src) (s : State) : State :=
  (ds.zip returns).foldl (fun t p => stageOn p.1 (.guarded p.2 g) t) s

/-- Step 2: the guard hold of every destination of the list is ended. -/
def endHolds (ds : List Dst) (s : State) : State :=
  ds.foldl (fun t d => t.setEntry d { t.entry d with hold := none }) s

/-- The restore action with the guard's entry into ARMED: returns staged, holds ended, queue examined, line action
withdrawn. -/
def restore (g : Gid) (returns : List Src) (s : State) : State :=
  let ds := (s.guard g).defn.fallback.map Prod.fst
  let s := endHolds ds (stageReturns g ds returns s)
  driveLines (examineQueue (s.setGuardState g .armed))

/-- RESTART re-reads a guard's line (R142). -/
def reevaluate (s : State) (x : Guard) : Guard :=
  let y : GuardState := match x.state with
    | .debouncing _ => .armed
    | .recovering _ r => .tripped r
    | .disabled => .disabled
    | .armed => .armed
    | .tripped r => .tripped r
  { x with state := match y with
    | .armed => armedState s x.defn
    | .tripped r => if x.defn.auto && !matching s x.defn then .recovering x.defn.wait r else .tripped r
    | .disabled => .disabled
    | .debouncing t => .debouncing t
    | .recovering t r => .recovering t r }

end Sys2Proof.Machine
end

