-- ==== Sys2Proof/Machine/Takes.lean ====
section
/-! DEFINITION. Takes and the feed matrix port: reference monitor, take events, burst, confirmation (R42 to R61). -/

namespace Sys2Proof.Machine

/-- The period the internal frame timer is restarted with (R43, R46). -/
def framePeriod (s : State) : Nat := Config.nominalPeriod s.timing.rate

/-- The ready wait of a burst and the confirmation timeout: two nominal frame periods (R50, R51). -/
def twoFrames (s : State) : Nat := Config.twoPeriods s.timing.rate

/-- A route entry whose staged change, if any, is applied (R49). -/
def applyStaged (e : Entry) : Entry :=
  match e.staged with
  | some x => { e with current := x.source, staged := none }
  | none => e

/-- The destinations of the dirty set, ascending. -/
def dirtyList (s : State) : List Dst := (fins 48).filter fun d => s.take.dirty.at d

/-- The staged changes of the dirty destinations applied (R48, R49). -/
def applyDirty (s : State) : State :=
  { s with routes := tabOf fun d => if s.take.dirty.at d then applyStaged (s.entry d) else s.entry d }

/-- The burst of the destinations read at a take, in ascending order with their targets, if there is one (R48, R50). -/
def burstOf (wait : Nat) (s : State) : List Dst → Option Burst
  | [] => none
  | d :: ds => some ⟨(d :: ds).map fun x => (x, target s x), wait⟩

/-- The work of a take event that finds the burst-in-flight flag clear (R48, R49). -/
def takeDirty (s : State) : State :=
  let ds := dirtyList s
  let s := applyDirty s
  { s with take := { s.take with dirty := tabOf fun _ => false, burst := burstOf (twoFrames s) s ds } }

/-- A take event: the frame timer restarts, and unless a burst is in flight the dirty set is taken (R43, R48). -/
def takeEvent (s : State) : State :=
  let s := { s with take := { s.take with frameTimer := framePeriod s, sinceTake := some 0 } }
  match s.take.burst with
  | some _ => s
  | none => takeDirty s

/-- A take event, provided take events have begun (R45, log 10). -/
def takeIfBegun (s : State) : State := if s.ctl.ready then takeEvent s else s

/-- Less than a quarter of a nominal frame period has passed since a take event (R44). -/
def justTaken (s : State) : Bool :=
  match s.take.sinceTake with
  | some t => t < Config.quarterPeriod s.timing.rate
  | none => false

/-- A reference pulse as the monitor takes it (R42, R44). -/
def pulse (s : State) : State :=
  let t := { s with take := { s.take with reference := .ok, missed := 0, frameTimer := framePeriod s } }
  match s.take.reference with
  | .ok => takeIfBegun t
  | .lost => if justTaken s then t else takeIfBegun t

/-- Expiry of the internal frame timer (R43, R44). -/
def frameExpiry (s : State) : State :=
  let t := { s with take := { s.take with frameTimer := framePeriod s } }
  match s.take.reference with
  | .lost => takeIfBegun t
  | .ok =>
    if s.take.missed = 2 then
      takeIfBegun (raise .refLost { t with take := { t.take with reference := .lost, missed := 0 } })
    else { t with take := { t.take with missed := s.take.missed + 1 } }

/-- What is left of a burst after its first word; with none the flag is clear (R50). -/
def burstRest (wait : Nat) : List (Dst × Src) → Option Burst
  | [] => none
  | p :: ps => some ⟨p :: ps, wait⟩

/-- A command word is sent for the first destination of the burst (R50). -/
def sendCommand (s : State) : State :=
  match s.take.burst with
  | some ⟨(d, x) :: rest, _⟩ =>
    let s := s.setEntry d { s.entry d with
      commanded := some x, reported := none, confirmation := some (.awaiting (twoFrames s)) }
    refresh { s with take := { s.take with feedWord := some (feedCommand d x), burst := burstRest (twoFrames s) rest } }
  | _ => s

/-- The destination of a burst whose command has not been sent goes back, UNCONFIRMED (R51, log 12). -/
def giveBack (s : State) (p : Dst × Src) : State :=
  (s.setEntry p.1 { s.entry p.1 with confirmation := some .unconfirmed }).markDirty p.1

/-- The burst is abandoned (R51). -/
def abandon (s : State) : State :=
  match s.take.burst with
  | some b =>
    let s := b.todo.foldl giveBack s
    raise .mismatch { s with take := { s.take with burst := none } }
  | none => s

/-- A report for a destination (R53 to R57). -/
def report (d : Dst) (x : Src) (s : State) : State :=
  let e := s.entry d
  if e.commanded = some x then
    refresh (s.setEntry d { e with reported := some x, confirmation := some .settled })
  else
    refresh (raise .mismatch (s.setEntry d { e with reported := some x, confirmation := some .mismatch }))

/-- The destination and the source of a report word (R195); the other bits are not read (log 18). -/
def reportDest (w : Word) : Nat := w.toNat / 256 % 64
def reportSource (w : Word) : Src := ⟨w.toNat % 64, Nat.mod_lt _ (by decide)⟩

/-- The confirmation timer of a destination expires (R56). -/
def confirmExpiry (d : Dst) (s : State) : State :=
  match (s.entry d).confirmation with
  | some (.awaiting _) =>
    raise .mismatch (s.setEntry d { s.entry d with confirmation := some .unconfirmed })
  | _ => s

/-! ### The commands -/

/-- REFERENCE_PULSE (R42, R44). -/
def execReferencePulse (s : State) : Outcome := finish s (pulse s)

/-- INTERNAL_FRAME_TIMER_EXPIRY (R43, R44). -/
def execInternalFrameTimerExpiry (s : State) : Outcome := finish s (frameExpiry s)

/-- COMMAND_WORD (R50). -/
def execCommandWord (s : State) : Outcome := finish s (sendCommand s)

/-- BURST_ABANDON (R51). -/
def execBurstAbandon (s : State) : Outcome := finish s (abandon s)

/-- FEED_REPORT; a report for D48–D63 is discarded (R53). -/
def execFeedReport (w : Word) (s : State) : Outcome :=
  match finOf 48 (reportDest w) with
  | some d => finish s (report d (reportSource w) s)
  | none => finish s s

/-- CONFIRMATION_TIMER_EXPIRY (R56). -/
def execConfirmationTimerExpiry (d : Fin 48) (s : State) : Outcome := finish s (confirmExpiry d s)

/-- MATRIX REFRESH: all 48 destinations enter the dirty set (R52). -/
def refreshMatrix (s : State) : State × Answer :=
  okWith { s with take := { s.take with dirty := tabOf fun _ => true } }

/-- MATRIX_REFRESH (R52). -/
def execMatrixRefresh (o : Origin) (tag : Byte) (s : State) : Outcome :=
  serve .matrixRefresh o tag true refreshMatrix s

end Sys2Proof.Machine
end

