-- ==== Sys2Proof/Machine/RouteTable.lean ====
section
/-! DEFINITION. The route table's requests (R6 to R21). -/

namespace Sys2Proof.Machine

/-- ROUTE d s: the checks of R6, then the staging of R7. -/
def routeBlock (o : Origin) (d source : Nat) (s : State) : State × Answer :=
  match finOf 48 d, finOf 64 source with
  | some d, some x =>
    let e := s.entry d
    if e.hold.isSome then refuseWith .guarded s
    else if e.lockedAgainst o then refuseWith .locked s
    else if e.marked then refuseWith .staged s
    else (stageOn d (.routed x o) s, .now .accepted [])
  | _, _ => refuseWith .range s

/-- ROUTE (R6, R7). -/
def execRoute (o : Origin) (tag : Byte) (d source : Nat) (s : State) : Outcome :=
  serve .route o tag true (routeBlock o d source) s

/-- A staged change that a lock of this kind would not permit (R12, check 3). -/
def forbidsLock (o : Origin) (kind : LockKind) (e : Entry) : Bool :=
  match e.staged with
  | none => false
  | some x => kind = .lock || x.requester != some o

/-- The destination has a lock of another owner, of either kind (R12, check 2). -/
def Entry.ownedByOther (e : Entry) (o : Origin) : Bool :=
  match e.lock with
  | some l => l.owner != o
  | none => false

/-- LOCK d and PROTECT d: the checks of R12; an owner's request changes the kind (R13). -/
def lockBlock (o : Origin) (kind : LockKind) (d : Nat) (s : State) : State × Answer :=
  match finOf 48 d with
  | some d =>
    let e := s.entry d
    if e.ownedByOther o then refuseWith .locked s
    else if forbidsLock o kind e then refuseWith .staged s
    else okWith (s.setEntry d { e with lock := some ⟨o, kind⟩ })
  | none => refuseWith .range s

/-- LOCK (R12, R13). -/
def execLock (o : Origin) (tag : Byte) (d : Nat) (s : State) : Outcome :=
  serve .lock o tag true (lockBlock o .lock d) s

/-- PROTECT (R12, R13). -/
def execProtect (o : Origin) (tag : Byte) (d : Nat) (s : State) : Outcome :=
  serve .protect o tag true (lockBlock o .protect d) s

/-- UNLOCK d (R14). -/
def unlockBlock (o : Origin) (d : Nat) (s : State) : State × Answer :=
  match finOf 48 d with
  | some d =>
    match (s.entry d).lock with
    | none => okWith s
    | some l =>
      if l.owner = o then okWith (s.setEntry d { s.entry d with lock := none }) else refuseWith .notOwner s
  | none => refuseWith .range s

/-- UNLOCK (R14). -/
def execUnlock (o : Origin) (tag : Byte) (d : Nat) (s : State) : Outcome :=
  serve .unlock o tag true (unlockBlock o d) s

/-- FORCE UNLOCK d (R15). -/
def forceUnlockBlock (d : Nat) (s : State) : State × Answer :=
  match finOf 48 d with
  | some d => okWith (s.setEntry d { s.entry d with lock := none })
  | none => refuseWith .range s

/-- FORCE_UNLOCK (R15). -/
def execForceUnlock (o : Origin) (tag : Byte) (d : Nat) (s : State) : Outcome :=
  serve .forceUnlock o tag true (forceUnlockBlock d) s

/-- Some assigned key targets IFB destination `d`, or its interrupter list is not empty (R19, check 3). -/
def ifbInUse (s : State) (d : Dst) : Bool :=
  (fins 128).any (fun k => (s.key k).targetsIfb d) || !(s.entry d).interrupters.isEmpty

/-- `d` is in the fallback list of some guard (R19, check 4). -/
def inFallback (s : State) (d : Dst) : Bool :=
  (fins 4).any fun g => ((s.guard g).defn.fallback.map Prod.fst).contains d

/-- The switcher input of the class is carried by another destination (R19, check 5). -/
def inputTaken (s : State) (d : Dst) (c : DestClass) : Bool :=
  match c.input with
  | none => false
  | some w => (fins 48).any fun d' => d' != d && (s.defs.at d').cls.input = some w

/-- The definition replaced, with what follows it: a destination that leaves or takes class IFB has an empty list, and
the lamps are recomputed (R20). -/
def redefine (d : Dst) (x : DestDef) (s : State) : State := refresh { s with defs := s.defs.put d x }

/-- DEFINE DESTINATION: the checks of R19, then R20. -/
def defineDestinationBlock (d cls index home : Nat) (s : State) : State × Answer :=
  match finOf 48 d, (optOf 24 index).bind (DestClass.of? cls), finOf 64 home with
  | some d, some c, some x =>
    if (s.entry d).hold.isSome then refuseWith .inUse s
    else if (s.defs.at d).cls = .ifb && c != .ifb && ifbInUse s d then refuseWith .inUse s
    else if c = .ifb && inFallback s d then refuseWith .cls s
    else if inputTaken s d c then refuseWith .config s
    else okWith (redefine d ⟨c, x⟩ s)
  | _, _, _ => refuseWith .range s

/-- DEFINE_DESTINATION (R19, R20). -/
def execDefineDestination (o : Origin) (tag : Byte) (d cls index home : Nat) (s : State) : Outcome :=
  serve .defineDestination o tag (codesOk (.defineDestination o tag d cls index home))
    (defineDestinationBlock d cls index home) s

/-- QUERY ROUTE d (R21). -/
def queryRouteBlock (d : Nat) (s : State) : State × Answer :=
  match finOf 48 d with
  | some d => replyWith (routeReply s d) s
  | none => refuseWith .range s

/-- QUERY_ROUTE (R21). -/
def execQueryRoute (o : Origin) (tag : Byte) (d : Nat) (s : State) : Outcome :=
  serve .queryRoute o tag true (queryRouteBlock d) s

end Sys2Proof.Machine
end

