-- ==== Sys2Proof/Machine/Salvos.lean ====
section
/-! DEFINITION. The salvo and preset requests and the store engine's events (R25 to R41, R181 to R183). -/

namespace Sys2Proof.Machine

/-- SALVO: the checks of R25 and R26, then its staging or its place in the queue. -/
def salvoBlock (o : Origin) (tag : Byte) (raw : List (Nat × Nat)) (s : State) : State × Answer :=
  match judgeSalvo s o tag raw with
  | .refuse code pair => (s, .now code (pairParam pair))
  | .wait pairs =>
    if salvosFull s then refuseWith .full s else (joinSalvos ⟨o, tag, pairs, false⟩ s, .now .queued [])
  | .stage pairs => (stageSalvo o tag false pairs s, .now .accepted [])

/-- SALVO (R25 to R27). -/
def execSalvo (o : Origin) (tag : Byte) (pairs : List (Nat × Nat)) (s : State) : Outcome :=
  serve .salvo o tag true (salvoBlock o tag pairs) s

/-- CANCEL SALVO: the requester's queued entry with the tag is removed, with no outcome (R32). -/
def cancelSalvoBlock (o : Origin) (salvoTag : Byte) (s : State) : State × Answer :=
  if s.salvos.any fun x => x.orig = o && x.tag = salvoTag then
    okWith { s with salvos := s.salvos.filter fun x => !(x.orig = o && x.tag = salvoTag) }
  else refuseWith .range s

/-- CANCEL_SALVO (R32). -/
def execCancelSalvo (o : Origin) (tag : Byte) (salvoTag : Byte) (s : State) : Outcome :=
  serve .cancelSalvo o tag true (cancelSalvoBlock o salvoTag) s

/-- QUERY SALVOS (R36). -/
def querySalvosBlock (index : Nat) (s : State) : State × Answer :=
  if index < 4 then replyWith (salvosReply s index) s else refuseWith .range s

/-- QUERY_SALVOS (R36). -/
def execQuerySalvos (o : Origin) (tag : Byte) (index : Nat) (s : State) : Outcome :=
  serve .querySalvos o tag true (querySalvosBlock index) s

/-- A store request that passes joins the store queue: a panel is answered ACCEPTED, the control link when the operation
finishes (R35, R37). -/
def acceptStore (op : StoreOp) (s : State) : State × Answer :=
  match op.orig with
  | .panel _ => (joinStore op s, .now .accepted [])
  | .ctl => (joinStore op s, .later)

/-- The snapshot of a save: each destination with its current source, in the order of the list (R37). -/
def snapshot (s : State) (ds : List Dst) : List (Dst × Src) := ds.map fun d => (d, (s.entry d).current)

/-- SAVE PRESET: the checks of R37, then the snapshot joins the store queue. -/
def savePresetBlock (o : Origin) (tag : Byte) (preset : Nat) (dests : List Nat) (s : State) : State × Answer :=
  if dests.length = 0 || 16 < dests.length then refuseWith .range s
  else
    match finOf 64 preset, allOf (finOf 48) dests with
    | some n, some ds =>
      if !distinct ds then refuseWith .repeated s
      else if !s.store.permit then refuseWith .storeLocked s
      else if storeBusy s o then refuseWith .storeBusy s
      else acceptStore ⟨.save (snapshot s ds), o, tag, n⟩ s
    | _, _ => refuseWith .range s

/-- SAVE_PRESET (R37). -/
def execSavePreset (o : Origin) (tag : Byte) (preset : Nat) (dests : List Nat) (s : State) : Outcome :=
  serve .savePreset o tag true (savePresetBlock o tag preset dests) s

/-- CLEAR PRESET: the checks of R38, then the store queue. -/
def clearPresetBlock (o : Origin) (tag : Byte) (preset : Nat) (s : State) : State × Answer :=
  match finOf 64 preset with
  | some n =>
    if !s.store.permit then refuseWith .storeLocked s
    else if storeBusy s o then refuseWith .storeBusy s
    else acceptStore ⟨.clear, o, tag, n⟩ s
  | none => refuseWith .range s

/-- CLEAR_PRESET (R38). -/
def execClearPreset (o : Origin) (tag : Byte) (preset : Nat) (s : State) : Outcome :=
  serve .clearPreset o tag true (clearPresetBlock o tag preset) s

/-- RECALL: the checks of R39, then the store queue; write permission plays no part. -/
def recallBlock (o : Origin) (tag : Byte) (preset : Nat) (s : State) : State × Answer :=
  match finOf 64 preset with
  | some n =>
    if storeBusy s o then refuseWith .storeBusy s else acceptStore ⟨.recallPreset, o, tag, n⟩ s
  | none => refuseWith .range s

/-- RECALL (R39). -/
def execRecallPreset (o : Origin) (tag : Byte) (preset : Nat) (s : State) : Outcome :=
  serve .recallPreset o tag true (recallBlock o tag preset) s

/-- STORE_WORD_READY (R181, R183, R186, R187). -/
def execStoreWordReady (s : State) : Outcome := finish s (wordReady s)

/-- RECALL_READ_COMPLETE (R39, R40, R183). -/
def execRecallReadComplete (s : State) : Outcome := finish s (readDone s)

end Sys2Proof.Machine
end

