-- ==== Sys2Proof/Machine/Tally.lean ====
section
/-! DEFINITION. The tally unit's commands (R71 to R81). -/

namespace Sys2Proof.Machine

/-- The flash timer goes to its other half, for another 250 ms (R71). -/
def flashExpiry (s : State) : State :=
  { s with tally := { s.tally with flashLit := !s.tally.flashLit, flashTimer := Config.flashHalf } }

/-- FLASH_TIMER_EXPIRY (R71). -/
def execFlashTimerExpiry (s : State) : Outcome := finish s (flashExpiry s)

/-- The switcher tally record replaced, with its recomputation (R73). -/
def setRecord (program preview : Tab Bool 24) (fresh : Bool) (s : State) : State :=
  refresh { s with tally := { s.tally with program := program, preview := preview, fresh := fresh } }

/-- BUS TALLY: both sets replaced and FRESH (R76). -/
def busTallyBlock (program preview : Nat) (s : State) : State × Answer :=
  okWith (setRecord (bitsOf 24 program) (bitsOf 24 preview) true s)

/-- BUS_TALLY (R76, R171). -/
def execBusTally (o : Origin) (tag : Byte) (program preview : Nat) (s : State) : Outcome :=
  serve .busTally o tag true (busTallyBlock program preview) s

/-- The empty set of switcher inputs. -/
def noInputs : Tab Bool 24 := tabOf fun _ => false

/-- The switcher settings replaced, with the record that a change of link empties (R78). -/
def setSwitcher (link : Option Pnl) (source : Option Src) (s : State) : State :=
  let t := { s with tally := { s.tally with switcher := link, programSource := source } }
  if link = s.tally.switcher then refresh t else setRecord noInputs noInputs link.isNone t

/-- SET SWITCHER (R78). -/
def setSwitcherBlock (link source : Nat) (s : State) : State × Answer :=
  match optOf 8 link, optOf 64 source with
  | some l, some x => okWith (setSwitcher l x s)
  | _, _ => refuseWith .range s

/-- SET_SWITCHER (R78). -/
def execSetSwitcher (o : Origin) (tag : Byte) (link source : Nat) (s : State) : Outcome :=
  serve .setSwitcher o tag true (setSwitcherBlock link source) s

/-- CLEAR SWITCHER TALLY: both sets empty and FRESH (R79). -/
def clearSwitcherTallyBlock (s : State) : State × Answer := okWith (setRecord noInputs noInputs true s)

/-- CLEAR_SWITCHER_TALLY (R79). -/
def execClearSwitcherTally (o : Origin) (tag : Byte) (s : State) : Outcome :=
  serve .clearSwitcherTally o tag true clearSwitcherTallyBlock s

/-- The mapping of a channel replaced; its call count is kept (R80). -/
def mapChannel (c : Chn) (x : Option Src) (s : State) : State :=
  refresh (s.setChannel c { s.channel c with mapped := x })

/-- DEFINE TALLY CHANNEL (R80). -/
def defineTallyChannelBlock (channel source : Nat) (s : State) : State × Answer :=
  match finOf 32 channel, optOf 64 source with
  | some c, some x => okWith (mapChannel c x s)
  | _, _ => refuseWith .range s

/-- DEFINE_TALLY_CHANNEL (R80). -/
def execDefineTallyChannel (o : Origin) (tag : Byte) (channel source : Nat) (s : State) : Outcome :=
  serve .defineTallyChannel o tag true (defineTallyChannelBlock channel source) s

/-- QUERY TALLY by subject kind: a channel, a source, or the switcher record, whose number is ignored (R81, R192). -/
def queryTallyBlock (kind number : Nat) (s : State) : State × Answer :=
  match kind with
  | 0 =>
    match finOf 32 number with
    | some c => replyWith (channelReply s c) s
    | none => refuseWith .range s
  | 1 =>
    match finOf 64 number with
    | some x => replyWith (sourceReply s x) s
    | none => refuseWith .range s
  | 2 => replyWith (switcherReply s) s
  | _ => refuseWith .range s

/-- QUERY_TALLY (R81). -/
def execQueryTally (o : Origin) (tag : Byte) (kind number : Nat) (s : State) : Outcome :=
  serve .queryTally o tag (codesOk (.queryTally o tag kind number)) (queryTallyBlock kind number) s

end Sys2Proof.Machine
end

