-- ==== Sys2Proof/Machine/Talk.lean ====
section
/-! DEFINITION. The talk engine's commands (R88 to R107). -/

namespace Sys2Proof.Machine

/-! ### Stations and parties -/

/-- A key of the station with target kind IFB is in a talk state (R88, check 2). -/
def stationInterrupts (s : State) (p : Pnl) : Bool :=
  (stationKeys p).any fun k => (s.key k).isIfb && (s.key k).state.talking

/-- The station owns an assigned key with target kind IFB (R88, check 3). -/
def stationOwnsIfb (s : State) (p : Pnl) : Bool := (stationKeys p).any fun k => (s.key k).isIfb

/-- DEFINE STATION: the checks of R88, then the mic source. -/
def defineStationBlock (station mic : Nat) (s : State) : State × Answer :=
  match finOf 8 station, optOf 64 mic with
  | some p, some m =>
    if stationInterrupts s p then refuseWith .inUse s
    else if m.isNone && stationOwnsIfb s p then refuseWith .config s
    else okWith { s with talk := { s.talk with mics := s.talk.mics.put p m } }
  | _, _ => refuseWith .range s

/-- DEFINE_STATION (R88). -/
def execDefineStation (o : Origin) (tag : Byte) (station mic : Nat) (s : State) : Outcome :=
  serve .defineStation o tag true (defineStationBlock station mic) s

/-- A call key of the party is in a talk state (R89). -/
def partyCalled (s : State) (y : Pty) : Bool :=
  (fins 128).any fun k => (s.key k).callsParty y && (s.key k).state.talking

/-- DEFINE PARTY: the checks of R89, then the call channel. -/
def definePartyBlock (party channel : Nat) (s : State) : State × Answer :=
  match finOf 32 party, optOf 32 channel with
  | some y, some c =>
    if partyCalled s y then refuseWith .inUse s
    else okWith { s with talk := { s.talk with parties := s.talk.parties.put y c } }
  | _, _ => refuseWith .range s

/-- DEFINE_PARTY (R89). -/
def execDefineParty (o : Origin) (tag : Byte) (party channel : Nat) (s : State) : Outcome :=
  serve .defineParty o tag true (definePartyBlock party channel) s

/-! ### Key definitions -/

/-- A target kind with its number (R90). -/
def keyTarget? (kind target call : Nat) : Option KeyTarget :=
  match kind with
  | 0 => (finOf 32 target).map fun y => .party y (call = 1)
  | 1 => (finOf 48 target).map .ifb
  | _ => none

/-- The definition of key `k` replaced (R92). -/
def setKeyDef (k : KeyId) (f : Option KeyDef) (s : State) : State := s.setKey k { s.key k with defn := f }

/-- Assigning a key: the checks of R91. -/
def assignKey (k : KeyId) (mode kind target call : Nat) (s : State) : State × Answer :=
  match KeyMode.ofCode? mode, keyTarget? kind target call with
  | some m, some t =>
    if (s.key k).state != .idle then refuseWith .inUse s
    else
      match t with
      | .party y c => okWith (setKeyDef k (some ⟨m, .party y c⟩) s)
      | .ifb d =>
        if (s.defs.at d).cls != .ifb then refuseWith .cls s
        else if call = 1 || (s.talk.mics.at (stationOf k)).isNone then refuseWith .config s
        else okWith (setKeyDef k (some ⟨m, .ifb d⟩) s)
  | _, _ => refuseWith .range s

/-- Unassigning a key, subject to checks 1 and 2 alone (R91). -/
def unassignKey (k : KeyId) (s : State) : State × Answer :=
  if (s.key k).state != .idle then refuseWith .inUse s else okWith (setKeyDef k none s)

/-- DEFINE KEY (R91, R92). -/
def defineKeyBlock (key assigned mode kind target call : Nat) (s : State) : State × Answer :=
  match finOf 128 key with
  | some k => if assigned = 0 then unassignKey k s else assignKey k mode kind target call s
  | none => refuseWith .range s

/-- DEFINE_KEY (R91, R92). -/
def execDefineKey (o : Origin) (tag : Byte) (key assigned mode kind target call : Nat) (s : State) : Outcome :=
  serve .defineKey o tag (codesOk (.defineKey o tag key assigned mode kind target call))
    (defineKeyBlock key assigned mode kind target call) s

/-! ### Presses, releases and timers -/

/-- The assigned key that a key number of panel `p` reaches (R93). -/
def keyAt (s : State) (p : Pnl) (n : Nat) : Option (KeyId × KeyDef) :=
  (finOf 16 n).bind fun i => (s.key (keyOf p i)).defn.map fun f => (keyOf p i, f)

/-- KEY DOWN: R93's checks, then R95 and R99. -/
def keyDownBlock (o : Origin) (n : Nat) (s : State) : State × Answer :=
  match o with
  | .ctl => refuseWith .notPermitted s
  | .panel p =>
    match keyAt s p n with
    | some (k, f) =>
      let r := pressed s f (s.key k).state
      (refresh (moveKey k r.1 s), .now r.2 [])
    | none => refuseWith .range s

/-- KEY_DOWN (R93, R95, R99). -/
def execKeyDown (o : Origin) (tag : Byte) (key : Nat) (s : State) : Outcome :=
  serve .keyDown o tag true (keyDownBlock o key) s

/-- KEY UP: R93's checks, then R95; the link of a key that stops talking tests its quiesce (R106, R163). -/
def keyUpBlock (o : Origin) (n : Nat) (s : State) : State × Answer :=
  match o with
  | .ctl => refuseWith .notPermitted s
  | .panel p =>
    match keyAt s p n with
    | some (k, _) =>
      okWith (testQuiesced p (refresh (moveKey k (released s ((s.link p).state = .up) (s.key k).state) s)))
    | none => refuseWith .range s

/-- KEY_UP (R93, R95). -/
def execKeyUp (o : Origin) (tag : Byte) (key : Nat) (s : State) : Outcome :=
  serve .keyUp o tag true (keyUpBlock o key) s

/-- A running threshold timer takes its key from TIMING to HELD (R96). -/
def thresholdExpiry (k : KeyId) (s : State) : State :=
  match (s.key k).state with
  | .timing (some _) => moveKey k .held s
  | _ => s

/-- THRESHOLD_EXPIRY (R96). -/
def execThresholdExpiry (k : Fin 128) (s : State) : Outcome := finish s (thresholdExpiry k s)

/-- A running latch-limit timer takes its key from LATCHED to IDLE (R97). -/
def latchLimitExpiry (k : KeyId) (s : State) : State :=
  match (s.key k).state with
  | .latched (some _) => testQuiesced (stationOf k) (refresh (moveKey k .idle s))
  | _ => s

/-- LATCH_LIMIT_EXPIRY (R97). -/
def execLatchLimitExpiry (k : Fin 128) (s : State) : Outcome := finish s (latchLimitExpiry k s)

/-- The talk matrix port sends the word of its oldest crosspoint, by the crosspoint's commanded state (R101). -/
def talkSend (s : State) : State :=
  match s.talk.sendList with
  | [] => s
  | (p, y) :: rest =>
    { s with talk := { s.talk with sendList := rest, talkWord := talkCommand (s.crosspoint p y) p y } }

/-- TALK_PORT_SEND (R101). -/
def execTalkPortSend (s : State) : Outcome := finish s (talkSend s)

/-- Every key out of talk, with the quiesces this ends (R103, R106; in ascending number, log 31). -/
def silence (s : State) : State :=
  refresh ((fins 8).foldl (fun t p => testQuiesced p t) (refresh (moveKeys (fins 128) talkOff s)))

/-- ALL TALK OFF with its urgent result (R103, R176). -/
def silenceRequest (s : State) : State × UrgentResult := if s.ctl.ready then (silence s, .ok) else (s, .notReady)

/-- ALL_TALK_OFF (R103, R176). -/
def execAllTalkOff (s : State) : Outcome := finish s (urgentDone (silenceRequest s))

/-- QUERY KEY by subject kind: a key, a station or a party (R107). -/
def queryKeyBlock (kind number : Nat) (s : State) : State × Answer :=
  match kind with
  | 0 =>
    match finOf 128 number with
    | some k => replyWith (keyReply s k) s
    | none => refuseWith .range s
  | 1 =>
    match finOf 8 number with
    | some p => replyWith (stationReply s p) s
    | none => refuseWith .range s
  | 2 =>
    match finOf 32 number with
    | some y => replyWith (partyReply s y) s
    | none => refuseWith .range s
  | _ => refuseWith .range s

/-- QUERY_KEY (R107). -/
def execQueryKey (o : Origin) (tag : Byte) (kind number : Nat) (s : State) : Outcome :=
  serve .queryKey o tag (codesOk (.queryKey o tag kind number)) (queryKeyBlock kind number) s

end Sys2Proof.Machine
end

