-- ==== Sys2Proof/Machine/Guards.lean ====
section
/-! DEFINITION. The guard unit's commands (R126 to R140). -/

namespace Sys2Proof.Machine

/-- ARM GUARD: the checks of R126 in order. -/
def armBlock (g : Nat) (s : State) : State × Answer :=
  match finOf 4 g with
  | some g =>
    let x := s.guard g
    if !x.state.isDisabled then okWith s
    else if !monitorIn s x.defn || x.defn.fallback.isEmpty then refuseWith .config s
    else okWith (s.setGuardState g (armedState s x.defn))
  | none => refuseWith .range s

/-- ARM_GUARD (R126). -/
def execArmGuard (o : Origin) (tag : Byte) (g : Nat) (s : State) : Outcome :=
  serve .armGuard o tag true (armBlock g) s

/-- DISARM GUARD (R127). -/
def disarmBlock (g : Nat) (s : State) : State × Answer :=
  match finOf 4 g with
  | some g =>
    if (s.guard g).state.holding then refuseWith .inUse s else okWith (s.setGuardState g .disabled)
  | none => refuseWith .range s

/-- DISARM_GUARD (R127). -/
def execDisarmGuard (o : Origin) (tag : Byte) (g : Nat) (s : State) : Outcome :=
  serve .disarmGuard o tag true (disarmBlock g) s

/-- A DEBOUNCING guard's timer expires: it trips (R128). -/
def debounceExpiry (g : Gid) (s : State) : State :=
  match (s.guard g).state with
  | .debouncing _ => trip g s
  | _ => s

/-- DEBOUNCE_EXPIRY (R128, R130 to R132). -/
def execDebounceExpiry (g : Fin 4) (s : State) : Outcome := finish s (debounceExpiry g s)

/-- TRIP GUARD by the guard's state, with its urgent result (R129). -/
def tripRequest (g : Nat) (s : State) : State × UrgentResult :=
  if s.ctl.ready then
    match finOf 4 g with
    | some g =>
      match (s.guard g).state with
      | .disabled => (s, .notArmed)
      | .armed => (trip g s, .ok)
      | .debouncing _ => (trip g s, .ok)
      | .tripped _ => (s, .ok)
      | .recovering _ r => (s.setGuardState g (.tripped r), .ok)
    | none => (s, .range)
  else (s, .notReady)

/-- TRIP_GUARD (R129, R176). -/
def execTripGuard (g : Nat) (s : State) : Outcome := finish s (urgentDone (tripRequest g s))

/-- A RECOVERING guard's timer expires: it restores (R134). -/
def recoveryExpiry (g : Gid) (s : State) : State :=
  match (s.guard g).state with
  | .recovering _ r => restore g r s
  | _ => s

/-- RECOVERY_EXPIRY (R134, R136). -/
def execRecoveryExpiry (g : Fin 4) (s : State) : Outcome := finish s (recoveryExpiry g s)

/-- RESTORE GUARD by the guard's state (R135). -/
def restoreBlock (g : Nat) (s : State) : State × Answer :=
  match finOf 4 g with
  | some g =>
    match (s.guard g).state with
    | .disabled => refuseWith .notArmed s
    | .armed => okWith s
    | .debouncing _ => okWith s
    | .tripped r => if matching s (s.guard g).defn then refuseWith .stillFaulted s else okWith (restore g r s)
    | .recovering _ r => okWith (restore g r s)
  | none => refuseWith .range s

/-- RESTORE_GUARD (R135, R136). -/
def execRestoreGuard (o : Origin) (tag : Byte) (g : Nat) (s : State) : Outcome :=
  serve .restoreGuard o tag true (restoreBlock g) s

/-! ### Defining a guard -/

/-- The fields of a definition in range (R138, check 1). Bits of the action values for lines outside the action set are
dropped: DESIGN CHOICE (log 33). -/
def guardDef? (line level debounce mode armed : Nat) (pairs : List (Nat × Nat)) (actionSet actionValues : Nat) :
    Option GuardDef :=
  match finOf 16 line, allOf pairOf pairs with
  | some l, some ps =>
    if 1 ≤ debounce && debounce ≤ 1000 && 1 ≤ pairs.length && pairs.length ≤ 8 then
      some ⟨l, level = 1, debounce, mode = 1, ps,
        tabOf fun i : Lid => if actionSet.testBit i.1 then some (actionValues.testBit i.1) else none, armed = 1⟩
    else none
  | _, _ => none

/-- Another guard's fallback list holds one of the destinations (R138, check 5). -/
def sharesDest (s : State) (g : Gid) (f : GuardDef) : Bool :=
  (fins 4).any fun h =>
    h != g && ((s.guard h).defn.fallback.map Prod.fst).any fun d => (f.fallback.map Prod.fst).contains d

/-- Another guard forces one of the action lines to the opposite value (R138, check 6). -/
def opposes (s : State) (g : Gid) (f : GuardDef) : Bool :=
  (fins 4).any fun h => h != g && (fins 16).any fun l =>
    match f.action.at l, (s.guard h).defn.action.at l with
    | some v, some w => v != w
    | _, _ => false

/-- Every action line is OUT (R138, check 7). -/
def actionOut (s : State) (f : GuardDef) : Bool :=
  (fins 16).all fun l => (f.action.at l).isNone || (s.line l).isOut

/-- DEFINE GUARD: the checks of R138, then the definition (R139). -/
def defineGuardBlock (g line level debounce mode armed : Nat) (pairs : List (Nat × Nat)) (actionSet actionValues : Nat)
    (s : State) : State × Answer :=
  match finOf 4 g, guardDef? line level debounce mode armed pairs actionSet actionValues with
  | some g, some f =>
    if !distinct (f.fallback.map Prod.fst) then refuseWith .repeated s
    else if !(s.guard g).state.isDisabled then refuseWith .inUse s
    else if f.fallback.any fun p => (s.defs.at p.1).cls = .ifb then refuseWith .cls s
    else if sharesDest s g f || opposes s g f || !monitorIn s f || !actionOut s f then refuseWith .config s
    else okWith (s.setGuard g { s.guard g with defn := f })
  | _, _ => refuseWith .range s

/-- DEFINE_GUARD (R138, R139). -/
def execDefineGuard (o : Origin) (tag : Byte) (g line level debounce mode armed : Nat) (pairs : List (Nat × Nat))
    (actionSet actionValues : Nat) (s : State) : Outcome :=
  serve .defineGuard o tag
    (codesOk (.defineGuard o tag g line level debounce mode armed pairs actionSet actionValues))
    (defineGuardBlock g line level debounce mode armed pairs actionSet actionValues) s

/-- QUERY GUARD (R140). -/
def queryGuardBlock (g : Nat) (s : State) : State × Answer :=
  match finOf 4 g with
  | some g => replyWith (guardReply s g) s
  | none => refuseWith .range s

/-- QUERY_GUARD (R140). -/
def execQueryGuard (o : Origin) (tag : Byte) (g : Nat) (s : State) : Outcome :=
  serve .queryGuard o tag true (queryGuardBlock g) s

end Sys2Proof.Machine
end

