-- ==== Sys2Proof/Machine/SignalLines.lean ====
section
/-! DEFINITION. The signal line unit's commands (R144 to R151). -/

namespace Sys2Proof.Machine

/-- The level outside equipment puts on a pin. -/
def setPin (l : Lid) (high : Bool) (s : State) : State :=
  { s with lines := { s.lines with pins := s.lines.pins.put l high } }

/-- A new pin level is taken: on an IN line it is a change of the input sample, and each guard that monitors the line
takes it (R144, R125). -/
def sampleChange (l : Lid) (high : Bool) (s : State) : State :=
  let t := setPin l high s
  match (s.line l) with
  | .input old =>
    if old = high then t
    else { t.setLine l (.input high) with guards := tabOf fun g => guardOnChange l high (s.guard g) }
  | .output _ _ _ => t

/-- INPUT_SAMPLE_CHANGE (R144, R128, R133, R134). -/
def execInputSampleChange (l : Fin 16) (high : Bool) (s : State) : Outcome := finish s (sampleChange l high s)

/-- The line is OUT with output mode MANUAL (R149). -/
def isManual (x : Line) : Bool :=
  match x with
  | .output .manual _ _ => true
  | _ => false

/-- A line with its manual latch set; a line of another form is left as it is. -/
def withLatch (x : Line) (on : Bool) : Line :=
  match x with
  | .output mode _ driven => .output mode on driven
  | .input sample => .input sample

/-- LINE SET: every named latch in one step, or none (R149). -/
def lineSetBlock (lines values : Nat) (s : State) : State × Answer :=
  if (fins 16).all fun l => !lines.testBit l.1 || isManual (s.line l) then
    okWith (driveLines { s with lines := { s.lines with
      recs := tabOf fun l : Lid => if lines.testBit l.1 then withLatch (s.line l) (values.testBit l.1) else s.line l } })
  else refuseWith .config s

/-- LINE_SET (R149). -/
def execLineSet (o : Origin) (tag : Byte) (lines values : Nat) (s : State) : Outcome :=
  serve .lineSet o tag true (lineSetBlock lines values) s

/-- An output mode with its target: absent with MANUAL, present with TALLY and TALK (R150, check 1). -/
def outMode? (mode target : Nat) : Option OutMode :=
  match mode with
  | 0 => if target = 255 then some .manual else none
  | 1 => (finOf 64 target).map .tally
  | 2 => (finOf 32 target).map .talk
  | _ => none

/-- The line a DEFINE LINE makes: IN takes the pin's level as its first sample; the driven value of OUT follows (R150). -/
def lineDef? (s : State) (l : Lid) (direction mode target latch : Nat) : Option Line :=
  match direction with
  | 0 =>
    match (s.line l) with
    | .input sample => some (.input sample)
    | .output _ _ _ => some (.input (s.lines.pins.at l))
  | 1 => (outMode? mode target).map fun m => .output m (latch = 1) false
  | _ => none

/-- The line is monitored by a guard that is not DISABLED, or named in some guard's line action (R150, check 2). -/
def lineInUse (s : State) (l : Lid) : Bool :=
  (fins 4).any fun g =>
    ((s.guard g).defn.line = l && !(s.guard g).state.isDisabled) || ((s.guard g).defn.action.at l).isSome

/-- DEFINE LINE: the checks of R150, then the line. -/
def defineLineBlock (line direction mode target latch : Nat) (s : State) : State × Answer :=
  match finOf 16 line with
  | some l =>
    match lineDef? s l direction mode target latch with
    | some x => if lineInUse s l then refuseWith .inUse s else okWith (driveLines (s.setLine l x))
    | none => refuseWith .range s
  | none => refuseWith .range s

/-- DEFINE_LINE (R150). -/
def execDefineLine (o : Origin) (tag : Byte) (line direction mode target latch : Nat) (s : State) : Outcome :=
  serve .defineLine o tag (codesOk (.defineLine o tag line direction mode target latch))
    (defineLineBlock line direction mode target latch) s

/-- QUERY LINE: one line, or all with 0xFF (R151). -/
def queryLineBlock (line : Nat) (s : State) : State × Answer :=
  if line = 255 then replyWith (allLinesReply s) s
  else
    match finOf 16 line with
    | some l => replyWith (lineReply s l) s
    | none => refuseWith .range s

/-- QUERY_LINE (R151). -/
def execQueryLine (o : Origin) (tag : Byte) (line : Nat) (s : State) : Outcome :=
  serve .queryLine o tag true (queryLineBlock line) s

end Sys2Proof.Machine
end

