-- ==== Sys2Proof/Machine/PanelLinks.lean ====
section
/-! DEFINITION. The panel links: the receiver, the held buffer, the session requests and the link timers (R155 to
R170). -/

namespace Sys2Proof.Machine

/-! ### Receiving a frame (R155 to R158) -/

/-- The supervision timer of an UP or QUIESCING link restarts; another link has none running (R158, R160). -/
def restartWatch (p : Pnl) (s : State) : State :=
  if (s.link p).state.session then s.setLink p { s.link p with supervision := some (supervisionTime s) } else s

/-- A frame the link refuses by itself: it holds the held buffer until its reply has been sent (R156, R157). -/
def holdRefused (p : Pnl) (body : List Byte) (typ tag : Byte) (code : Result) (s : State) : State :=
  s.setLink p { s.link p with
    held := some ⟨body, false⟩, replies := (s.link p).replies ++ [.reply typ tag code [] true] }

/-- A frame that waits in the held buffer for its block (R156). -/
def holdWaiting (p : Pnl) (body : List Byte) (s : State) : State :=
  s.setLink p { s.link p with held := some ⟨body, true⟩ }

/-- What the decoder makes of a body from a link: the request kind by its type, and the request (R157, check 1). -/
def readBody (o : Origin) (body : List Byte) : Option (ReqKind × Instr) :=
  match body.head?.bind ReqKind.ofCode?, decodeBody o body with
  | some k, some i => some (k, i)
  | _, _ => none

/-- A valid frame is offered to an empty held buffer. On an UP or QUIESCING link it is checked at the link and waits for
its block or is refused; on a DOWN or QUIESCED link HELLO alone is kept (R156 to R158). -/
def offerFrame (p : Pnl) (body : List Byte) (typ tag : Byte) (s : State) : State :=
  match readBody (.panel p) body with
  | none => if (s.link p).state.session then holdRefused p body typ tag .range s else s
  | some (k, i) =>
    match panelGate s p k (codesOk i) with
    | .drop => s
    | .refuse code => holdRefused p body typ tag code s
    | .pass => holdWaiting p body s

/-- A valid frame finds the held buffer occupied: a BUSY waits for it on an UP or QUIESCING link, if none waits yet
(R156). -/
def offerBusy (p : Pnl) (typ tag : Byte) (s : State) : State :=
  if (s.link p).state.session && (s.link p).busy.isNone then
    s.setLink p { s.link p with busy := some (typ, tag) }
  else s

/-- A valid frame: the watch restarts, then the held buffer takes it or it is refused BUSY (R156). -/
def takeFrame (p : Pnl) (body : List Byte) (s : State) : State :=
  match body with
  | typ :: tag :: _ =>
    let s := restartWatch p s
    match (s.link p).held with
    | none => offerFrame p body typ tag s
    | some _ => offerBusy p typ tag s
  | _ => s

def setAssembling (p : Pnl) (bs : List Byte) (s : State) : State :=
  s.setLink p { s.link p with assembling := bs }

/-- The bytes after the length byte, when they end a frame: its body is handed on if the sum is zero, and the frame is
discarded otherwise (R155). -/
def endFrame (p : Pnl) (len : Byte) (tail : List Byte) (s : State) : State :=
  let s := setAssembling p [] s
  if sum8 (len :: tail) = 0 then transmit (takeFrame p tail.dropLast s) else s

/-- A byte arrives on a link (R155). -/
def takeByte (p : Pnl) (s : State) (b : Byte) : State :=
  match (s.link p).assembling with
  | [] => if b = sync then setAssembling p [b] s else s
  | [x] => if 2 ≤ b.toNat && b.toNat ≤ 62 then setAssembling p [x, b] s else setAssembling p [] s
  | x :: len :: rest =>
    if rest.length = len.toNat then endFrame p len (rest ++ [b]) s
    else setAssembling p (x :: len :: rest ++ [b]) s

/-- FRAME_RECEIVED: the bytes of a frame arrive, one after another (R155, R156). -/
def execFrameReceived (p : Fin 8) (bytes : List Byte) (s : State) : Outcome :=
  finish s (bytes.foldl (takeByte p) s)

/-- INTER_BYTE_TIMEOUT: the frame being assembled is discarded (R155). -/
def execInterByteTimeout (p : Fin 8) (s : State) : Outcome := finish s (setAssembling p [] s)

/-- The transmitter has ended its frame; a held buffer it answered is free (R156, R165). -/
def frameEnd (p : Pnl) (s : State) : State :=
  match (s.link p).sending with
  | some x =>
    s.setLink p { s.link p with sending := none, held := if x.freesHeld then none else (s.link p).held }
  | none => s

/-- FRAME_SENT: the next frame is chosen as the command ends (R165). -/
def execFrameSent (p : Fin 8) (s : State) : Outcome := finish s (frameEnd p s)

/-! ### Sessions (R159 to R162) -/

/-- HELLO by link state (R159); an UP link before READY cannot stand (log 29). -/
def helloBlock (o : Origin) (s : State) : State × Answer :=
  match o with
  | .ctl => refuseWith .notPermitted s
  | .panel p =>
    if !s.ctl.ready then refuseWith .notReady s
    else if (s.link p).state = .quiescing then refuseWith .quiescing s
    else (enterUp p s, .now .welcome (welcomeReply s p))

/-- HELLO (R159). -/
def execHello (o : Origin) (tag : Byte) (s : State) : Outcome := serve .hello o tag true (helloBlock o) s

/-- BYE: an UP link starts to quiesce, another link is left as it is (R162). -/
def byeBlock (o : Origin) (s : State) : State × Answer :=
  match o with
  | .ctl => refuseWith .notPermitted s
  | .panel p => if (s.link p).state = .up then okWith (startQuiesce p none s) else okWith s

/-- BYE (R162). -/
def execBye (o : Origin) (tag : Byte) (s : State) : Outcome := serve .bye o tag true (byeBlock o) s

/-- PING (R160, R174). -/
def execPing (o : Origin) (tag : Byte) (s : State) : Outcome := serve .ping o tag true okWith s

/-- SUPERVISION_EXPIRY: the link enters DOWN (R161). -/
def execSupervisionExpiry (p : Fin 8) (s : State) : Outcome :=
  if (s.link p).state.session && (s.link p).supervision.isSome then finish s (linkDown p s) else finish s s

/-! ### Subscriptions and holds (R167, R170) -/

/-- The class of a record reference is subscribed. -/
def Subs.covers (x : Subs) : Ref → Bool
  | .route _ => x.routes
  | .tally _ => x.tally
  | .key _ => x.keys

/-- Every record of the classes of `new` that `old` lacks, in the order ROUTES, TALLY, KEYS, each ascending (R167). -/
def newRefs (old new : Subs) : List Ref :=
  (if new.routes && !old.routes then (fins 48).map .route else [])
    ++ (if new.tally && !old.tally then (fins 32).map .tally else [])
    ++ (if new.keys && !old.keys then (fins 16).map .key else [])

/-- A link whose subscriptions are replaced (R167). -/
def resubscribe (l : Link) (new : Subs) : Link :=
  { l with subs := new, changes := addRefs (l.changes.filter new.covers) (newRefs l.subs new) }

/-- The classes a class set names (R192). -/
def subsOf (classes : Nat) : Subs := ⟨classes.testBit 0, classes.testBit 1, classes.testBit 2⟩

/-- SUBSCRIBE (R167). -/
def subscribeBlock (o : Origin) (classes : Nat) (s : State) : State × Answer :=
  match o with
  | .ctl => refuseWith .notPermitted s
  | .panel p =>
    if classes < 8 then okWith (s.setLink p (resubscribe (s.link p) (subsOf classes))) else refuseWith .range s

/-- SUBSCRIBE (R167). -/
def execSubscribe (o : Origin) (tag : Byte) (classes : Nat) (s : State) : Outcome :=
  serve .subscribe o tag true (subscribeBlock o classes) s

def setHoldTimer (p : Pnl) (t : Option Nat) (s : State) : State := s.setLink p { s.link p with hold := t }

/-- HOLD (R170). -/
def holdBlock (o : Origin) (time : Nat) (s : State) : State × Answer :=
  match o with
  | .ctl => refuseWith .notPermitted s
  | .panel p =>
    if 1 ≤ time && time ≤ 1000 then okWith (setHoldTimer p (some (Config.ms time)) s) else refuseWith .range s

/-- HOLD (R170). -/
def execHold (o : Origin) (tag : Byte) (time : Nat) (s : State) : Outcome :=
  serve .hold o tag true (holdBlock o time) s

/-- RESUME (R170). -/
def resumeBlock (o : Origin) (s : State) : State × Answer :=
  match o with
  | .ctl => refuseWith .notPermitted s
  | .panel p => okWith (setHoldTimer p none s)

/-- RESUME (R170). -/
def execResume (o : Origin) (tag : Byte) (s : State) : Outcome := serve .resume o tag true (resumeBlock o) s

/-- HOLD_TIMER_EXPIRY: the hold ends (R170). -/
def execHoldTimerExpiry (p : Fin 8) (s : State) : Outcome := finish s (setHoldTimer p none s)

end Sys2Proof.Machine
end

