-- ==== Sys2Proof/Machine/Control.lean ====
section
/-! DEFINITION. The control link: transactions, and the requests about the controller as a whole (R164, R173 to R179). -/

namespace Sys2Proof.Machine

/-! ### Transactions (R173 to R176) -/

/-- The bytes clocked out in a transaction. -/
def clockOut (bs : List Byte) (s : State) : State := { s with ctl := { s.ctl with out := bs } }

/-- Zero bytes. -/
def zeros (n : Nat) : List Byte := List.replicate n 0

/-- STATUS: the status byte in the code byte and in every further byte. A code byte that names no transaction is taken
as STATUS (R173). -/
def execStatus (_code : Byte) (extra : Nat) (s : State) : Outcome :=
  finish s (clockOut (List.replicate (1 + extra) (statusByte s)) s)

/-- The bytes of a write with a length byte from 1 to `limit` and exactly that many bytes after it (R174, R176). -/
def written (limit : Nat) : List Byte → Option (List Byte)
  | [] => none
  | len :: body =>
    if 1 ≤ len.toNat && len.toNat ≤ limit && body.length = len.toNat then some body else none

/-- A write is discarded (R174, R176). -/
def discardWrite (s : State) : State := { s with ctl := { s.ctl with discard := true } }

/-- A request is accepted into the request buffer (R174). -/
def acceptRequest (body : List Byte) (waiting : Bool) (s : State) : State :=
  { s with ctl := { s.ctl with request := some ⟨body, waiting⟩, reqFree := false, discard := false } }

/-- The tag a response carries to a request body: its second byte; a body of one byte has none, and the value is free
(R175, log 14). -/
def requestTag (s : State) : List Byte → Byte
  | _ :: tag :: _ => tag
  | _ => Config.missingTag s.free

/-- The type byte of a request body. -/
def requestType (body : List Byte) : Byte := body.head?.getD 0

/-- Count the free value that a body of one byte uses. -/
def useTag (body : List Byte) (s : State) : State := if body.length < 2 then { s with free := s.free + 1 } else s

/-- An accepted request is checked by the decoder: it waits for its block, or is refused in its response (R174). -/
def decodeRequest (body : List Byte) (s : State) : State :=
  let refuse := fun code =>
    useTag body (placeResponse (requestType body) (requestTag s body) code [] (acceptRequest body false s))
  match readBody .ctl body with
  | none => refuse .range
  | some (k, i) =>
    match controlGate s k (codesOk i) with
    | .refuse code => refuse code
    | .pass => acceptRequest body true s
    | .drop => acceptRequest body true s

/-- WRITE_REQUEST (R173, R174). Zero is clocked out in every byte after the code byte; that this holds also for bytes that
the length byte does not count, which R173 leaves open, is a DESIGN CHOICE (log 35). -/
def execWriteRequest (clocked : List Byte) (s : State) : Outcome :=
  let t := clockOut (statusByte s :: zeros clocked.length) s
  match if s.ctl.reqFree then written 64 clocked else none with
  | some body => finish s (decodeRequest body t)
  | none => finish s (discardWrite t)

/-- The bytes a READ RESPONSE offers after its code byte: the length byte and the response (R175). -/
def offered (s : State) : List Byte :=
  match s.ctl.response with
  | some body => byte body.length :: body
  | none => [0]

/-- A response has been read whole: the buffers empty and REQ_FREE is set (R175). -/
def responseRead (s : State) : State :=
  { s with ctl := { s.ctl with response := none, request := none, reqFree := true } }

/-- READ_RESPONSE: `clocked` bytes are clocked after the code byte, zero beyond the response (R173, R175). -/
def execReadResponse (clocked : Nat) (s : State) : Outcome :=
  let t := clockOut (statusByte s :: (offered s ++ zeros clocked).take clocked) s
  if s.ctl.response.isSome && (offered s).length ≤ clocked then finish s (responseRead t) else finish s t

/-- An urgent request is accepted into the urgent slot (R176). -/
def acceptUrgent (body : List Byte) (s : State) : State :=
  { s with ctl := { s.ctl with urgent := some body, urgFree := false, discard := false } }

/-- The urgent request in the slot is taken, with its result; any other message type, or a length that does not fit, is
RANGE (R176). -/
def takeUrgent (body : List Byte) (s : State) : State × UrgentResult :=
  match decodeUrgent body with
  | some .allTalkOff => silenceRequest s
  | some (.tripGuard g) => tripRequest g s
  | _ => (s, .range)

/-- WRITE_URGENT: an accepted request is taken at once, in this step (R173, R176). Zero is clocked out as in a WRITE
REQUEST: DESIGN CHOICE for bytes that the length byte does not count (log 35). -/
def execWriteUrgent (clocked : List Byte) (s : State) : Outcome :=
  let t := clockOut (statusByte s :: zeros clocked.length) s
  match if s.ctl.urgFree then written 8 clocked else none with
  | some body => finish s (urgentDone (takeUrgent body (acceptUrgent body t)))
  | none => finish s (discardWrite t)

/-! ### Quiesce, timing, status and attention -/

/-- QUIESCE LINK by the link's state (R164). -/
def quiesceBlock (tag : Byte) (link : Nat) (s : State) : State × Answer :=
  match finOf 8 link with
  | some p =>
    match (s.link p).state with
    | .up => (startQuiesce p (some tag) s, .later)
    | .quiescing => (s.setLink p { s.link p with quiesceOwed := some tag }, .later)
    | .quiesced => (s, .now .ok [byte LinkState.quiesced.code])
    | .down => (s, .now .ok [byte LinkState.down.code])
  | none => refuseWith .range s

/-- QUIESCE_LINK (R162, R164). -/
def execQuiesceLink (o : Origin) (tag : Byte) (link : Nat) (s : State) : Outcome :=
  serve .quiesceLink o tag true (quiesceBlock tag link) s

/-- Timing values in range (R179; the same ranges hold at the load, R188). -/
def timing? (rate threshold limit timeout : Nat) : Option Timing :=
  match rateOf? rate with
  | some r =>
    if 100 ≤ threshold && threshold ≤ 1000 && limit ≤ 120 && 100 ≤ timeout && timeout ≤ 2000 then
      some ⟨r, threshold, limit, timeout⟩
    else none
  | none => none

/-- SET TIMING (R179). -/
def setTimingBlock (rate threshold limit timeout : Nat) (s : State) : State × Answer :=
  match timing? rate threshold limit timeout with
  | some t => okWith { s with timing := t }
  | none => refuseWith .range s

/-- SET_TIMING (R179). -/
def execSetTiming (o : Origin) (tag : Byte) (rate threshold limit timeout : Nat) (s : State) : Outcome :=
  serve .setTiming o tag (codesOk (.setTiming o tag rate threshold limit timeout))
    (setTimingBlock rate threshold limit timeout) s

/-- READ STATUS (R178). -/
def readStatusBlock (s : State) : State × Answer := replyWith (statusReply s) s

/-- READ_STATUS (R178). -/
def execReadStatus (o : Origin) (tag : Byte) (s : State) : Outcome := serve .readStatus o tag true readStatusBlock s

/-- The attention set emptied (R177). -/
def emptyAttention (s : State) : State := { s with ctl := { s.ctl with attention := tabOf fun _ => false } }

/-- READ ATTENTION (R177). -/
def readAttentionBlock (s : State) : State × Answer :=
  (emptyAttention s, .now .ok (two (bitmap s.ctl.attention)))

/-- READ_ATTENTION (R177). -/
def execReadAttention (o : Origin) (tag : Byte) (s : State) : Outcome :=
  serve .readAttention o tag true readAttentionBlock s

/-- SET ATTENTION MASK: bits above the nine causes are not read (R177, log 18). -/
def setMaskBlock (mask : Nat) (s : State) : State × Answer :=
  okWith { s with ctl := { s.ctl with mask := bitsOf 9 mask } }

/-- SET_ATTENTION_MASK (R177). -/
def execSetAttentionMask (o : Origin) (tag : Byte) (mask : Nat) (s : State) : Outcome :=
  serve .setAttentionMask o tag true (setMaskBlock mask) s

end Sys2Proof.Machine
end

