-- ==== Sys2Proof/Machine/StoreAccess.lean ====
section
/-! DEFINITION. The store permission, grant and raw access requests (R184 to R186). -/

namespace Sys2Proof.Machine

/-- Write permission on or off (R184). -/
def permitBlock (on : Bool) (s : State) : State × Answer := okWith { s with store := { s.store with permit := on } }

/-- STORE_ENABLE (R184). -/
def execStoreEnable (o : Origin) (tag : Byte) (s : State) : Outcome :=
  serve .storeEnable o tag true (permitBlock true) s

/-- STORE_DISABLE (R184). -/
def execStoreDisable (o : Origin) (tag : Byte) (s : State) : Outcome :=
  serve .storeDisable o tag true (permitBlock false) s

/-- STORE GRANT by engine state; while LOADING the link has refused it (R185). -/
def grantBlock (tag : Byte) (s : State) : State × Answer :=
  match s.store.engine with
  | .idle => okWith (s.setEngine (.granted none))
  | .busy job _ => (s.setEngine (.busy job (some tag)), .later)
  | .granted _ => okWith s
  | .loading => refuseWith .notReady s

/-- STORE_GRANT (R185). -/
def execStoreGrant (o : Origin) (tag : Byte) (s : State) : Outcome :=
  serve .storeGrant o tag true (grantBlock tag) s

/-- STORE RELEASE: a held grant ends and the oldest queued operation starts (R185). A raw write cannot be in progress,
since it occupies the request buffer (R175); one that is ends its sequence (log 22). -/
def releaseBlock (s : State) : State × Answer :=
  match s.store.engine with
  | .granted none => okWith (startOps s.store.queue (openPort s))
  | .granted (some _) => okWith (startOps s.store.queue (closeSequence (openPort s)))
  | .idle => okWith s
  | .busy _ _ => okWith s
  | .loading => okWith s

/-- STORE_RELEASE (R185). -/
def execStoreRelease (o : Origin) (tag : Byte) (s : State) : Outcome :=
  serve .storeRelease o tag true releaseBlock s

/-- A run of words starts and ends inside the memory (R186, check 1). -/
def runFits (start count : Nat) : Bool := start + count ≤ Config.storeWords

/-- The words of a run. -/
def readWords (m : Memory) (start count : Nat) : List Word := (List.range count).map fun i => memRead m (start + i)

/-- Words as bytes, high byte first (R190). -/
def wordBytes (ws : List Word) : List Byte := ws.flatMap fun w => two w.toNat

/-- RAW READ: the checks of R186, then the words. -/
def rawReadBlock (start count : Nat) (s : State) : State × Answer :=
  if !(1 ≤ count && count ≤ 32) || !runFits start count then refuseWith .range s
  else if !grantHeld s then refuseWith .notPermitted s
  else
    (sendPort [.read start count] (openPort s),
      .now .ok (byte count :: wordBytes (readWords s.store.mem start count)))

/-- RAW_READ (R186). -/
def execRawRead (o : Origin) (tag : Byte) (start count : Nat) (s : State) : Outcome :=
  serve .rawRead o tag true (rawReadBlock start count) s

/-- The words of a raw write with their addresses, ascending (R186). -/
def wordRun : Nat → List Word → List (Nat × Word)
  | _, [] => []
  | a, w :: rest => (a, w) :: wordRun (a + 1) rest

/-- RAW WRITE: the checks of R186, then its write sequence begins (R181). -/
def rawWriteBlock (tag : Byte) (start : Nat) (words : List Word) (s : State) : State × Answer :=
  match wordRun start words with
  | [] => refuseWith .range s
  | first :: rest =>
    if 16 < words.length || !runFits start words.length then refuseWith .range s
    else if !grantHeld s then refuseWith .notPermitted s
    else if !s.store.permit then refuseWith .storeLocked s
    else
      (sendPort [.writeEnable, .writeWord first.1 first.2]
        (((openPort s).setEngine (.granted (some ⟨tag, first, rest⟩))).setLatch true), .later)

/-- RAW_WRITE (R186). -/
def execRawWrite (o : Origin) (tag : Byte) (start : Nat) (words : List Word) (s : State) : Outcome :=
  serve .rawWrite o tag true (rawWriteBlock tag start words) s

end Sys2Proof.Machine
end

