-- ==== Sys2Proof/Machine/ConfigLoad.lean ====
section
/-! DEFINITION. The configuration record of the store memory: its words, its tests and what it puts in force (R188,
R189, R196, R197). -/

namespace Sys2Proof.Machine

/-- A judged configuration. A line with no output form is IN. -/
structure Loaded where
  defs : Tab DestDef 48
  mapped : Tab (Option Src) 32
  mics : Tab (Option Src) 8
  parties : Tab (Option Chn) 32
  keys : Tab (Option KeyDef) 128
  guards : Tab GuardDef 4
  lines : Tab (Option (OutMode × Bool)) 16
  switcher : Option Pnl
  programSource : Option Src
  timing : Timing
  deriving DecidableEq, Repr

/-- The factory defaults (R188). -/
def Loaded.factory : Loaded :=
  ⟨tabOf DestDef.factory, tabOf fun _ => none, tabOf fun _ => none, tabOf fun _ => none, tabOf fun _ => none,
    tabOf fun _ => GuardDef.factory, tabOf fun _ => none, none, none, Timing.factory⟩

/-! ### One word (R196, R197) -/

/-- Bits `lo` to `lo + width - 1` of a word. -/
def field (w lo width : Nat) : Nat := w / 2 ^ lo % 2 ^ width

/-- A destination word; 31 stands for no switcher index. -/
def destWord? (w : Nat) : Option DestDef :=
  let index : Option (Option (Fin 24)) := if field w 8 5 = 31 then some none else (finOf 24 (field w 8 5)).map some
  match index.bind (DestClass.of? (field w 13 3)), finOf 64 (field w 0 8) with
  | some c, some x => some ⟨c, x⟩
  | _, _ => none

/-- A channel, station or party word: bit 15 set with a number, or 0x0000. -/
def optWord? (n w : Nat) : Option (Option (Fin n)) :=
  if w = 0 then some none else if field w 15 1 = 1 then (finOf n (field w 0 15)).map some else none

/-- A key word; the IFB target with a call flag is the cross-check of the same load. -/
def keyWord? (w : Nat) : Option (Option KeyDef) :=
  if w = 0 then some none
  else if field w 15 1 = 1 && field w 6 5 = 0 && !(field w 12 1 = 1 && field w 11 1 = 1) then
    match KeyMode.ofCode? (field w 13 2), keyTarget? (field w 12 1) (field w 0 6) (field w 11 1) with
    | some m, some t => some (some ⟨m, t⟩)
    | _, _ => none
  else none

/-- A pair word of a guard. -/
def pairWord? (w : Nat) : Option (Dst × Src) := if field w 14 2 = 0 then pairOf (field w 8 6, field w 0 8) else none

/-- The twelve words of a guard, read by `word`; pair words beyond the count are not read. -/
def guardWords? (word : Nat → Nat) : Option GuardDef :=
  let h := word 0
  match finOf 16 (field h 12 4), allOf pairWord? ((List.range (field h 0 4)).map fun i => word (2 + i)) with
  | some l, some ps =>
    if field h 4 5 = 0 && field h 0 4 ≤ 8 && 1 ≤ word 1 && word 1 ≤ 1000 then
      some ⟨l, field h 11 1 = 1, word 1, field h 10 1 = 1, ps,
        tabOf fun i : Lid => if (word 10).testBit i.1 then some ((word 11).testBit i.1) else none, field h 9 1 = 1⟩
    else none
  | _, _ => none

/-- An output mode with its target in a line word. -/
def storedMode? (mode target : Nat) : Option OutMode :=
  match mode with
  | 0 => if target = 0 then some .manual else none
  | 1 => (finOf 64 target).map .tally
  | 2 => (finOf 32 target).map .talk
  | _ => none

/-- A line word: 0x0000 for IN. -/
def lineWord? (w : Nat) : Option (Option (OutMode × Bool)) :=
  if w = 0 then some none
  else if field w 15 1 = 1 && field w 6 6 = 0 then
    (storedMode? (field w 13 2) (field w 0 6)).map fun m => some (m, field w 12 1 = 1)
  else none

/-- A word that holds a number below `n`, or 0xFFFF for none. -/
def wholeWord? (n w : Nat) : Option (Option (Fin n)) := if w = 65535 then some none else (finOf n w).map some

/-! ### The whole record (R188) -/

/-- A table whose every entry passes. -/
def tabAll {α : Type} {n : Nat} (f : Fin n → Option α) : Option (Tab α n) :=
  if h : ∀ i, (f i).isSome = true then some (tabOf fun i => (f i).get (h i)) else none

/-- Every field in range. -/
def readConfig (word : Nat → Nat) : Option Loaded :=
  match tabAll fun d : Dst => destWord? (word (2 + d.1)),
    tabAll fun c : Chn => optWord? 64 (word (50 + c.1)),
    tabAll fun p : Pnl => optWord? 64 (word (82 + p.1)),
    tabAll fun y : Pty => optWord? 32 (word (90 + y.1)),
    tabAll fun k : KeyId => keyWord? (word (122 + k.1)),
    tabAll fun g : Gid => guardWords? fun i => word (250 + 12 * g.1 + i),
    tabAll fun l : Lid => lineWord? (word (298 + l.1)),
    wholeWord? 8 (word 314), wholeWord? 64 (word 315), timing? (word 316) (word 317) (word 318) (word 319) with
  | some ds, some ms, some st, some ps, some ks, some gs, some ls, some sw, some x, some t =>
    some ⟨ds, ms, st, ps, ks, gs, ls, sw, x, t⟩
  | _, _, _, _, _, _, _, _, _, _ => none

/-- No switcher input index stands on two destinations. -/
def inputsDistinct (c : Loaded) : Bool :=
  (fins 48).all fun d =>
    match (c.defs.at d).cls.input with
    | none => true
    | some w => (fins 48).all fun e => e = d || (c.defs.at e).cls.input != some w

/-- No destination stands twice in the fallback lists, and none of them has class IFB. -/
def fallbacksGood (c : Loaded) : Bool :=
  distinct ((fins 4).flatMap fun g => (c.guards.at g).fallback.map Prod.fst)
    && (fins 4).all fun g => (c.guards.at g).fallback.all fun p => (c.defs.at p.1).cls != .ifb

/-- No line is forced to opposite values. -/
def actionsAgree (c : Loaded) : Bool :=
  (fins 4).all fun g => (fins 4).all fun h => (fins 16).all fun l =>
    match (c.guards.at g).action.at l, (c.guards.at h).action.at l with
    | some v, some w => v = w
    | _, _ => true

/-- A guard's lines have their directions, and a guard armed at start has a fallback list. -/
def guardLinesGood (c : Loaded) (f : GuardDef) : Bool :=
  (!f.armedAtStart || ((c.lines.at f.line).isNone && !f.fallback.isEmpty))
    && (fins 16).all fun l => (f.action.at l).isNone || (c.lines.at l).isSome

/-- An assigned IFB key has an IFB target and a station with a mic source. -/
def keyGood (c : Loaded) (k : KeyId) : Bool :=
  match c.keys.at k with
  | some ⟨_, .ifb d⟩ => (c.defs.at d).cls = .ifb && (c.mics.at (stationOf k)).isSome
  | _ => true

/-- The cross-checks. -/
def crossChecks (c : Loaded) : Bool :=
  inputsDistinct c && fallbacksGood c && actionsAgree c && ((fins 4).all fun g => guardLinesGood c (c.guards.at g))
    && (fins 128).all (keyGood c)

/-- The configuration the words hold, if they pass every test: signature and version, sum, ranges, cross-checks. -/
def judge (word : Nat → Nat) : Option Loaded :=
  if word 0 = 0x574E && word 1 = 1 && ((List.range 321).map word).sum % 65536 = 0 then
    match readConfig word with
    | some c => if crossChecks c then some c else none
    | none => none
  else none

/-- The configuration the store memory holds, if it is good. -/
def storedConfig (m : Memory) : Option Loaded := judge fun a => (memRead m a).toNat

/-! ### What takes effect (R189) -/

/-- A line as the configuration makes it: IN keeps the sample it holds (R144, R152). -/
def loadedLine (x : Line) (f : Option (OutMode × Bool)) : Line :=
  match f, x with
  | none, .input sample => .input sample
  | none, .output _ _ driven => .input driven
  | some (mode, latch), _ => .output mode latch false

/-- The configuration in force: definitions, current sources, dirty set, timing. With the reference monitor OK the frame
period that is running ends at its 50 frames/s length, and the loaded rate times the next: DESIGN CHOICE (log 32); with
it LOST the frame timer starts at the loaded rate (R189). -/
def install (c : Loaded) (s : State) : State :=
  { s with
    timing := c.timing
    defs := c.defs
    routes := tabOf fun d => { s.entry d with current := (c.defs.at d).home }
    take := { s.take with
      dirty := tabOf fun _ => true
      frameTimer := match s.take.reference with
        | .ok => s.take.frameTimer
        | .lost => Config.nominalPeriod c.timing.rate }
    tally := { s.tally with
      switcher := c.switcher
      programSource := c.programSource
      channels := tabOf fun i => { s.channel i with mapped := c.mapped.at i } }
    talk := { s.talk with
      mics := c.mics
      parties := c.parties
      keys := tabOf fun k => { s.key k with defn := c.keys.at k } }
    guards := tabOf fun g => { s.guard g with defn := c.guards.at g }
    lines := { s.lines with recs := tabOf fun l => loadedLine (s.line l) (c.lines.at l) } }

/-- Guards with the armed-at-start flag are armed as by ARM GUARD (R141). -/
def armAtStart (s : State) : State :=
  (fins 4).foldl (fun t g => if (t.guard g).defn.armedAtStart then (armBlock g.1 t).1 else t) s

/-- The engine enters IDLE and READY is set (R189). -/
def enterReady (s : State) : State :=
  { s with
    store := { s.store with engine := .idle, queue := [], permit := false }
    ctl := { s.ctl with ready := true } }

/-- The end of the load (R188, R189). -/
def endLoad (s : State) : State :=
  match storedConfig s.store.mem with
  | some c => enterReady (armAtStart (refresh (install c s)))
  | none => enterReady (armAtStart (refresh (raise .configDefaulted (install Loaded.factory s))))

end Sys2Proof.Machine
end

