-- ==== Sys2Proof/Machine/StartUp.lean ====
section
/-! DEFINITION. The starts: POWER, LINE, the end of the load, and RESTART (R180, R187 to R189). -/

namespace Sys2Proof.Machine

/-- The store memory as a start finds it: a word write that the memory had taken is completed or lost, a free value
(R187, log 9). -/
def memAfterCut (s : State) : Memory :=
  match s.store.engine.inFlight with
  | some w => if Config.cutWriteLands s.free then memWrite s.store.mem w.1 w.2 else s.store.mem
  | none => s.store.mem

/-- Count the free value that a cut word write uses. -/
def freeAfterCut (s : State) : Nat := if s.store.engine.inFlight.isSome then s.free + 1 else s.free

/-- A POWER or LINE start: nothing is kept but the store memory and the levels outside (R188). -/
def startUp (cause : StartCause) (s : State) : State :=
  State.start cause (memAfterCut s) s.lines.pins (freeAfterCut s) s.pending

/-- POWER_ON (R188). -/
def execPowerOn (s : State) : Outcome := .next (startUp .power s)

/-- LINE_RESET (R188). -/
def execLineReset (s : State) : Outcome := .next (startUp .line s)

/-- LOAD_COMPLETE (R188, R189); outside LOADING no load can complete (log 3). -/
def execLoadComplete (s : State) : Outcome :=
  match s.store.engine with
  | .loading => finish s (endLoad s)
  | .idle => finish s s
  | .busy _ _ => finish s s
  | .granted _ => finish s s

/-! ### RESTART (R180) -/

/-- Staged changes of guards are kept, those of requesters are discarded (R24). -/
def keptStaged (x : Option Staged) : Option Staged :=
  match x with
  | some (.guarded y g) => some (.guarded y g)
  | _ => none

/-- A confirmation timer that runs starts afresh (R61). -/
def freshConfirmation (wait : Nat) (x : Option Confirmation) : Option Confirmation :=
  match x with
  | some (.awaiting _) => some (.awaiting wait)
  | y => y

/-- A route entry after RESTART (R24, R61, R123). -/
def restartEntry (wait : Nat) (e : Entry) : Entry :=
  { e with
    staged := keptStaged e.staged
    interrupters := []
    confirmation := freshConfirmation wait e.confirmation }

/-- Routes, salvos and takes after RESTART (R24, R33, R61). -/
def restartRoutes (s : State) : State :=
  { s with
    routes := tabOf fun d => restartEntry (twoFrames s) (s.entry d)
    salvos := []
    take := { s.take with dirty := tabOf fun d => s.take.dirty.at d || !(s.entry d).interrupters.isEmpty } }

/-- Keys, crosspoints and calls after RESTART (R85, R110). -/
def restartTalk (s : State) : State :=
  { s with
    talk := { s.talk with
      keys := tabOf fun k => { s.key k with state := .idle }
      holds := tabOf fun _ => tabOf fun _ => 0
      closed := tabOf fun _ => tabOf fun _ => false
      sendList := []
      talkWord := allOpen }
    tally := { s.tally with
      fresh := s.tally.switcher.isNone && s.tally.fresh
      channels := tabOf fun c => { s.channel c with calls := 0 } } }

/-- Guards after RESTART are read against their lines afresh (R142). -/
def restartGuards (s : State) : State := { s with guards := tabOf fun g => reevaluate s (s.guard g) }

/-- The links and the control link after RESTART (R172, R180). -/
def restartLinks (s : State) : State :=
  { s with
    links := tabOf fun p => (s.link p).cleared
    ctl := { s.ctl with
      request := none
      reqFree := false
      response := none
      urgent := none
      urgFree := true
      discard := false
      attention := tabOf fun _ => false
      startCause := .restart
      preserved := true } }

/-- The store engine at RESTART: a word write finishes, any other work ends, permission is off and the queue empty
(R187). The engine stands BUSY while the word finishes (log 21). -/
def restartStore (tag : Byte) (s : State) : State :=
  { s with store := { s.store with
      engine := match s.store.engine.inFlight with
        | some w => .busy (.drain w tag) none
        | none => .idle
      queue := []
      permit := false } }

/-- RESTART: every block's values in one step; the response comes when the engine is IDLE (R180, R187). -/
def restartBlock (tag : Byte) (s : State) : State × Answer :=
  (restartStore tag (refresh (restartLinks (restartGuards (restartTalk (restartRoutes s))))),
    if s.store.engine.inFlight.isSome then .later else .now .ok [])

/-- RESTART (R180). -/
def execRestart (o : Origin) (tag : Byte) (s : State) : Outcome := serve .restart o tag true (restartBlock tag) s

end Sys2Proof.Machine
end

