-- ==== Sys2Proof/Machine/Dispatch.lean ====
section
/-! DEFINITION. The meaning of every command, one arm each. -/

namespace Sys2Proof.Machine

/-- The effect of a command on everything but the queue. -/
def exec (i : Instr) (s : State) : Host.Outcome State Fault Refusal :=
  match i with
  | .powerOn => Sys2Proof.Machine.execPowerOn s
  | .lineReset => Sys2Proof.Machine.execLineReset s
  | .loadComplete => Sys2Proof.Machine.execLoadComplete s
  | .status code extra => Sys2Proof.Machine.execStatus code extra s
  | .writeRequest clocked => Sys2Proof.Machine.execWriteRequest clocked s
  | .readResponse clocked => Sys2Proof.Machine.execReadResponse clocked s
  | .writeUrgent clocked => Sys2Proof.Machine.execWriteUrgent clocked s
  | .frameReceived p bytes => Sys2Proof.Machine.execFrameReceived p bytes s
  | .interByteTimeout p => Sys2Proof.Machine.execInterByteTimeout p s
  | .frameSent p => Sys2Proof.Machine.execFrameSent p s
  | .hello o tag => Sys2Proof.Machine.execHello o tag s
  | .bye o tag => Sys2Proof.Machine.execBye o tag s
  | .ping o tag => Sys2Proof.Machine.execPing o tag s
  | .subscribe o tag classes => Sys2Proof.Machine.execSubscribe o tag classes s
  | .hold o tag time => Sys2Proof.Machine.execHold o tag time s
  | .resume o tag => Sys2Proof.Machine.execResume o tag s
  | .holdTimerExpiry p => Sys2Proof.Machine.execHoldTimerExpiry p s
  | .supervisionExpiry p => Sys2Proof.Machine.execSupervisionExpiry p s
  | .route o tag d source => Sys2Proof.Machine.execRoute o tag d source s
  | .lock o tag d => Sys2Proof.Machine.execLock o tag d s
  | .protect o tag d => Sys2Proof.Machine.execProtect o tag d s
  | .unlock o tag d => Sys2Proof.Machine.execUnlock o tag d s
  | .forceUnlock o tag d => Sys2Proof.Machine.execForceUnlock o tag d s
  | .defineDestination o tag d cls index home => Sys2Proof.Machine.execDefineDestination o tag d cls index home s
  | .queryRoute o tag d => Sys2Proof.Machine.execQueryRoute o tag d s
  | .salvo o tag pairs => Sys2Proof.Machine.execSalvo o tag pairs s
  | .cancelSalvo o tag salvoTag => Sys2Proof.Machine.execCancelSalvo o tag salvoTag s
  | .querySalvos o tag index => Sys2Proof.Machine.execQuerySalvos o tag index s
  | .savePreset o tag preset dests => Sys2Proof.Machine.execSavePreset o tag preset dests s
  | .clearPreset o tag preset => Sys2Proof.Machine.execClearPreset o tag preset s
  | .recallPreset o tag preset => Sys2Proof.Machine.execRecallPreset o tag preset s
  | .storeWordReady => Sys2Proof.Machine.execStoreWordReady s
  | .recallReadComplete => Sys2Proof.Machine.execRecallReadComplete s
  | .referencePulse => Sys2Proof.Machine.execReferencePulse s
  | .internalFrameTimerExpiry => Sys2Proof.Machine.execInternalFrameTimerExpiry s
  | .commandWord => Sys2Proof.Machine.execCommandWord s
  | .burstAbandon => Sys2Proof.Machine.execBurstAbandon s
  | .feedReport w => Sys2Proof.Machine.execFeedReport w s
  | .confirmationTimerExpiry d => Sys2Proof.Machine.execConfirmationTimerExpiry d s
  | .matrixRefresh o tag => Sys2Proof.Machine.execMatrixRefresh o tag s
  | .flashTimerExpiry => Sys2Proof.Machine.execFlashTimerExpiry s
  | .busTally o tag program preview => Sys2Proof.Machine.execBusTally o tag program preview s
  | .setSwitcher o tag link source => Sys2Proof.Machine.execSetSwitcher o tag link source s
  | .clearSwitcherTally o tag => Sys2Proof.Machine.execClearSwitcherTally o tag s
  | .defineTallyChannel o tag channel source => Sys2Proof.Machine.execDefineTallyChannel o tag channel source s
  | .queryTally o tag kind number => Sys2Proof.Machine.execQueryTally o tag kind number s
  | .defineStation o tag station mic => Sys2Proof.Machine.execDefineStation o tag station mic s
  | .defineParty o tag party channel => Sys2Proof.Machine.execDefineParty o tag party channel s
  | .defineKey o tag key assigned mode kind target call => Sys2Proof.Machine.execDefineKey o tag key assigned mode kind target call s
  | .keyDown o tag key => Sys2Proof.Machine.execKeyDown o tag key s
  | .keyUp o tag key => Sys2Proof.Machine.execKeyUp o tag key s
  | .thresholdExpiry k => Sys2Proof.Machine.execThresholdExpiry k s
  | .latchLimitExpiry k => Sys2Proof.Machine.execLatchLimitExpiry k s
  | .talkPortSend => Sys2Proof.Machine.execTalkPortSend s
  | .allTalkOff => Sys2Proof.Machine.execAllTalkOff s
  | .queryKey o tag kind number => Sys2Proof.Machine.execQueryKey o tag kind number s
  | .armGuard o tag g => Sys2Proof.Machine.execArmGuard o tag g s
  | .disarmGuard o tag g => Sys2Proof.Machine.execDisarmGuard o tag g s
  | .debounceExpiry g => Sys2Proof.Machine.execDebounceExpiry g s
  | .tripGuard g => Sys2Proof.Machine.execTripGuard g s
  | .recoveryExpiry g => Sys2Proof.Machine.execRecoveryExpiry g s
  | .restoreGuard o tag g => Sys2Proof.Machine.execRestoreGuard o tag g s
  | .defineGuard o tag g line level debounce mode armed pairs actionSet actionValues => Sys2Proof.Machine.execDefineGuard o tag g line level debounce mode armed pairs actionSet actionValues s
  | .queryGuard o tag g => Sys2Proof.Machine.execQueryGuard o tag g s
  | .inputSampleChange l high => Sys2Proof.Machine.execInputSampleChange l high s
  | .lineSet o tag lines values => Sys2Proof.Machine.execLineSet o tag lines values s
  | .defineLine o tag line direction mode target latch => Sys2Proof.Machine.execDefineLine o tag line direction mode target latch s
  | .queryLine o tag line => Sys2Proof.Machine.execQueryLine o tag line s
  | .quiesceLink o tag link => Sys2Proof.Machine.execQuiesceLink o tag link s
  | .setTiming o tag rate threshold limit timeout => Sys2Proof.Machine.execSetTiming o tag rate threshold limit timeout s
  | .readStatus o tag => Sys2Proof.Machine.execReadStatus o tag s
  | .readAttention o tag => Sys2Proof.Machine.execReadAttention o tag s
  | .setAttentionMask o tag mask => Sys2Proof.Machine.execSetAttentionMask o tag mask s
  | .restart o tag => Sys2Proof.Machine.execRestart o tag s
  | .storeEnable o tag => Sys2Proof.Machine.execStoreEnable o tag s
  | .storeDisable o tag => Sys2Proof.Machine.execStoreDisable o tag s
  | .storeGrant o tag => Sys2Proof.Machine.execStoreGrant o tag s
  | .storeRelease o tag => Sys2Proof.Machine.execStoreRelease o tag s
  | .rawRead o tag start count => Sys2Proof.Machine.execRawRead o tag start count s
  | .rawWrite o tag start words => Sys2Proof.Machine.execRawWrite o tag start words s

end Sys2Proof.Machine
end

