-- ==== Sys2Proof/Machine/Step.lean ====
section
/-! DEFINITION. One step of the block: the command at the front of the queue, or what happens with none waiting. -/

namespace Sys2Proof.Machine

/-- With an empty queue the request decoder takes a request that waits in a buffer, in a fixed order; with none, 1 µs
passes: DESIGN CHOICE (log 2). -/
def idleStep (s : State) : Host.Outcome State Fault Refusal :=
  match waitingRequest s with
  | some c => exec c s
  | none => .next (tick s)

/-- Take the command at the front of the queue, and leave the rest in it. -/
def step (s : State) : Host.Outcome State Fault Refusal :=
  match s.pending with
  | c :: rest => exec c { s with pending := rest }
  | [] => idleStep s

/-- The command a table word spells put at the front of the queue; the table gives no word, so the state is unchanged. -/
def State.withFetchWord (s : State) (nbits w : Nat) : State :=
  match decodeTableWord nbits w with
  | some c => { s with pending := c :: s.pending }
  | none => s

end Sys2Proof.Machine
end

