-- ==== Sys2Proof/Safety.lean ====
section
/-! DEFINITION. The words the claims are stated in: what a link has still to send, what a command does to the links
beside its effect, which requests a link lets through, and the laws every step keeps. -/

namespace Sys2Proof.Machine

/-! ### What a link has still to send (R165) -/

/-- The BUSY frame for a refused frame's type and tag (R190); it answers no held buffer. -/
def busyFrame (b : Byte × Byte) : Sending := ⟨frame (replyBody b.1 b.2 .busy []), false⟩

/-- The frame an item of the reply queue becomes. -/
def Item.sending (i : Item) : Sending := ⟨frame i.body, i.freesHeld⟩

/-- The frames a link is sending or owes, in the order they leave, each with whether its end frees the held buffer: the
one being sent, the waiting BUSY, the replies and outcomes. Notices are built only as they leave. -/
def Link.outbox (l : Link) : List Sending :=
  l.sending.toList ++ l.busy.toList.map busyFrame ++ l.replies.map Item.sending

/-- The place of a record in the order in which one step marks records: route entries, tally channels, keys, each
ascending (R168). -/
def Ref.rank : Ref → Nat
  | .route d => d.1
  | .tally c => 48 + c.1
  | .key i => 80 + i.1

/-- A record's notice-visible part differs between two states; a key is named by its number on panel `p` (R22, R82,
R108). -/
def VisiblyChanged (s t : State) (p : Pnl) : Ref → Prop
  | .route d => routeView s d ≠ routeView t d
  | .tally c => lampView s c ≠ lampView t c
  | .key i => (s.key (keyOf p i)).state.code ≠ (t.key (keyOf p i)).state.code

/-- Link `p` from the command's effect `u`, taken in `s`, to the state `t` it ends in: the frames in `placed` are owed
after those owed before; the records that the command has visibly changed and the link covers are marked at the end of
its change set, each that was not in it, in the order of their ranks, and no other is (R168); with nothing owed and none
placed the idle transmitter of a link in session with no hold in force may have begun a notice, of the oldest reference
and as its record stands in `t` (R165, R170); nothing else has changed, but that a held frame waits no longer once a frame
that answers it is placed (R156). -/
structure LinkAfter (s u t : State) (p : Pnl) (placed : List Sending) : Prop where
  state : (t.link p).state = (u.link p).state
  assembling : (t.link p).assembling = (u.link p).assembling
  held : (t.link p).held = if placed.any Sending.freesHeld
    then (u.link p).held.map fun h => { h with waiting := false } else (u.link p).held
  supervision : (t.link p).supervision = (u.link p).supervision
  subs : (t.link p).subs = (u.link p).subs
  hold : (t.link p).hold = (u.link p).hold
  quiesceOwed : (t.link p).quiesceOwed = (u.link p).quiesceOwed
  sent : ∃ marked : List Ref,
    ((marked.map Ref.rank).Pairwise (· < ·) ∧
      ∀ r, r ∈ marked ↔ ((u.link p).state.session = true ∧ (u.link p).subs.covers r = true ∧
        r ∉ (u.link p).changes ∧ VisiblyChanged s t p r)) ∧
    (((t.link p).changes = (u.link p).changes ++ marked ∧ (t.link p).outbox = (u.link p).outbox ++ placed) ∨
    ((u.link p).outbox = [] ∧ placed = [] ∧ (u.link p).state.session = true ∧ (u.link p).hold = none ∧
      ∃ r, r :: (t.link p).changes = (u.link p).changes ++ marked ∧
      (t.link p).outbox = [⟨frame (noticeBody t p r), false⟩]))

/-- A command taken in `s` whose effect is `u` and which places frames on links: `t` is `u` but for those frames, and the
marks and notices on the links. -/
def QuietWith (s u t : State) (placed : Pnl → List Sending) : Prop :=
  t = { u with links := t.links } ∧ ∀ q, LinkAfter s u t q (placed q)

/-- A command taken in `s` whose effect is `u`, with nothing placed for any link. -/
def Quiet (s u t : State) : Prop := QuietWith s u t fun _ => []

/-- One frame for link `p` alone. -/
def onLink (p : Pnl) (x : Sending) (q : Pnl) : List Sending := if q = p then [x] else []

/-- The request buffer from `u` to `t` as a control-link request of this type and tag is taken: the request of that type
and tag that stands in it, if one does, waits for its block no longer, and any other stands as it did (R174, log 1). -/
def RequestTaken (u t : State) (typ tag : Byte) : Prop :=
  (∀ ps waiting, u.ctl.request = some ⟨typ :: tag :: ps, waiting⟩ → t.ctl.request = some ⟨typ :: tag :: ps, false⟩) ∧
    ((∀ ps waiting, u.ctl.request ≠ some ⟨typ :: tag :: ps, waiting⟩) → t.ctl.request = u.ctl.request)

/-- A request taken in `s` whose effect is `u`, answered: `t` is `u` with the reply owed on its panel's link, or the
response in the response buffer with REQ_FREE clear, and the marks and notices on the links. The end of the reply frees
the held buffer exactly when that holds a request of this type and tag that waits for its block (R156). -/
def Replied (s u t : State) (o : Origin) (typ tag : Byte) (code : Result) (params : List Byte) : Prop :=
  match o with
  | .panel p => ∃ frees : Bool, (frees = true ↔ ∃ ps, (u.link p).held = some ⟨typ :: tag :: ps, true⟩) ∧
      QuietWith s u t (onLink p ⟨frame (replyBody typ tag code params), frees⟩)
  | .ctl =>
    t = { u with
      links := t.links
      ctl := { u.ctl with
        response := some (replyBody typ tag code params), reqFree := false, request := t.ctl.request } } ∧
      RequestTaken u t typ tag ∧ ∀ q, LinkAfter s u t q []

/-- A control-link request of this type and tag taken in `s` whose effect is `u` and whose response comes later: REQ_FREE
is clear, and the request waits for its block no longer. -/
def Owed (s u t : State) (typ tag : Byte) : Prop :=
  t = { u with links := t.links, ctl := { u.ctl with reqFree := false, request := t.ctl.request } } ∧
    RequestTaken u t typ tag ∧ ∀ q, LinkAfter s u t q []

/-- The command, taken in `s`, ends in a next state whose effect is `u`. -/
def Becomes (c : Instr) (s u : State) : Prop := ∃ t, exec c s = .next t ∧ Quiet s u t

/-- The request, taken in `s`, ends in a next state whose effect is `u`, answered with `code` and `params`. -/
def Answers (c : Instr) (s u : State) (o : Origin) (k : ReqKind) (tag : Byte) (code : Result)
    (params : List Byte) : Prop :=
  ∃ t, exec c s = .next t ∧ Replied s u t o k.code tag code params

/-- The request, taken in `s`, ends in a next state whose effect is `u`, with its response owed. -/
def AnswersLater (c : Instr) (s u : State) (k : ReqKind) (tag : Byte) : Prop :=
  ∃ t, exec c s = .next t ∧ Owed s u t k.code tag

/-- A store request that passes its checks joins the store queue: a panel is answered ACCEPTED, the control link when the
operation finishes (R35, R37). -/
def JoinsStore (c : Instr) (s : State) (o : Origin) (k : ReqKind) (tag : Byte) (op : StoreOp) : Prop :=
  match o with
  | .panel _ => Answers c s (joinStore op s) o k tag .accepted []
  | .ctl => AnswersLater c s (joinStore op s) k tag

/-! ### Which requests a link lets through (R157, R159, R174) -/

/-- The request kind passes the checks of the link it comes from, its codes being in their tables. -/
def Admits (s : State) : Origin → ReqKind → Prop
  | .panel p, k =>
    k.controlOnly = false ∧ (k = .busTally → s.tally.switcher = some p) ∧
      ((s.link p).state = .up ∨ ((s.link p).state = .quiescing ∧ k.takenQuiescing = true))
  | .ctl, k => k.urgent = false ∧ k.panelOnly = false ∧ (s.ctl.ready = true ∨ k = .readStatus)

/-- A control-only request is refused NOT_PERMITTED from a panel in session and NOT_READY before READY, and changes
nothing then (R157, R174). -/
def OnlyFromControl (k : ReqKind) (c : Origin → Byte → Instr) : Prop :=
  (∀ s p tag, (s.link p).state.session = true → codesOk (c (.panel p) tag) = true →
    Answers (c (.panel p) tag) s s (.panel p) k tag .notPermitted []) ∧
  ∀ s tag, s.ctl.ready = false → codesOk (c .ctl tag) = true →
    Answers (c .ctl tag) s s .ctl k tag .notReady []

/-- A lock that refuses the requester: a LOCK of any owner, or a PROTECT of another owner (R6, R11, R25). -/
def LockedTo (e : Entry) (o : Origin) : Prop := ∃ l, e.lock = some l ∧ (l.kind = .lock ∨ l.owner ≠ o)

/-! ### The stored configuration (R188, R196, R197) -/

/-- A channel, station or party word: bit 15 and the number, or 0x0000 for none. -/
def presentWord {n : Nat} (x : Option (Fin n)) : Nat := (x.map fun y => 32768 + y.1).getD 0

/-- A key word: bit 15 assigned, bits 14–13 mode, bit 12 target kind, bit 11 call flag, bits 5–0 target. -/
def storedKey : Option KeyDef → Nat
  | none => 0
  | some ⟨m, .party y call⟩ => 32768 + 8192 * m.code + 2048 * call.toNat + y.1
  | some ⟨m, .ifb d⟩ => 32768 + 8192 * m.code + 4096 + d.1

/-- A line word: bit 15 direction, bits 14–13 mode, bit 12 initial latch, bits 5–0 target. -/
def storedLine : Option (OutMode × Bool) → Nat
  | none => 0
  | some (m, latch) => 32768 + 8192 * m.code + 4096 * latch.toNat + m.targetNumber.getD 0

/-- A pair word: destination in bits 13–8, source in bits 5–0. -/
def storedPair (p : Dst × Src) : Nat := 256 * p.1.1 + p.2.1

/-- The header of a guard: monitor line, trip level, restore mode, armed-at-start flag, pair count. -/
def storedHeader (f : GuardDef) : Nat :=
  4096 * f.line.1 + 2048 * f.high.toNat + 1024 * f.auto.toNat + 512 * f.armedAtStart.toNat + f.fallback.length

/-- The words from `base` on are those of a guard's definition. Pair words beyond the count and action values of lines
outside the action set may hold anything (R197). -/
structure StoredGuard (word : Nat → Nat) (base : Nat) (f : GuardDef) : Prop where
  header : word base = storedHeader f
  debounce : word (base + 1) = f.debounce
  pairs : ∀ (i : Nat) (h : i < f.fallback.length), word (base + 2 + i) = storedPair f.fallback[i]
  set : ∀ l : Lid, (word (base + 10)).testBit l.1 = (f.action.at l).isSome
  values : ∀ l v, f.action.at l = some v → (word (base + 11)).testBit l.1 = v

/-- The words 0 to 320 hold the configuration by the table of 12.6. -/
structure StoredWords (word : Nat → Nat) (c : Loaded) : Prop where
  signature : word 0 = 0x574E
  version : word 1 = 1
  dests : ∀ d : Dst, word (2 + d.1) = 8192 * (c.defs.at d).cls.code +
    256 * (((c.defs.at d).cls.input.map Fin.val).getD 31) + (c.defs.at d).home.1
  channels : ∀ i : Chn, word (50 + i.1) = presentWord (c.mapped.at i)
  stations : ∀ p : Pnl, word (82 + p.1) = presentWord (c.mics.at p)
  parties : ∀ y : Pty, word (90 + y.1) = presentWord (c.parties.at y)
  keys : ∀ k : KeyId, word (122 + k.1) = storedKey (c.keys.at k)
  guards : ∀ g : Gid, StoredGuard word (250 + 12 * g.1) (c.guards.at g)
  lines : ∀ l : Lid, word (298 + l.1) = storedLine (c.lines.at l)
  switcher : word 314 = (c.switcher.map Fin.val).getD 65535
  programSource : word 315 = (c.programSource.map Fin.val).getD 65535
  rate : word 316 = match c.timing.rate with | .r25 => 0 | .r2997 => 1 | .r50 => 2 | .r5994 => 3
  threshold : word 317 = c.timing.threshold
  limit : word 318 = c.timing.limit
  linkTimeout : word 319 = c.timing.linkTimeout
  sum : ((List.range 321).map word).sum % 65536 = 0

/-- The ranges and the cross-checks that a configuration must pass (R188). -/
structure LawfulConfig (c : Loaded) : Prop where
  debounce : ∀ g, 1 ≤ (c.guards.at g).debounce ∧ (c.guards.at g).debounce ≤ 1000
  counts : ∀ g, (c.guards.at g).fallback.length ≤ 8
  threshold : 100 ≤ c.timing.threshold ∧ c.timing.threshold ≤ 1000
  limit : c.timing.limit ≤ 120
  linkTimeout : 100 ≤ c.timing.linkTimeout ∧ c.timing.linkTimeout ≤ 2000
  inputs : ∀ d e w, (c.defs.at d).cls = .swin w → (c.defs.at e).cls = .swin w → d = e
  fallbacks : ((fins 4).flatMap fun g => (c.guards.at g).fallback.map Prod.fst).Nodup
  fallbackClass : ∀ g, ∀ p ∈ (c.guards.at g).fallback, (c.defs.at p.1).cls ≠ .ifb
  actions : ∀ g h l v w, (c.guards.at g).action.at l = some v → (c.guards.at h).action.at l = some w → v = w
  monitors : ∀ g, (c.guards.at g).armedAtStart = true →
    c.lines.at (c.guards.at g).line = none ∧ (c.guards.at g).fallback ≠ []
  outLines : ∀ g l, ((c.guards.at g).action.at l).isSome = true → (c.lines.at l).isSome = true
  ifbKeys : ∀ k m d, c.keys.at k = some ⟨m, .ifb d⟩ →
    (c.defs.at d).cls = .ifb ∧ (c.mics.at (stationOf k)).isSome = true

/-! ### Laws -/

/-- The store memory is in its canonical form. -/
def MemoryCanonical (s : State) : Prop := Memory.wf s.store.mem = true

/-- No channel shows red and green together (R69). -/
def NeverRedAndGreen (s : State) : Prop := ∀ c, (s.channel c).red = .off ∨ (s.channel c).green = .off

/-- Every lamp and every driven line is what the rules compute from the present inputs (R73, R145). -/
def OutputsFollow (s : State) : Prop := recompute s = s ∧ driveLines s = s

/-- The queues and lists stay within their capacities (R26, R29, R37, R101, R111, R182). -/
def WithinCapacity (s : State) : Prop :=
  s.salvos.length ≤ 4 ∧ s.store.queue.length ≤ 4 ∧ (∀ d, (s.entry d).interrupters.length ≤ 8) ∧
    s.talk.sendList.Nodup

/-- The key talks to party `y`. -/
def Key.talksTo (x : Key) (y : Pty) : Bool :=
  x.state.talking && (match x.defn with | some ⟨_, .party y' _⟩ => y' = y | _ => false)

/-- Every hold count is the number of the station's talking keys that target the party, and the crosspoint is commanded
closed exactly while the count is above 0 (R100). -/
def HoldCountsExact (s : State) : Prop :=
  ∀ p y, s.holdCount p y = ((stationKeys p).filter fun k => (s.key k).talksTo y).length ∧
    (s.crosspoint p y = true ↔ 0 < s.holdCount p y)

/-- The key talks as a call key of a party whose call channel is `c`. -/
def callsChannel (s : State) (k : KeyId) (c : Chn) : Bool :=
  (s.key k).state.talking &&
    (match (s.key k).defn with | some ⟨_, .party y true⟩ => s.talk.parties.at y = some c | _ => false)

/-- Every call count is the number of talking call keys whose party has the channel as its call channel (R74). -/
def CallCountsExact (s : State) : Prop :=
  ∀ c, (s.channel c).calls = ((fins 128).filter fun k => callsChannel s k c).length

/-- Every interrupter list holds, once each, exactly the talking keys that target its destination (R111). -/
def InterruptersExact (s : State) : Prop :=
  ∀ d, (s.entry d).interrupters.Nodup ∧
    ∀ k, k ∈ (s.entry d).interrupters ↔ ((s.key k).targetsIfb d = true ∧ (s.key k).state.talking = true)

/-- Every assigned IFB key has a target of class IFB and a station with a mic source, and a key that is not assigned is
IDLE (R88, R90, R91). -/
def KeysWellDefined (s : State) : Prop :=
  ∀ k, (∀ d, (s.key k).targetsIfb d = true →
      (s.defs.at d).cls = .ifb ∧ (s.talk.mics.at (stationOf k)).isSome = true) ∧
    ((s.key k).defn = none → (s.key k).state = .idle)

/-- Until READY the store engine is LOADING, no link is in session, no key is pressed, no guard is armed and nothing is
staged, locked, held or queued (R189, R172, R109, R141, R23). -/
def QuietUntilReady (s : State) : Prop :=
  (s.ctl.ready = false ↔ s.store.engine = .loading) ∧
    (s.ctl.ready = false →
      (∀ p, (s.link p).state.session = false) ∧ (∀ k, (s.key k).state = .idle) ∧
        (∀ g, (s.guard g).state = .disabled) ∧ s.salvos = [] ∧ s.store.queue = [] ∧ s.take.burst = none ∧
        ∀ d, (s.entry d).staged = none ∧ (s.entry d).lock = none ∧ (s.entry d).hold = none ∧
          (s.entry d).interrupters = [])

/-- A link is watched exactly while it is UP or QUIESCING, and otherwise has no subscription, change set or hold (R158,
R168). -/
def SessionsWatched (s : State) : Prop :=
  ∀ p, ((s.link p).supervision.isSome = true ↔ (s.link p).state.session = true) ∧
    ((s.link p).state.session = false →
      (s.link p).subs = .none ∧ (s.link p).changes = [] ∧ (s.link p).hold = none)

/-- A key is in a talk state only while its panel's link is UP or QUIESCING (R105). -/
def TalkOnlyInSession (s : State) : Prop :=
  ∀ k, (s.key k).state.talking = true → (s.link (stationOf k)).state.session = true

/-- A change set holds each reference once, and only of subscribed classes (R168). -/
def ChangeSetsLawful (s : State) : Prop :=
  ∀ p, (s.link p).changes.Nodup ∧ ∀ r ∈ (s.link p).changes, (s.link p).subs.covers r = true

/-- An idle transmitter has nothing it may send (R165). -/
def IdleHasNothingToSend (s : State) : Prop :=
  ∀ p, (s.link p).sending = none →
    (s.link p).busy = none ∧ (s.link p).replies = [] ∧ ((s.link p).noticesOpen = true → (s.link p).changes = [])

/-- A destination with a staged change is in the dirty set, so a salvo's pairs are all applied at one take (R28, R47). -/
def StagedIsDirty (s : State) : Prop := ∀ d, (s.entry d).staged.isSome = true → s.take.dirty.at d = true

/-- A destination is named in the fallback list of at most one guard, once, and is never of class IFB; it is held exactly
while that guard is TRIPPED or RECOVERING; a held destination has no staged change but its guard's (R124, R131). -/
def HoldsMatchGuards (s : State) : Prop :=
  ((fins 4).flatMap fun g => (s.guard g).defn.fallback.map Prod.fst).Nodup ∧
    (∀ g, ∀ p ∈ (s.guard g).defn.fallback, (s.defs.at p.1).cls ≠ .ifb) ∧
    (∀ d g, (s.entry d).hold = some g ↔
      ((s.guard g).state.holding = true ∧ d ∈ (s.guard g).defn.fallback.map Prod.fst)) ∧
    ∀ d g, (s.entry d).hold = some g → ∀ x, (s.entry d).staged = some x → ∃ y, x = .guarded y g

/-- Salvos, staged and queued, have distinct (originator, tag) names and numbered pairs, and each queued salvo names a
held destination (R25, R29). -/
def SalvosLawful (s : State) : Prop :=
  (∀ d m, (s.entry d).mark = some m → m.pair < 16) ∧
    (∀ d e m n, (s.entry d).mark = some m → (s.entry e).mark = some n →
      m.orig = n.orig → m.tag = n.tag → m.pair = n.pair → d = e) ∧
    (s.salvos.map fun x => (x.orig, x.tag)).Nodup ∧
    (∀ x ∈ s.salvos, (∀ d, (s.entry d).inSalvo x.orig x.tag = false) ∧ x.pairs.length ≤ 16 ∧
      (x.pairs.map Prod.fst).Nodup ∧ ∃ p ∈ x.pairs, (s.entry p.1).hold.isSome = true)

/-- A staged change that may be taken on a destination with the lock `l`: a guard's, or the owner's under a PROTECT lock
(R11). -/
def PermittedBy (l : Lock) (x : Staged) : Prop :=
  (∃ y g, x = .guarded y g) ∨ (l.kind = .protect ∧ x.requester = some l.owner)

/-- A locked destination has no staged change but one its lock permits (R11). -/
def LocksLawful (s : State) : Prop :=
  ∀ d l x, (s.entry d).lock = some l → (s.entry d).staged = some x → PermittedBy l x

/-- The law of the lock, from one state to the next: while a destination is locked, its current source changes only to
the source of a staged change that its lock permits (R11). -/
def LockedSourcesHold (s t : State) : Prop :=
  ∀ d l, (s.entry d).lock = some l → (t.entry d).lock.isSome = true → (t.entry d).current ≠ (s.entry d).current →
    ∃ x, (s.entry d).staged = some x ∧ (t.entry d).current = x.source ∧ PermittedBy l x

/-- A staged salvo stays whole from one state to the next (R28): either every destination it marks keeps its staged
change, or none has it any longer; then all of its sources are current, or none of its destinations has changed its
current source, or the controller has started again. -/
def SalvosStayWhole (s t : State) : Prop :=
  ∀ o tag,
    (∀ d, (s.entry d).inSalvo o tag = true → (t.entry d).staged = (s.entry d).staged) ∨
    ((∀ d, (t.entry d).inSalvo o tag = false) ∧
      ((∀ d x, (s.entry d).inSalvo o tag = true → (s.entry d).staged = some x → (t.entry d).current = x.source) ∨
        (∀ d, (s.entry d).inSalvo o tag = true → (t.entry d).current = (s.entry d).current) ∨ t.ctl.ready = false))

/-- A confirmation state agrees with the commanded and the reported source (R53 to R57). -/
def ConfirmationLawful (e : Entry) : Prop :=
  match e.confirmation with
  | some .settled => e.commanded.isSome = true ∧ e.reported = e.commanded
  | some (.awaiting _) => e.commanded.isSome = true ∧ e.reported = none
  | some .mismatch => e.reported.isSome = true ∧ e.reported ≠ e.commanded
  | some .unconfirmed => True
  | none => e.commanded = none ∧ e.reported = none

def ConfirmationsLawful (s : State) : Prop := ∀ d, ConfirmationLawful (s.entry d)

/-- No urgent request waits: it is taken at once, and the slot is free again at the end of its step (R176). -/
def UrgentSlotFree (s : State) : Prop := s.ctl.urgent = none ∧ s.ctl.urgFree = true

/-- The write-enable latch is set exactly within a write sequence, and an IDLE or LOADING engine has nothing queued
(R181, R182). -/
def StoreLawful (s : State) : Prop :=
  (s.store.latch = true ↔ s.store.engine.inFlight.isSome = true) ∧
    (s.store.engine = .idle ∨ s.store.engine = .loading → s.store.queue = [])

end Sys2Proof.Machine
end

