-- ==== Sys2Proof/Certificates/Slice0/Obligations.lean ====
section
/-! DEFINITION. The statements about the controller. -/

open Sys2Proof Sys2Proof.Machine

/-! ### One step -/

/-- A step takes the command at the front of the queue and runs it on the rest; with an empty queue it takes the request
that waits in the request buffer, else in the held buffer of the lowest numbered link, and with none 1 µs passes: every
running timer has 1 µs less, down to 0, the time since the last take event is 1 µs more, and nothing else changes (the
empty queue is the model's choice, log 2; that timers count µs, log 3). -/
def Obligations.StepRunsTheFrontCommand : Prop :=
  (∀ c rest s, s.pending = c :: rest → step s = exec c { s with pending := rest }) ∧
  (∀ c s, s.pending = [] → waitingRequest s = some c → step s = exec c s) ∧
  (∀ s, s.pending = [] → waitingRequest s = none → step s = .next (tick s)) ∧
  (∀ s,
    (∀ body, s.ctl.request = some ⟨body, true⟩ → waitingRequest s = decodeBody .ctl body) ∧
    ((∀ body, s.ctl.request ≠ some ⟨body, true⟩) →
      (∀ p body c, (s.link p).held = some ⟨body, true⟩ → decodeBody (.panel p) body = some c →
        (∀ q, q < p → ∀ b, (s.link q).held ≠ some ⟨b, true⟩) → waitingRequest s = some c) ∧
      ((∀ p b, (s.link p).held ≠ some ⟨b, true⟩) → waitingRequest s = none))) ∧
  ∀ s t, t = tick s →
    t = { s with
      routes := t.routes, take := t.take, tally := t.tally, talk := t.talk, guards := t.guards, links := t.links } ∧
    (∀ d, (∀ n, (s.entry d).confirmation = some (.awaiting n) →
        t.entry d = { s.entry d with confirmation := some (.awaiting (n - 1)) }) ∧
      ((∀ n, (s.entry d).confirmation ≠ some (.awaiting n)) → t.entry d = s.entry d)) ∧
    t.take = { s.take with
      frameTimer := s.take.frameTimer - 1
      sinceTake := s.take.sinceTake.map (· + 1)
      burst := s.take.burst.map fun b => ⟨b.todo, b.wait - 1⟩ } ∧
    t.tally = { s.tally with flashTimer := s.tally.flashTimer - 1 } ∧
    t.talk = { s.talk with keys := t.talk.keys } ∧
    (∀ k x, x = s.key k → (t.key k).defn = x.defn ∧
      (∀ n, x.state = .timing (some n) → (t.key k).state = .timing (some (n - 1))) ∧
      (∀ n, x.state = .latched (some n) → (t.key k).state = .latched (some (n - 1))) ∧
      ((∀ n, x.state ≠ .timing (some n) ∧ x.state ≠ .latched (some n)) → (t.key k).state = x.state)) ∧
    (∀ g x, x = s.guard g → (t.guard g).defn = x.defn ∧
      (∀ n, x.state = .debouncing n → (t.guard g).state = .debouncing (n - 1)) ∧
      (∀ n r, x.state = .recovering n r → (t.guard g).state = .recovering (n - 1) r) ∧
      ((∀ n r, x.state ≠ .debouncing n ∧ x.state ≠ .recovering n r) → (t.guard g).state = x.state)) ∧
    ∀ p, t.link p = { s.link p with
      supervision := (s.link p).supervision.map (· - 1), hold := (s.link p).hold.map (· - 1) }

/-- No command stops the controller, and none touches the commands that wait behind it. The event of a timer, burst,
send list or store operation that is not running changes nothing (the model's choice, log 3). -/
def Obligations.EveryCommandLeavesANextState : Prop :=
  (∀ c s, ∃ t, exec c s = .next t ∧ t.pending = s.pending) ∧
  ∀ s,
    (s.store.engine ≠ .loading → Becomes .loadComplete s s) ∧
    (s.store.engine.inFlight = none → Becomes .storeWordReady s s) ∧
    ((∀ op marked wanted, s.store.engine ≠ .busy (.read op marked) wanted) → Becomes .recallReadComplete s s) ∧
    (s.take.burst = none → Becomes .commandWord s s ∧ Becomes .burstAbandon s s) ∧
    (s.talk.sendList = [] → Becomes .talkPortSend s s) ∧
    (∀ d, (∀ n, (s.entry d).confirmation ≠ some (.awaiting n)) → Becomes (.confirmationTimerExpiry d) s s) ∧
    (∀ k, (∀ n, (s.key k).state ≠ .timing (some n)) → Becomes (.thresholdExpiry k) s s) ∧
    (∀ k, (∀ n, (s.key k).state ≠ .latched (some n)) → Becomes (.latchLimitExpiry k) s s) ∧
    (∀ g, (∀ n, (s.guard g).state ≠ .debouncing n) → Becomes (.debounceExpiry g) s s) ∧
    (∀ g, (∀ n r, (s.guard g).state ≠ .recovering n r) → Becomes (.recoveryExpiry g) s s) ∧
    ∀ p, ((s.link p).state.session = false ∨ (s.link p).supervision = none) → Becomes (.supervisionExpiry p) s s

/-! ### The checks at the links (R157, R158, R174) -/

/-- What each link refuses before any block sees the request, in the order of its checks, and what it discards. That a
code outside its field's table is RANGE at the link, ahead of NOT_PERMITTED and NOT_READY, is the model's reading of the
length and range checks that R190 speaks of (log 16); that a flag of 2 or more is one too is its reading, and that an
initial latch of 2 or more is one is its choice (log 34). -/
def Obligations.LinksRefuseByTheirChecks : Prop :=
  ∀ c k o tag s, requestHead c = some (k, o, tag) →
    (∀ p, o = .panel p → (s.link p).state.session = true →
      (codesOk c = false → Answers c s s o k tag .range []) ∧
      (codesOk c = true → k.controlOnly = true → Answers c s s o k tag .notPermitted []) ∧
      (k = .busTally → s.tally.switcher ≠ some p → Answers c s s o k tag .notPermitted []) ∧
      (codesOk c = true → k.controlOnly = false → (k = .busTally → s.tally.switcher = some p) →
        (s.link p).state = .quiescing → k.takenQuiescing = false → Answers c s s o k tag .quiescing [])) ∧
    (∀ p, o = .panel p → (s.link p).state.session = false → k ≠ .hello →
      ∃ h, (h = (s.link p).held ∨ h = none) ∧ Becomes c s (s.setLink p { s.link p with held := h })) ∧
    (o = .ctl →
      (codesOk c = false → Answers c s s o k tag .range []) ∧
      (codesOk c = true → s.ctl.ready = false → k ≠ .readStatus → Answers c s s o k tag .notReady []) ∧
      (codesOk c = true → s.ctl.ready = true → k.panelOnly = true → Answers c s s o k tag .notPermitted []))

/-! ### The route table (R6 to R21) -/

/-- ROUTE: the four checks in order, and the staging of an accepted one. -/
def Obligations.RouteIsCheckedThenStaged : Prop :=
  ∀ s o tag (d x : Nat), Admits s o .route →
    (¬(d < 48 ∧ x < 64) → Answers (.route o tag d x) s s o .route tag .range []) ∧
    ∀ (hd : d < 48) (hx : x < 64), ∀ e, e = s.entry ⟨d, hd⟩ →
      (e.hold.isSome = true → Answers (.route o tag d x) s s o .route tag .guarded []) ∧
      (e.hold = none → LockedTo e o → Answers (.route o tag d x) s s o .route tag .locked []) ∧
      (e.hold = none → ¬LockedTo e o → e.mark.isSome = true →
        Answers (.route o tag d x) s s o .route tag .staged []) ∧
      (e.hold = none → ¬LockedTo e o → e.mark = none →
        Answers (.route o tag d x) s
          { s with
            routes := s.routes.put ⟨d, hd⟩ { e with staged := some (.routed ⟨x, hx⟩ o) }
            take := { s.take with dirty := s.take.dirty.put ⟨d, hd⟩ true } }
          o .route tag .accepted [])

/-- LOCK and PROTECT: the checks in order, and the lock that is set. UNLOCK releases the requester's own lock; FORCE
UNLOCK, from the control link alone, releases any. -/
def Obligations.LocksAreSetAndReleased : Prop :=
  (∀ s o tag (d : Nat) kind c k,
     (kind = LockKind.lock ∧ c = Instr.lock o tag d ∧ k = ReqKind.lock ∨
       kind = LockKind.protect ∧ c = Instr.protect o tag d ∧ k = ReqKind.protect) → Admits s o k →
     (¬d < 48 → Answers c s s o k tag .range []) ∧
     ∀ hd : d < 48, ∀ e, e = s.entry ⟨d, hd⟩ →
       ((∃ l, e.lock = some l ∧ l.owner ≠ o) → Answers c s s o k tag .locked []) ∧
       ((∀ l, e.lock = some l → l.owner = o) →
         (∃ x, e.staged = some x ∧ (kind = .lock ∨ x.requester ≠ some o)) → Answers c s s o k tag .staged []) ∧
       ((∀ l, e.lock = some l → l.owner = o) →
         (∀ x, e.staged = some x → kind = .protect ∧ x.requester = some o) →
         Answers c s { s with routes := s.routes.put ⟨d, hd⟩ { e with lock := some ⟨o, kind⟩ } } o k tag .ok [])) ∧
  ((∀ s o tag (d : Nat), Admits s o .unlock →
     (¬d < 48 → Answers (.unlock o tag d) s s o .unlock tag .range []) ∧
     ∀ hd : d < 48, ∀ e, e = s.entry ⟨d, hd⟩ →
       (e.lock = none → Answers (.unlock o tag d) s s o .unlock tag .ok []) ∧
       (∀ l, e.lock = some l → l.owner ≠ o → Answers (.unlock o tag d) s s o .unlock tag .notOwner []) ∧
       ∀ l, e.lock = some l → l.owner = o →
         Answers (.unlock o tag d) s { s with routes := s.routes.put ⟨d, hd⟩ { e with lock := none } }
           o .unlock tag .ok []) ∧
   (∀ s tag (d : Nat), s.ctl.ready = true →
     (¬d < 48 → Answers (.forceUnlock .ctl tag d) s s .ctl .forceUnlock tag .range []) ∧
     ∀ hd : d < 48,
       Answers (.forceUnlock .ctl tag d) s
         { s with routes := s.routes.put ⟨d, hd⟩ { s.entry ⟨d, hd⟩ with lock := none } }
         .ctl .forceUnlock tag .ok []) ∧
   ∀ d, OnlyFromControl .forceUnlock fun o tag => .forceUnlock o tag d)

/-- DEFINE DESTINATION: the checks in order, then the definition with the lamps and lines that follow it. The switcher
index is 255 for none. -/
def Obligations.DefineDestinationIsCheckedThenTakesEffect : Prop :=
  (∀ s tag (d cls index home : Nat), s.ctl.ready = true →
    (¬(d < 48 ∧ home < 64 ∧ ∃ c : DestClass, cls = c.code ∧ index = (c.input.map Fin.val).getD 255) →
      Answers (.defineDestination .ctl tag d cls index home) s s .ctl .defineDestination tag .range [])) ∧
  (∀ s tag (d : Dst) (c : DestClass) (x : Src), s.ctl.ready = true → ∀ i,
    i = Instr.defineDestination .ctl tag d.1 c.code ((c.input.map Fin.val).getD 255) x.1 →
    ∀ inUse isFallback taken : Prop,
    (inUse ↔ ((s.entry d).hold.isSome = true ∨
      ((s.defs.at d).cls = .ifb ∧ c ≠ .ifb ∧
        ((∃ k, (s.key k).targetsIfb d = true) ∨ (s.entry d).interrupters ≠ [])))) →
    (isFallback ↔ (c = .ifb ∧ ∃ g, d ∈ (s.guard g).defn.fallback.map Prod.fst)) →
    (taken ↔ ∃ w d', c = .swin w ∧ d' ≠ d ∧ (s.defs.at d').cls = .swin w) →
      (inUse → Answers i s s .ctl .defineDestination tag .inUse []) ∧
      (¬inUse → isFallback → Answers i s s .ctl .defineDestination tag .cls []) ∧
      (¬inUse → ¬isFallback → taken → Answers i s s .ctl .defineDestination tag .config []) ∧
      (¬inUse → ¬isFallback → ¬taken →
        Answers i s (refresh { s with defs := s.defs.put d ⟨c, x⟩ }) .ctl .defineDestination tag .ok [])) ∧
  ∀ d cls index home, OnlyFromControl .defineDestination fun o tag => .defineDestination o tag d cls index home

/-- Every query, READ STATUS and PING answer from the records as they stand, and change nothing else; the parameters of
each reply are laid out field by field as R193 gives them. A QUERY TALLY of the switcher takes any number (the model's
reading, log 16), a guard on an OUT line shows as not matching (its reading, log 19), the action values of lines outside
the action set show as 0 (its choice, log 33), the take source is NONE exactly until READY (its reading, log 10), and how
a part of a ms is rounded is free (log 25). -/
def Obligations.QueriesAnswerAndChangeNothing : Prop :=
  (∀ s o tag,
    (Admits s o .ping → Answers (.ping o tag) s s o .ping tag .ok []) ∧
    (Admits s o .queryRoute →
      (∀ d : Dst, Answers (.queryRoute o tag d.1) s s o .queryRoute tag .ok (routeReply s d)) ∧
      ∀ d, ¬d < 48 → Answers (.queryRoute o tag d) s s o .queryRoute tag .range []) ∧
    (Admits s o .querySalvos →
      (∀ i, i < 4 → Answers (.querySalvos o tag i) s s o .querySalvos tag .ok (salvosReply s i)) ∧
      ∀ i, ¬i < 4 → Answers (.querySalvos o tag i) s s o .querySalvos tag .range []) ∧
    (Admits s o .queryTally →
      (∀ c : Chn, Answers (.queryTally o tag 0 c.1) s s o .queryTally tag .ok (channelReply s c)) ∧
      (∀ x : Src, Answers (.queryTally o tag 1 x.1) s s o .queryTally tag .ok (sourceReply s x)) ∧
      (∀ n, Answers (.queryTally o tag 2 n) s s o .queryTally tag .ok (switcherReply s)) ∧
      ∀ k n, (k = 0 ∧ ¬n < 32 ∨ k = 1 ∧ ¬n < 64 ∨ ¬k < 3) →
        Answers (.queryTally o tag k n) s s o .queryTally tag .range []) ∧
    (Admits s o .queryKey →
      (∀ k : KeyId, Answers (.queryKey o tag 0 k.1) s s o .queryKey tag .ok (keyReply s k)) ∧
      (∀ p : Pnl, Answers (.queryKey o tag 1 p.1) s s o .queryKey tag .ok (stationReply s p)) ∧
      (∀ y : Pty, Answers (.queryKey o tag 2 y.1) s s o .queryKey tag .ok (partyReply s y)) ∧
      ∀ k n, (k = 0 ∧ ¬n < 128 ∨ k = 1 ∧ ¬n < 8 ∨ k = 2 ∧ ¬n < 32 ∨ ¬k < 3) →
        Answers (.queryKey o tag k n) s s o .queryKey tag .range []) ∧
    (Admits s o .queryGuard →
      (∀ g : Gid, Answers (.queryGuard o tag g.1) s s o .queryGuard tag .ok (guardReply s g)) ∧
      ∀ g, ¬g < 4 → Answers (.queryGuard o tag g) s s o .queryGuard tag .range []) ∧
    (Admits s o .queryLine →
      (∀ l : Lid, Answers (.queryLine o tag l.1) s s o .queryLine tag .ok (lineReply s l)) ∧
      Answers (.queryLine o tag 255) s s o .queryLine tag .ok (allLinesReply s) ∧
      ∀ l, ¬l < 16 → l ≠ 255 → Answers (.queryLine o tag l) s s o .queryLine tag .range []) ∧
    Answers (.readStatus .ctl tag) s s .ctl .readStatus tag .ok (statusReply s)) ∧
  ((∀ n, byte n = BitVec.ofNat 8 n) ∧ (∀ n, two n = [byte (n / 256), byte (n % 256)]) ∧
    (∀ p, originCode (.panel p) = p.1) ∧ originCode .ctl = 8 ∧
    (∀ w i, (conditionsByte w).getLsbD i = (i == 0 && w.pgmDirect || i == 1 && w.pgmSwitcher || i == 2 && w.pvwDirect ||
      i == 3 && w.pvwSwitcher || i == 4 && w.iso)) ∧
    (∀ n, msLeft n = n / 1000 ∨ n % 1000 ≠ 0 ∧ msLeft n = n / 1000 + 1) ∧
    ∀ n, n ≤ 1000000 * secondsLeft n ∧ 1000000 * secondsLeft n < n + 1000000) ∧
  (∀ s d e, e = s.entry d →
    routeReply s d =
      [(match (s.defs.at d).cls with | .plain => 0 | .tx => 1 | .pvw => 2 | .iso => 3 | .swin _ => 4 | .ifb => 5),
       (match (s.defs.at d).cls with | .swin w => byte w.1 | _ => 0xFF), byte (s.defs.at d).home.1] ++ routePart s d ∧
    routePart s d =
      [byte e.current.1,
       (match e.staged with | none => 0xFF | some x => byte x.source.1),
       (match e.staged with
        | none => 0xFF
        | some (.routed _ o) => byte (originCode o)
        | some (.salvo _ m) => byte (originCode m.orig)
        | some (.guarded _ g) => byte (9 + g.1)),
       (match e.staged with | some (.salvo _ m) => byte (originCode m.orig) | _ => 0xFF),
       (match e.staged with | some (.salvo _ m) => m.tag | _ => 0xFF),
       (match e.lock with | none => 0xFF | some l => byte (originCode l.owner)),
       (match e.lock with | none => 0xFF | some ⟨_, .lock⟩ => 0 | some ⟨_, .protect⟩ => 1),
       (match e.lock with | some ⟨.panel p, _⟩ => if (s.link p).state = .up then 0 else 1 | _ => 0),
       (match e.hold with | none => 0xFF | some g => byte g.1),
       (match e.interrupters.getLast?.bind fun k => s.talk.mics.at (stationOf k) with
        | none => 0xFF
        | some x => byte x.1),
       byte e.interrupters.length,
       (match e.commanded with | none => 0xFF | some x => byte x.1),
       (match e.confirmation with
        | none => 0xFF
        | some .settled => 0
        | some (.awaiting _) => 1
        | some .unconfirmed => 2
        | some .mismatch => 3),
       (match e.reported with | none => 0xFF | some x => byte x.1),
       (match e.reported, e.commanded with
        | some x, _ => byte x.1
        | none, some x => byte x.1
        | none, none => 0xFF)]) ∧
  (∀ s i, salvosReply s i = byte s.salvos.length ::
    (match s.salvos[i]? with
     | none => []
     | some x =>
       byte (originCode x.orig) :: x.tag :: (if x.isRecall then 1 else 0) :: byte x.pairs.length ::
         x.pairs.flatMap fun p =>
           [byte p.1.1, byte p.2.1, (match (s.entry p.1).hold with | none => 0xFF | some g => byte g.1)])) ∧
  (∀ lamp : Lamp → Byte, lamp = (fun x => match x with | .off => 0 | .on => 1 | .flash => 2) → ∀ s,
    (∀ c x, x = s.channel c →
      channelPart s c = [(match x.mapped with | none => 0xFF | some y => byte y.1), lamp x.red, lamp x.green,
        lamp x.amber, byte x.calls] ∧
      channelReply s c = channelPart s c ++
        [(match x.mapped with | none => 0xFF | some y => conditionsByte (conditions s y))]) ∧
    (∀ x, ∃ cs : List Chn, cs.Pairwise (· < ·) ∧ (∀ c, c ∈ cs ↔ (s.channel c).mapped = some x) ∧
      sourceReply s x = conditionsByte (conditions s x) :: byte cs.length :: cs.map fun c => byte c.1) ∧
    ∃ p0 p1 p2 v0 v1 v2 : Byte,
      switcherReply s =
        [(match s.tally.switcher with | none => 0xFF | some p => byte p.1),
         (match s.tally.programSource with | none => 0xFF | some x => byte x.1), (if programGate s then 1 else 0),
         p0, p1, p2, v0, v1, v2, (if s.tally.fresh then 0 else 1)] ∧
      ∀ w, s.tally.program.at w = (p0.toNat + 256 * p1.toNat + 65536 * p2.toNat).testBit w.1 ∧
        s.tally.preview.at w = (v0.toNat + 256 * v1.toNat + 65536 * v2.toNat).testBit w.1) ∧
  (∀ mode : KeyMode → Byte, mode = (fun x => match x with | .auto => 0 | .momentary => 1 | .latch => 2) →
    ∀ stateCode : KeyState → Byte, stateCode = (fun x => match x with
      | .idle => 0 | .timing _ => 1 | .held => 2 | .latched _ => 3 | .clearing => 4) → ∀ s,
    (∀ k x, x = s.key k → keyReply s k =
      (match x.defn with
       | none => [0, 0xFF, 0xFF, 0xFF, 0xFF]
       | some ⟨m, .party y call⟩ => [1, mode m, 0, byte y.1, if call then 1 else 0]
       | some ⟨m, .ifb d⟩ => [1, mode m, 1, byte d.1, 0]) ++ stateCode x.state ::
        (two (match x.state with | .timing (some n) => msLeft n | _ => 0xFFFF) ++
          two (match x.state with | .latched (some n) => secondsLeft n | _ => 0xFFFF))) ∧
    (∀ p, stationReply s p =
      [(match s.talk.mics.at p with | none => 0xFF | some x => byte x.1),
       (match (s.link p).state with | .down => 0 | .up => 1 | .quiescing => 2 | .quiesced => 3)] ++
      ([0, 1, 2, 3, 4].map fun n : Byte =>
        byte ((stationKeys p).filter fun k => decide (stateCode (s.key k).state = n)).length) ++
      (fins 32).map fun y => byte (s.holdCount p y)) ∧
    ∀ y heard, ((∃ p, 0 < s.holdCount p y) → heard = (1 : Byte)) → ((∀ p, s.holdCount p y = 0) → heard = 0) →
      partyReply s y = (match s.talk.parties.at y with | none => 0xFF | some c => byte c.1) ::
        ((fins 8).map fun p => byte (s.holdCount p y)) ++ [heard]) ∧
  (∀ s g x f, x = s.guard g → f = x.defn → ∃ s1 s0 v1 v0 : Byte,
    (∀ l, (256 * s1.toNat + s0.toNat).testBit l.1 = (f.action.at l).isSome ∧
      (256 * v1.toNat + v0.toNat).testBit l.1 = decide (f.action.at l = some true)) ∧
    guardReply s g =
      [byte f.line.1, if f.high then 1 else 0] ++ two f.debounce ++
      [if f.auto then 1 else 0, byte f.fallback.length] ++ (f.fallback.flatMap fun p => [byte p.1.1, byte p.2.1]) ++
      [s1, s0, v1, v0, if f.armedAtStart then 1 else 0,
       (match x.state with
        | .disabled => 0 | .armed => 1 | .debouncing _ => 2 | .tripped _ => 3 | .recovering _ _ => 4)] ++
      two (match x.state with | .debouncing n => msLeft n | .recovering n _ => msLeft n | _ => 0xFFFF) ++
      (match x.state with
       | .tripped r => r.map fun y => byte y.1
       | .recovering _ r => r.map fun y => byte y.1
       | _ => f.fallback.map fun _ => 0xFF) ++
      [if s.line f.line = .input f.high then 1 else 0]) ∧
  (∀ s,
    (∀ l sample, s.line l = .input sample → lineReply s l = [(0 : Byte), 0xFF, 0xFF, 0xFF, if sample then 1 else 0] ++
      (fins 4).map fun g => if (s.guard g).defn.line = l
        then (if sample = (s.guard g).defn.high then 1 else 0) else 0xFF) ∧
    (∀ l mode latch on, s.line l = .output mode latch on → lineReply s l =
      [(1 : Byte), (match mode with | .manual => 0 | .tally _ => 1 | .talk _ => 2),
        (match mode with | .manual => 0xFF | .tally x => byte x.1 | .talk y => byte y.1),
        if latch then 1 else 0, if on then 1 else 0] ++
      (fins 4).map fun g => if (s.guard g).defn.action.at l = none then 0xFF
        else if (s.guard g).state.holding then 1 else 0) ∧
    ∃ d1 d0 v1 v0 : Byte, allLinesReply s = [d1, d0, v1, v0] ∧
      ∀ l, ((256 * d1.toNat + d0.toNat).testBit l.1 = true ↔ ∃ mode latch on, s.line l = .output mode latch on) ∧
        ((256 * v1.toNat + v0.toNat).testBit l.1 = true ↔
          (s.line l = .input true ∨ ∃ mode latch, s.line l = .output mode latch true))) ∧
  ∀ s, statusReply s =
    [(match s.ctl.startCause with | .power => (0 : Byte) | .line => 1 | .restart => 2), if s.ctl.preserved then 1 else 0,
     (match s.take.reference with | .ok => 0 | .lost => 1),
     (if s.ctl.ready then (match s.take.reference with | .ok => 1 | .lost => 2) else 0),
     (match s.store.engine with | .loading => 0 | .idle => 1 | .busy _ _ => 2 | .granted _ => 3),
     (match s.store.engine with | .busy _ (some _) => 1 | .granted _ => 2 | _ => 0),
     if s.store.permit then 1 else 0, if s.tally.fresh then 0 else 1] ++
    (fins 8).map fun p => match (s.link p).state with
      | .down => (0 : Byte) | .up => 1 | .quiescing => 2 | .quiesced => 3

/-! ### Salvos (R25 to R32) -/

/-- SALVO: the checks of R25 in order, then FULL, QUEUED or ACCEPTED by R26; an accepted salvo is staged whole. CANCEL
SALVO reaches the requester's own queued salvo of that tag, and removes it without an outcome. -/
def Obligations.SalvosAreCheckedStagedQueuedAndCancelled : Prop :=
  (∀ s o tag, Admits s o .salvo →
     (∀ raw, (raw = [] ∨ 16 < raw.length ∨ ∃ p ∈ raw, ¬(p.1 < 48 ∧ p.2 < 64)) →
       Answers (.salvo o tag raw) s s o .salvo tag .range []) ∧
     ∀ pairs : List (Dst × Src), pairs ≠ [] → pairs.length ≤ 16 →
       ∀ c, c = Instr.salvo o tag (pairs.map fun p => (p.1.1, p.2.1)) → ∀ repeated marked held : Prop,
       (repeated ↔ (¬(pairs.map Prod.fst).Nodup ∨ (∃ d, (s.entry d).inSalvo o tag = true) ∨
         ∃ x ∈ s.salvos, x.orig = o ∧ x.tag = tag)) →
       (marked ↔ ∃ p ∈ pairs, (s.entry p.1).mark.isSome = true) →
       (held ↔ ∃ p ∈ pairs, (s.entry p.1).hold.isSome = true) →
         (repeated → Answers c s s o .salvo tag .repeated []) ∧
         (¬repeated → ∀ (i : Nat) (h : i < pairs.length), LockedTo (s.entry pairs[i].1) o →
           (∀ (j : Nat) (hj : j < pairs.length), j < i → ¬LockedTo (s.entry pairs[j].1) o) →
           Answers c s s o .salvo tag .locked [byte i]) ∧
         (¬repeated → (∀ p ∈ pairs, ¬LockedTo (s.entry p.1) o) →
           (marked → Answers c s s o .salvo tag .staged []) ∧
           (¬marked → held → 4 ≤ s.salvos.length → Answers c s s o .salvo tag .full []) ∧
           (¬marked → held → s.salvos.length < 4 →
             Answers c s { s with salvos := s.salvos ++ [⟨o, tag, pairs, false⟩] } o .salvo tag .queued []) ∧
           (¬marked → ¬held → ∃ u, Answers c s u o .salvo tag .accepted [] ∧
             (∀ (i : Nat) (h : i < pairs.length),
               u.entry pairs[i].1 =
                 { s.entry pairs[i].1 with staged := some (.salvo pairs[i].2 ⟨o, tag, i, false⟩) } ∧
               u.take.dirty.at pairs[i].1 = true) ∧
             (∀ d, d ∉ pairs.map Prod.fst → u.entry d = s.entry d ∧ u.take.dirty.at d = s.take.dirty.at d) ∧
             u = { s with routes := u.routes, take := { s.take with dirty := u.take.dirty } }))) ∧
  (∀ s o tag salvoTag, Admits s o .cancelSalvo →
     ((∀ x ∈ s.salvos, ¬(x.orig = o ∧ x.tag = salvoTag)) →
       Answers (.cancelSalvo o tag salvoTag) s s o .cancelSalvo tag .range []) ∧
     ((∃ x ∈ s.salvos, x.orig = o ∧ x.tag = salvoTag) →
       Answers (.cancelSalvo o tag salvoTag) s
         { s with salvos := s.salvos.filter fun x => decide ¬(x.orig = o ∧ x.tag = salvoTag) }
         o .cancelSalvo tag .ok []))

/-! ### Presets and the store engine (R35 to R41, R181 to R187) -/

/-- SAVE PRESET, CLEAR PRESET and RECALL: the checks in order, then the operation joins the store queue; a save takes
its snapshot of the current sources at once. -/
def Obligations.StoreRequestsAreCheckedThenJoin : Prop :=
  ∀ s o tag, ∀ busy : Prop,
    (busy ↔ (4 ≤ s.store.queue.length ∨ (o = .ctl ∧ ∃ raw, s.store.engine = .granted raw))) →
    (Admits s o .savePreset →
      (∀ n raw, (¬n < 64 ∨ raw = [] ∨ 16 < raw.length ∨ ∃ d ∈ raw, ¬d < 48) →
        Answers (.savePreset o tag n raw) s s o .savePreset tag .range []) ∧
      ∀ (n : Fin 64) (ds : List Dst), ds ≠ [] → ds.length ≤ 16 → ∀ c, c = Instr.savePreset o tag n.1 (ds.map Fin.val) →
        (¬ds.Nodup → Answers c s s o .savePreset tag .repeated []) ∧
        (ds.Nodup → s.store.permit = false → Answers c s s o .savePreset tag .storeLocked []) ∧
        (ds.Nodup → s.store.permit = true → busy → Answers c s s o .savePreset tag .storeBusy []) ∧
        (ds.Nodup → s.store.permit = true → ¬busy →
          JoinsStore c s o .savePreset tag ⟨.save (ds.map fun d => (d, (s.entry d).current)), o, tag, n⟩)) ∧
    (Admits s o .clearPreset →
      (∀ n, ¬n < 64 → Answers (.clearPreset o tag n) s s o .clearPreset tag .range []) ∧
      ∀ n : Fin 64, ∀ c, c = Instr.clearPreset o tag n.1 →
        (s.store.permit = false → Answers c s s o .clearPreset tag .storeLocked []) ∧
        (s.store.permit = true → busy → Answers c s s o .clearPreset tag .storeBusy []) ∧
        (s.store.permit = true → ¬busy → JoinsStore c s o .clearPreset tag ⟨.clear, o, tag, n⟩)) ∧
    (Admits s o .recallPreset →
      (∀ n, ¬n < 64 → Answers (.recallPreset o tag n) s s o .recallPreset tag .range []) ∧
      ∀ n : Fin 64, ∀ c, c = Instr.recallPreset o tag n.1 →
        (busy → Answers c s s o .recallPreset tag .storeBusy []) ∧
        (¬busy → JoinsStore c s o .recallPreset tag ⟨.recallPreset, o, tag, n⟩))

/-- An operation that joins starts at once on an IDLE engine and otherwise waits behind the queue. Of the operations that
wait the oldest starts: a RECALL reads its header, with as many pair words as a VALID header counts from 1 to 16; a save
or clear tests write permission, with it on begins its write sequence, and with it off writes nothing, ends STORE_LOCKED
and the next starts. One that ends gives its outcome to its originator, the panel's link is told, and a STORE GRANT that
waits, or else the next queued operation, follows. -/
def Obligations.StoreOperationsRunInTurn : Prop :=
  ((∀ s op, s.store.engine ≠ .idle →
     joinStore op s = { s with store := { s.store with queue := s.store.queue ++ [op] } }) ∧
   (∀ s op, s.store.engine = .idle → s.store.queue = [] →
     (op.work = .recallPreset → ∀ counted : Nat → Prop,
       (∀ k, counted k ↔ (headerCount (memRead s.store.mem op.base) = some k ∧ 1 ≤ k ∧ k ≤ 16)) →
       ∃ n, (∀ k, counted k → n = 1 + k) ∧ ((∀ k, ¬counted k) → n = 1) ∧
         joinStore op s = { s with store := { s.store with
           engine := .busy (.read op false) none, port := [.read op.base n] } }) ∧
     (op.work ≠ .recallPreset → s.store.permit = true →
       joinStore op s = { s with store := { s.store with
         engine := .busy (.write op (op.base, emptyHeader) op.moreWrites false) none
         latch := true
         port := [.writeEnable, .writeWord op.base emptyHeader] } })) ∧
   ∀ s op rest,
     startOps [] s = { s with store := { s.store with engine := .idle, queue := [] } } ∧
     (op.work = .recallPreset → ∀ counted : Nat → Prop,
       (∀ k, counted k ↔ (headerCount (memRead s.store.mem op.base) = some k ∧ 1 ≤ k ∧ k ≤ 16)) →
       ∃ n, (∀ k, counted k → n = 1 + k) ∧ ((∀ k, ¬counted k) → n = 1) ∧
         startOps (op :: rest) s = { s with store := { s.store with
           engine := .busy (.read op false) none, queue := rest, port := s.store.port ++ [.read op.base n] } }) ∧
     (op.work ≠ .recallPreset → s.store.permit = true →
       startOps (op :: rest) s = { s with store := { s.store with
         engine := .busy (.write op (op.base, emptyHeader) op.moreWrites false) none
         queue := rest
         latch := true
         port := s.store.port ++ [.writeEnable, .writeWord op.base emptyHeader] } }) ∧
     ((∀ v : Word, headerCount v = if v.toNat / 256 = 0x56 then some (v.toNat % 256) else none) ∧
       op.base = 1024 + 17 * op.preset.1 ∧ emptyHeader = 0) ∧
     (op.work ≠ .recallPreset → s.store.permit = false → op.orig = .ctl →
       startOps (op :: rest) s =
         startOps rest (placeResponse op.kind.req.code op.tag .storeLocked []
           { s with store := { s.store with engine := .idle, queue := rest } })) ∧
     ∀ p, op.work ≠ .recallPreset → s.store.permit = false → op.orig = .panel p →
       (s.link p).state.session = true →
       startOps (op :: rest) s =
         startOps rest (testQuiesced p (place p (.outcome op.kind op.tag .storeLocked true (byte op.preset.1))
           { s with store := { s.store with engine := .idle, queue := rest } }))) ∧
  ((∀ s e, s.setEngine e = { s with store := { s.store with engine := e } } ∧
      openPort s = { s with store := { s.store with port := [] } }) ∧
   (∀ s typ tag code ps, placeResponse typ tag code ps s =
     { s with ctl := { s.ctl with response := some ((typ + 0x80) :: tag :: code.code :: ps) } }) ∧
   (∀ s, afterOp none s = startOps s.store.queue s ∧
     ∀ tag, afterOp (some tag) s =
       placeResponse ReqKind.storeGrant.code tag .ok [] (s.setEngine (.granted none))) ∧
   (∀ op s, endOp op true none s = startOps s.store.queue (s.setEngine .idle)) ∧
   (∀ op s tag, endOp op true (some tag) s =
     placeResponse ReqKind.storeGrant.code tag .ok [] (s.setEngine (.granted none))) ∧
   (∀ op s wanted p, op.orig = .panel p → endOp op false wanted s = afterOp wanted (testQuiesced p (s.setEngine .idle))) ∧
   (∀ op s wanted, op.orig = .ctl → endOp op false wanted s = afterOp wanted (s.setEngine .idle)) ∧
   ∀ op code ended pair s,
     (op.orig = .ctl →
       firstOutcome op code ended pair s =
         placeResponse op.kind.req.code op.tag code (pair.toList.map byte) s) ∧
     ∀ p, op.orig = .panel p →
       ((s.link p).state.session = true →
         firstOutcome op code ended pair s =
           place p (.outcome op.kind op.tag code ended (byte (pair.getD op.preset.1))) s) ∧
       ((s.link p).state.session = false → firstOutcome op code ended pair s = s))

/-- The words of a save land in an order that leaves its preset EMPTY until the last, and then VALID with exactly its
pairs; no word outside the preset's first n + 1 is touched. A clear writes the EMPTY header and no other word. -/
def Obligations.SaveReadsEmptyUntilItsLastWord : Prop :=
  (∀ (m : Memory) (op : StoreOp), Memory.wf m = true → op.work = .clear → op.moreWrites = [] ∧
    ∀ after, after = memWrite m op.base emptyHeader →
      headerCount (memRead after op.base) = none ∧ ∀ a, a ≠ op.base → memRead after a = memRead m a) ∧
  ∀ (m : Memory) (op : StoreOp) (pairs : List (Dst × Src)), Memory.wf m = true → op.work = .save pairs → pairs.length ≤ 16 →
    ∀ writes after, writes = (op.base, emptyHeader) :: op.moreWrites →
      after = (fun k : Nat => (writes.take k).foldl (fun m w => memWrite m w.1 w.2) m) →
      writes.length = pairs.length + 2 ∧
      (∀ k, 1 ≤ k → k < writes.length → memRead (after k) op.base = 0) ∧
      headerCount (memRead (after writes.length) op.base) = some pairs.length ∧
      presetPairs (after writes.length) op.base pairs.length = pairs.map (fun p => (p.1.1, p.2.1)) ∧
      ∀ k a, (a < op.base ∨ op.base + pairs.length < a) → memRead (after k) a = memRead m a

/-- STORE_WORD_READY: the word that awaits ready takes its value (that it does so at the ready is the model's choice,
log 5), and the sequence sends its next word or its write-disable with what ends it; that the engine takes its next work
after a RESTART's last word as after any operation is the model's reading (log 21). -/
def Obligations.WordReadyLandsOneWord : Prop :=
  ∀ s,
    ∀ w mem, s.store.engine.inFlight = some w → mem = memWrite s.store.mem w.1 w.2 →
      ∀ closed, closed = { s with store := { s.store with mem := mem, latch := false, port := [.writeDisable] } } →
      (∀ op next more marked wanted, s.store.engine = .busy (.write op w (next :: more) marked) wanted →
        Becomes .storeWordReady s { s with store := { s.store with
          mem := mem, engine := .busy (.write op next more marked) wanted, port := [.writeWord next.1 next.2] } }) ∧
      (∀ op wanted, s.store.engine = .busy (.write op w [] false) wanted →
        Becomes .storeWordReady s (endOp op false wanted (firstOutcome op .ok true none closed))) ∧
      (∀ op wanted, s.store.engine = .busy (.write op w [] true) wanted →
        Becomes .storeWordReady s (endOp op true wanted closed)) ∧
      (∀ tag wanted, s.store.engine = .busy (.drain w tag) wanted →
        Becomes .storeWordReady s
          (afterOp wanted (placeResponse ReqKind.restart.code tag .ok [] (closed.setEngine .idle)))) ∧
      (∀ tag next more, s.store.engine = .granted (some ⟨tag, w, next :: more⟩) →
        Becomes .storeWordReady s { s with store := { s.store with
          mem := mem, engine := .granted (some ⟨tag, next, more⟩), port := [.writeWord next.1 next.2] } }) ∧
      (∀ tag, s.store.engine = .granted (some ⟨tag, w, []⟩) →
        Becomes .storeWordReady s
          (placeResponse ReqKind.rawWrite.code tag .ok [] (closed.setEngine (.granted none))))

/-- RECALL_READ_COMPLETE: the header decides, a recall salvo is submitted under the checks of SALVO in their order, the
outcome goes out first and the engine then takes its next step; a marked RECALL submits nothing. That the words are read as they stand at
this row is the model's choice (log 5), and so is that the bits a pair word's layout does not name are not read (log 18);
that a full queue ends the RECALL of a QUIESCING link FULL, not DROPPED, is its reading (log 31). -/
def Obligations.RecallReadSubmitsItsSalvo : Prop :=
  (∀ v o tag,
    (∀ raw, (raw = [] ∨ 16 < raw.length ∨ ∃ p ∈ raw, ¬(p.1 < 48 ∧ p.2 < 64)) →
      judgeSalvo v o tag raw = .refuse .range none) ∧
    ∀ pairs : List (Dst × Src), pairs ≠ [] → pairs.length ≤ 16 →
      ∀ verdict, verdict = judgeSalvo v o tag (pairs.map fun p => (p.1.1, p.2.1)) → ∀ repeated : Prop,
      (repeated ↔ (¬(pairs.map Prod.fst).Nodup ∨ (∃ d, (v.entry d).inSalvo o tag = true) ∨
        ∃ x ∈ v.salvos, x.orig = o ∧ x.tag = tag)) →
        (repeated → verdict = .refuse .repeated none) ∧
        (¬repeated → ∀ (i : Nat) (h : i < pairs.length), LockedTo (v.entry pairs[i].1) o →
          (∀ (j : Nat) (hj : j < pairs.length), j < i → ¬LockedTo (v.entry pairs[j].1) o) →
          verdict = .refuse .locked (some i)) ∧
        (¬repeated → (∀ p ∈ pairs, ¬LockedTo (v.entry p.1) o) →
          ((∃ p ∈ pairs, (v.entry p.1).mark.isSome = true) → verdict = .refuse .staged none) ∧
          ((∀ p ∈ pairs, (v.entry p.1).mark = none) →
            ((∃ p ∈ pairs, (v.entry p.1).hold.isSome = true) → verdict = .wait pairs) ∧
            ((∀ p ∈ pairs, (v.entry p.1).hold = none) → verdict = .stage pairs)))) ∧
  ∀ s,
    (∀ op wanted, s.store.engine = .busy (.read op true) wanted →
      Becomes .recallReadComplete s (afterOp wanted ((openPort s).setEngine .idle))) ∧
    ∀ op wanted, s.store.engine = .busy (.read op false) wanted →
      ∀ v, v = openPort s → ∀ header, header = headerCount (memRead s.store.mem op.base) →
        (header = none →
          Becomes .recallReadComplete s (endOp op false wanted (firstOutcome op .empty true none v))) ∧
        (∀ n, header = some n → (n = 0 ∨ 16 < n) →
          Becomes .recallReadComplete s (endOp op false wanted (firstOutcome op .range true none v))) ∧
        ∀ n, header = some n → 1 ≤ n → n ≤ 16 → ∀ verdict,
          verdict = judgeSalvo v op.orig op.tag (presetPairs s.store.mem op.base n) →
          (∀ code pair, verdict = .refuse code pair →
            Becomes .recallReadComplete s (endOp op false wanted (firstOutcome op code true pair v))) ∧
          (∀ pairs, verdict = .stage pairs →
            Becomes .recallReadComplete s (endOp op false wanted
              (firstOutcome op .staged false none (stageSalvo op.orig op.tag true pairs v)))) ∧
          ∀ pairs, verdict = .wait pairs →
            (4 ≤ s.salvos.length →
              Becomes .recallReadComplete s (endOp op false wanted (firstOutcome op .full true none v))) ∧
            (s.salvos.length < 4 → (∃ p, op.orig = .panel p ∧ (s.link p).state = .quiescing) →
              Becomes .recallReadComplete s (endOp op false wanted (firstOutcome op .dropped true none v))) ∧
            (s.salvos.length < 4 → (∀ p, op.orig = .panel p → (s.link p).state ≠ .quiescing) →
              Becomes .recallReadComplete s (endOp op false wanted
                (firstOutcome op .queued false none
                  { v with salvos := s.salvos ++ [⟨op.orig, op.tag, pairs, true⟩] })))

/-- STORE ENABLE and STORE DISABLE switch write permission; STORE GRANT and STORE RELEASE take and end the grant; RAW READ
and RAW WRITE are checked in order, the words are read, and the write sequence begins. That RAW READ is answered in its
own step, before its read is over, is the model's choice (log 5), and so is that a STORE GRANT or RAW WRITE row that finds
one in progress takes its place (log 22). -/
def Obligations.PermissionGrantAndRawAccess : Prop :=
  ((∀ s tag, s.ctl.ready = true →
     Answers (.storeEnable .ctl tag) s { s with store := { s.store with permit := true } } .ctl .storeEnable tag .ok [] ∧
     Answers (.storeDisable .ctl tag) s { s with store := { s.store with permit := false } }
       .ctl .storeDisable tag .ok []) ∧
   (∀ s tag, s.ctl.ready = true →
     (s.store.engine = .idle →
       Answers (.storeGrant .ctl tag) s { s with store := { s.store with engine := .granted none } }
         .ctl .storeGrant tag .ok []) ∧
     (∀ job wanted, s.store.engine = .busy job wanted →
       AnswersLater (.storeGrant .ctl tag) s { s with store := { s.store with engine := .busy job (some tag) } }
         .storeGrant tag) ∧
     (∀ raw, s.store.engine = .granted raw → Answers (.storeGrant .ctl tag) s s .ctl .storeGrant tag .ok []) ∧
     (s.store.engine = .granted none →
       Answers (.storeRelease .ctl tag) s (startOps s.store.queue (openPort s)) .ctl .storeRelease tag .ok []) ∧
     ((s.store.engine = .idle ∨ ∃ job wanted, s.store.engine = .busy job wanted) →
       Answers (.storeRelease .ctl tag) s s .ctl .storeRelease tag .ok [])) ∧
   OnlyFromControl .storeEnable .storeEnable ∧ OnlyFromControl .storeDisable .storeDisable ∧
   OnlyFromControl .storeGrant .storeGrant ∧ OnlyFromControl .storeRelease .storeRelease) ∧
  ((∀ s tag start count, s.ctl.ready = true →
     ((count = 0 ∨ 32 < count ∨ 4096 < start + count) →
       Answers (.rawRead .ctl tag start count) s s .ctl .rawRead tag .range []) ∧
     (1 ≤ count → count ≤ 32 → start + count ≤ 4096 →
       ((∀ raw, s.store.engine ≠ .granted raw) →
         Answers (.rawRead .ctl tag start count) s s .ctl .rawRead tag .notPermitted []) ∧
       ∀ raw, s.store.engine = .granted raw →
         Answers (.rawRead .ctl tag start count) s
           { s with store := { s.store with port := [.read start count] } } .ctl .rawRead tag .ok
           (byte count :: (List.range count).flatMap fun i => two (memRead s.store.mem (start + i)).toNat))) ∧
   (∀ s tag start (words : List Word), s.ctl.ready = true → ∀ c, c = Instr.rawWrite .ctl tag start words →
     ((words = [] ∨ 16 < words.length ∨ 4096 < start + words.length) →
       Answers c s s .ctl .rawWrite tag .range []) ∧
     ∀ w more, words = w :: more → words.length ≤ 16 → start + words.length ≤ 4096 →
       ((∀ raw, s.store.engine ≠ .granted raw) → Answers c s s .ctl .rawWrite tag .notPermitted []) ∧
       ∀ raw, s.store.engine = .granted raw →
         (s.store.permit = false → Answers c s s .ctl .rawWrite tag .storeLocked []) ∧
         (s.store.permit = true →
           AnswersLater c s { s with store := { s.store with
             engine := .granted (some ⟨tag, (start, w), more.zipIdx.map fun q => (start + 1 + q.2, q.1)⟩)
             latch := true
             port := [.writeEnable, .writeWord start w] } } .rawWrite tag)) ∧
   (∀ start count, OnlyFromControl .rawRead fun o tag => .rawRead o tag start count) ∧
   ∀ start words, OnlyFromControl .rawWrite fun o tag => .rawWrite o tag start words)

/-! ### Takes and the feed matrix port (R42 to R57) -/

/-- Which reference pulses and frame timer expiries are take events, and what each does to the monitor: a pulse sets it
OK, three expiries without a pulse set it LOST, a pulse that returns within a quarter period of a take event is none, and
before READY none is (that take events begin at READY, and the clock since the last one, are the model's, log 10). -/
def Obligations.PulsesAndExpiriesAreTakeEvents : Prop :=
  (∀ s, (takeEvent s).take.sinceTake = some 0) ∧
  (∀ s t, t = { s with take := { s.take with
      reference := .ok, missed := 0, frameTimer := Config.nominalPeriod s.timing.rate } } →
    (s.ctl.ready = false → Becomes .referencePulse s t) ∧
    (s.ctl.ready = true → s.take.reference = .ok → Becomes .referencePulse s (takeEvent t)) ∧
    (s.ctl.ready = true → s.take.reference = .lost →
      ((∃ n, s.take.sinceTake = some n ∧ n < Config.quarterPeriod s.timing.rate) → Becomes .referencePulse s t) ∧
      ((∀ n, s.take.sinceTake = some n → Config.quarterPeriod s.timing.rate ≤ n) →
        Becomes .referencePulse s (takeEvent t)))) ∧
  ∀ s t, t = { s with take := { s.take with frameTimer := Config.nominalPeriod s.timing.rate } } →
    (s.take.reference = .ok → s.take.missed ≠ 2 →
      Becomes .internalFrameTimerExpiry s { t with take := { t.take with missed := s.take.missed + 1 } }) ∧
    (s.take.reference = .ok → s.take.missed = 2 →
      ∀ v, v = raise .refLost { t with take := { t.take with reference := .lost, missed := 0 } } →
        (s.ctl.ready = false → Becomes .internalFrameTimerExpiry s v) ∧
        (s.ctl.ready = true → Becomes .internalFrameTimerExpiry s (takeEvent v))) ∧
    (s.take.reference = .lost →
      (s.ctl.ready = false → Becomes .internalFrameTimerExpiry s t) ∧
      (s.ctl.ready = true → Becomes .internalFrameTimerExpiry s (takeEvent t)))

/-- A take event with no burst in flight takes the whole dirty set: every staged change of a dirty destination becomes its
current source, and the burst names those destinations in ascending order, each with its target; a burst in flight makes
it a skipped one. That the ready wait of a burst begins at the take is the model's reading (log 11). -/
def Obligations.TakeEventTakesTheDirtySet : Prop :=
  ∀ s t, t = takeEvent s →
    t.take.frameTimer = Config.nominalPeriod s.timing.rate ∧
    t.take.reference = s.take.reference ∧ t.take.missed = s.take.missed ∧ t.take.feedWord = s.take.feedWord ∧
    { t with take := s.take, routes := s.routes } = s ∧
    (s.take.burst.isSome = true → t.routes = s.routes ∧ t.take.dirty = s.take.dirty ∧ t.take.burst = s.take.burst) ∧
    (s.take.burst = none →
      (∀ d, t.take.dirty.at d = false) ∧
      (∀ d, s.take.dirty.at d = false → t.entry d = s.entry d) ∧
      (∀ d, s.take.dirty.at d = true →
        (∀ x, (s.entry d).staged = some x → t.entry d = { s.entry d with current := x.source, staged := none }) ∧
        ((s.entry d).staged = none → t.entry d = s.entry d)) ∧
      ((∀ d, s.take.dirty.at d = false) → t.take.burst = none) ∧
      ((∃ d, s.take.dirty.at d = true) → ∃ b, t.take.burst = some b ∧
        b.wait = Config.twoPeriods s.timing.rate ∧
        (b.todo.map Prod.fst).Pairwise (· < ·) ∧
        (∀ d, d ∈ b.todo.map Prod.fst ↔ s.take.dirty.at d = true) ∧
        ∀ d x, (d, x) ∈ b.todo →
          ((s.entry d).interrupters = [] → x = (t.entry d).current) ∧
          ∀ k m, (s.entry d).interrupters.getLast? = some k → s.talk.mics.at (stationOf k) = some m → x = m))

/-- COMMAND_WORD: the next destination of the burst is commanded and awaits its report; the last one ends the burst.
BURST_ABANDON: the destinations not yet commanded are dirty again and UNCONFIRMED, MISMATCH is raised and the burst is
over; nothing else changes. That the ready wait begins anew at each word (log 11) and that the confirmation timer of an
AWAITING destination stops at an abandon (log 12) are the model's readings. -/
def Obligations.BurstsCommandOrGoBack : Prop :=
  (∀ s,
     ∀ d x rest wait, s.take.burst = some ⟨(d, x) :: rest, wait⟩ →
       Becomes .commandWord s
         (refresh { s with
           routes := s.routes.put d { s.entry d with
             commanded := some x
             reported := none
             confirmation := some (.awaiting (Config.twoPeriods s.timing.rate)) }
           take := { s.take with
             feedWord := some (BitVec.ofNat 16 (d.1 * 256 + x.1))
             burst := if rest = [] then none else some ⟨rest, Config.twoPeriods s.timing.rate⟩ } })) ∧
  (∀ s,
     ∀ b, s.take.burst = some b → ∃ u, Becomes .burstAbandon s u ∧
       (∀ d, d ∈ b.todo.map Prod.fst →
         u.entry d = { s.entry d with confirmation := some .unconfirmed } ∧ u.take.dirty.at d = true) ∧
       (∀ d, d ∉ b.todo.map Prod.fst → u.entry d = s.entry d ∧ u.take.dirty.at d = s.take.dirty.at d) ∧
       u.take.burst = none ∧
       u.ctl = { s.ctl with attention := s.ctl.attention.put 4 true } ∧
       { u with routes := s.routes, take := s.take, ctl := s.ctl } = s ∧
       { u.take with dirty := s.take.dirty, burst := s.take.burst } = s.take)

/-- FEED_REPORT: the source is stored, SETTLED if it is the commanded one and MISMATCH with its attention cause if not or
if none was commanded; a report for D48 to D63 is discarded. CONFIRMATION_TIMER_EXPIRY takes an AWAITING destination to
UNCONFIRMED with MISMATCH raised. MATRIX REFRESH makes every destination dirty. -/
def Obligations.ReportsAndExpiriesConfirm : Prop :=
  (∀ s w n, (Instr.feedReport w).wellFormed = true → n = w.toNat / 256 % 64 →
     (¬n < 48 → Becomes (.feedReport w) s s) ∧
     ∀ h : n < 48, ∀ d x, d = (⟨n, h⟩ : Dst) → x.1 = w.toNat % 64 →
       ((s.entry d).commanded = some x →
         Becomes (.feedReport w) s
           (refresh { s with
             routes := s.routes.put d { s.entry d with reported := some x, confirmation := some .settled } })) ∧
       ((s.entry d).commanded ≠ some x →
         Becomes (.feedReport w) s
           (refresh { s with
             routes := s.routes.put d { s.entry d with reported := some x, confirmation := some .mismatch }
             ctl := { s.ctl with attention := s.ctl.attention.put 4 true } }))) ∧
  ((∀ s d n, (s.entry d).confirmation = some (.awaiting n) →
     Becomes (.confirmationTimerExpiry d) s
       { s with
         routes := s.routes.put d { s.entry d with confirmation := some .unconfirmed }
         ctl := { s.ctl with attention := s.ctl.attention.put 4 true } }) ∧
   (∀ s tag, s.ctl.ready = true →
     Answers (.matrixRefresh .ctl tag) s { s with take := { s.take with dirty := tabOf fun _ => true } }
       .ctl .matrixRefresh tag .ok []) ∧
   OnlyFromControl .matrixRefresh .matrixRefresh)

/-! ### Tally (R62 to R81) -/

/-- The five conditions of a source and the program gate, from the tally sources, the definitions and the switcher tally
record. A recomputation sets the three lamps of every channel by the tables of the red, green and amber lamps, an unmapped
channel dark, and changes nothing else. -/
def Obligations.ConditionsAndLampsFollowTheirTables : Prop :=
  (∀ s x, ∀ given : DestClass → Prop, (∀ c, given c ↔ ∃ d, (s.defs.at d).cls = c ∧ (s.entry d).tallySource = some x) →
     ((conditions s x).pgmDirect = true ↔ given .tx) ∧
     (programGate s = true ↔
       ∀ y, s.tally.programSource = some y → ∃ d, (s.defs.at d).cls = .tx ∧ (s.entry d).tallySource = some y) ∧
     ((conditions s x).pgmSwitcher = true ↔
       (programGate s = true ∧ ∃ w, s.tally.program.at w = true ∧ given (.swin w))) ∧
     ((conditions s x).pvwDirect = true ↔ given .pvw) ∧
     ((conditions s x).pvwSwitcher = true ↔ ∃ w, s.tally.preview.at w = true ∧ given (.swin w)) ∧
     ((conditions s x).iso = true ↔ given .iso) ∧
     ∀ d, (∀ r, (s.entry d).reported = some r → (s.entry d).tallySource = some r) ∧
       ((s.entry d).reported = none → (s.entry d).tallySource = (s.entry d).commanded)) ∧
  (∀ s t, t = recompute s →
     { t with tally := s.tally } = s ∧ { t.tally with channels := s.tally.channels } = s.tally ∧
     ∀ c, (t.channel c).mapped = (s.channel c).mapped ∧ (t.channel c).calls = (s.channel c).calls ∧
       ((s.channel c).mapped = none →
         (t.channel c).red = .off ∧ (t.channel c).green = .off ∧ (t.channel c).amber = .off) ∧
       ∀ x, (s.channel c).mapped = some x → ∀ w, w = conditions s x →
         ((t.channel c).red = .on ↔ (w.pgmDirect = true ∨ (w.pgmSwitcher = true ∧ s.tally.fresh = true))) ∧
         ((t.channel c).red = .flash ↔ (w.pgmDirect = false ∧ w.pgmSwitcher = true ∧ s.tally.fresh = false)) ∧
         ((t.channel c).green = .on ↔ ((t.channel c).red = .off ∧
           (w.pvwDirect = true ∨ (w.pvwSwitcher = true ∧ s.tally.fresh = true)))) ∧
         ((t.channel c).green = .flash ↔ ((t.channel c).red = .off ∧
           w.pvwDirect = false ∧ w.pvwSwitcher = true ∧ s.tally.fresh = false)) ∧
         ((t.channel c).amber = .flash ↔ 0 < (s.channel c).calls) ∧
         ((t.channel c).amber = .on ↔ ((s.channel c).calls = 0 ∧ w.iso = true)))

/-- BUS TALLY from the switcher link replaces both sets and is FRESH; from any other link it is not permitted. CLEAR
SWITCHER TALLY empties both and is FRESH. SET SWITCHER replaces both settings, and a change of link empties both sets,
FRESH with no link and STALE with one; absent is 255. -/
def Obligations.SwitcherRecordAndSettings : Prop :=
  ((∀ s p tag (program preview : Nat), (s.link p).state = .up → s.tally.switcher = some p →
     Answers (.busTally (.panel p) tag program preview) s
       (refresh { s with tally := { s.tally with
         program := tabOf fun w => program.testBit w.1, preview := tabOf fun w => preview.testBit w.1, fresh := true } })
       (.panel p) .busTally tag .ok []) ∧
   (∀ s p tag program preview, (s.link p).state.session = true → s.tally.switcher ≠ some p →
     Answers (.busTally (.panel p) tag program preview) s s (.panel p) .busTally tag .notPermitted []) ∧
   (∀ s p tag program preview, (s.link p).state = .quiescing → s.tally.switcher = some p →
     Answers (.busTally (.panel p) tag program preview) s s (.panel p) .busTally tag .quiescing []) ∧
   (∀ s tag program preview, s.ctl.ready = true →
     Answers (.busTally .ctl tag program preview) s s .ctl .busTally tag .notPermitted []) ∧
   (∀ s tag, s.ctl.ready = true →
     Answers (.clearSwitcherTally .ctl tag) s
       (refresh { s with tally := { s.tally with
         program := tabOf fun _ => false, preview := tabOf fun _ => false, fresh := true } })
       .ctl .clearSwitcherTally tag .ok []) ∧
   OnlyFromControl .clearSwitcherTally .clearSwitcherTally) ∧
  ((∀ s tag (l : Option Pnl) (x : Option Src), s.ctl.ready = true → ∀ i,
     i = Instr.setSwitcher .ctl tag ((l.map Fin.val).getD 255) ((x.map Fin.val).getD 255) →
       (l = s.tally.switcher →
         Answers i s (refresh { s with tally := { s.tally with programSource := x } }) .ctl .setSwitcher tag .ok []) ∧
       (l ≠ s.tally.switcher →
         Answers i s
           (refresh { s with tally := { s.tally with
             switcher := l, programSource := x
             program := tabOf fun _ => false, preview := tabOf fun _ => false
             fresh := decide (l = none) } })
           .ctl .setSwitcher tag .ok [])) ∧
   (∀ s tag link source, s.ctl.ready = true →
     (¬(link = 255 ∨ link < 8) ∨ ¬(source = 255 ∨ source < 64)) →
     Answers (.setSwitcher .ctl tag link source) s s .ctl .setSwitcher tag .range []) ∧
   ∀ link source, OnlyFromControl .setSwitcher fun o tag => .setSwitcher o tag link source)

/-- DEFINE TALLY CHANNEL replaces the mapping and keeps the call count; FLASH_TIMER_EXPIRY turns the flash to its other
half for another 250 ms, and a lamp's output follows its state and that half. -/
def Obligations.ChannelMappingAndFlash : Prop :=
  (∀ s tag (c : Chn) (x : Option Src), s.ctl.ready = true →
    Answers (.defineTallyChannel .ctl tag c.1 ((x.map Fin.val).getD 255)) s
      (refresh { s with tally := { s.tally with
        channels := s.tally.channels.put c { s.channel c with mapped := x } } })
      .ctl .defineTallyChannel tag .ok []) ∧
  (∀ s tag c x, s.ctl.ready = true → (¬c < 32 ∨ ¬(x = 255 ∨ x < 64)) →
    Answers (.defineTallyChannel .ctl tag c x) s s .ctl .defineTallyChannel tag .range []) ∧
  (∀ c x, OnlyFromControl .defineTallyChannel fun o tag => .defineTallyChannel o tag c x) ∧
  (∀ s, Becomes .flashTimerExpiry s
    { s with tally := { s.tally with flashLit := !s.tally.flashLit, flashTimer := 250000 } }) ∧
  ∀ s l, lampOutput s l = true ↔ (l = .on ∨ (l = .flash ∧ s.tally.flashLit = true))

/-! ### Talk (R86 to R107, R111 to R114) -/

/-- DEFINE STATION and DEFINE PARTY: the checks in order, then the mic source or the call channel; absent is 255. -/
def Obligations.StationsAndPartiesAreCheckedThenSet : Prop :=
  (∀ s tag (p : Pnl) (x : Option Src), s.ctl.ready = true → ∀ i,
    i = Instr.defineStation .ctl tag p.1 ((x.map Fin.val).getD 255) → ∀ talks owns : Prop,
    (talks ↔ ∃ k, stationOf k = p ∧ (s.key k).isIfb = true ∧ (s.key k).state.talking = true) →
    (owns ↔ ∃ k, stationOf k = p ∧ (s.key k).isIfb = true) →
      (talks → Answers i s s .ctl .defineStation tag .inUse []) ∧
      (¬talks → x = none → owns → Answers i s s .ctl .defineStation tag .config []) ∧
      (¬talks → ¬(x = none ∧ owns) →
        Answers i s { s with talk := { s.talk with mics := s.talk.mics.put p x } } .ctl .defineStation tag .ok [])) ∧
  (∀ s tag p x, s.ctl.ready = true → (¬p < 8 ∨ ¬(x = 255 ∨ x < 64)) →
    Answers (.defineStation .ctl tag p x) s s .ctl .defineStation tag .range []) ∧
  (∀ p x, OnlyFromControl .defineStation fun o tag => .defineStation o tag p x) ∧
  (∀ s tag (y : Pty) (c : Option Chn), s.ctl.ready = true → ∀ i,
    i = Instr.defineParty .ctl tag y.1 ((c.map Fin.val).getD 255) → ∀ called : Prop,
    (called ↔ ∃ k m, (s.key k).defn = some ⟨m, .party y true⟩ ∧ (s.key k).state.talking = true) →
      (called → Answers i s s .ctl .defineParty tag .inUse []) ∧
      (¬called →
        Answers i s { s with talk := { s.talk with parties := s.talk.parties.put y c } } .ctl .defineParty tag .ok [])) ∧
  (∀ s tag y c, s.ctl.ready = true → (¬y < 32 ∨ ¬(c = 255 ∨ c < 32)) →
    Answers (.defineParty .ctl tag y c) s s .ctl .defineParty tag .range []) ∧
  ∀ y c, OnlyFromControl .defineParty fun o tag => .defineParty o tag y c

/-- DEFINE KEY: the checks in order, then the definition, which touches nothing else; an unassigning request meets the
first two checks alone. -/
def Obligations.DefineKeyIsCheckedThenReplaced : Prop :=
  (∀ s tag k a m kind target call, s.ctl.ready = true → a < 2 → m < 3 → kind < 2 → call < 2 → ¬k < 128 →
    Answers (.defineKey .ctl tag k a m kind target call) s s .ctl .defineKey tag .range []) ∧
  (∀ s tag (k : KeyId) m kind target call, s.ctl.ready = true →
    ((s.key k).state ≠ .idle →
      Answers (.defineKey .ctl tag k.1 0 m kind target call) s s .ctl .defineKey tag .inUse []) ∧
    ((s.key k).state = .idle →
      Answers (.defineKey .ctl tag k.1 0 m kind target call) s
        { s with talk := { s.talk with keys := s.talk.keys.put k ⟨none, .idle⟩ } } .ctl .defineKey tag .ok [])) ∧
  (∀ s tag (k : KeyId) m kind target call, s.ctl.ready = true →
    (¬m < 3 ∨ ¬kind < 2 ∨ (kind = 0 ∧ ¬target < 32) ∨ (kind = 1 ∧ ¬target < 48)) →
    Answers (.defineKey .ctl tag k.1 1 m kind target call) s s .ctl .defineKey tag .range []) ∧
  (∀ s tag (k : KeyId) (m : KeyMode) (y : Pty) (call : Bool), s.ctl.ready = true → ∀ i,
    i = Instr.defineKey .ctl tag k.1 1 m.code 0 y.1 call.toNat →
      ((s.key k).state ≠ .idle → Answers i s s .ctl .defineKey tag .inUse []) ∧
      ((s.key k).state = .idle →
        Answers i s { s with talk := { s.talk with keys := s.talk.keys.put k ⟨some ⟨m, .party y call⟩, .idle⟩ } }
          .ctl .defineKey tag .ok [])) ∧
  (∀ s tag (k : KeyId) (m : KeyMode) (d : Dst) (call : Bool), s.ctl.ready = true → ∀ i,
    i = Instr.defineKey .ctl tag k.1 1 m.code 1 d.1 call.toNat →
      ((s.key k).state ≠ .idle → Answers i s s .ctl .defineKey tag .inUse []) ∧
      ((s.key k).state = .idle → (s.defs.at d).cls ≠ .ifb → Answers i s s .ctl .defineKey tag .cls []) ∧
      ((s.key k).state = .idle → (s.defs.at d).cls = .ifb → (call = true ∨ s.talk.mics.at (stationOf k) = none) →
        Answers i s s .ctl .defineKey tag .config []) ∧
      ((s.key k).state = .idle → (s.defs.at d).cls = .ifb → call = false → s.talk.mics.at (stationOf k) ≠ none →
        Answers i s { s with talk := { s.talk with keys := s.talk.keys.put k ⟨some ⟨m, .ifb d⟩, .idle⟩ } }
          .ctl .defineKey tag .ok [])) ∧
  ∀ k a m kind target call, OnlyFromControl .defineKey fun o tag => .defineKey o tag k a m kind target call

/-- KEY DOWN by state and mode, with the full interrupter list: the state it takes the key into, and the reply. -/
def Obligations.KeyDownFollowsTheStateTable : Prop :=
  ∀ s p tag, (s.link p).state = .up →
    (∀ n, (¬n < 16 ∨ ∃ i : Fin 16, i.1 = n ∧ (s.key (keyOf p i)).defn = none) →
      Answers (.keyDown (.panel p) tag n) s s (.panel p) .keyDown tag .range []) ∧
    ∀ (i : Fin 16) f, (s.key (keyOf p i)).defn = some f → ∀ c k x,
      c = Instr.keyDown (.panel p) tag i.1 → k = keyOf p i → x = (s.key k).state →
      ∀ full : Prop, (full ↔ ∃ d, f.target = .ifb d ∧ 8 ≤ (s.entry d).interrupters.length) →
        (x = .idle → full → Answers c s (refresh (moveKey k .clearing s)) (.panel p) .keyDown tag .full []) ∧
        (x = .idle → ¬full →
          (f.mode = .auto →
            Answers c s (refresh (moveKey k (.timing (some (s.timing.threshold * 1000))) s))
              (.panel p) .keyDown tag .ok []) ∧
          (f.mode = .momentary → Answers c s (refresh (moveKey k .held s)) (.panel p) .keyDown tag .ok []) ∧
          (f.mode = .latch → Answers c s (refresh (moveKey k (.timing none) s)) (.panel p) .keyDown tag .ok [])) ∧
        (∀ n, x = .latched n → Answers c s (refresh (moveKey k .clearing s)) (.panel p) .keyDown tag .ok []) ∧
        (((∃ n, x = .timing n) ∨ x = .held ∨ x = .clearing) →
          Answers c s (refresh s) (.panel p) .keyDown tag .ok [])

/-- KEY UP by state, on an UP and on a QUIESCING link, and the quiesce it may end. -/
def Obligations.KeyUpFollowsTheStateTable : Prop :=
  ∀ s p tag, Admits s (.panel p) .keyUp →
    (∀ n, (¬n < 16 ∨ ∃ i : Fin 16, i.1 = n ∧ (s.key (keyOf p i)).defn = none) →
      Answers (.keyUp (.panel p) tag n) s s (.panel p) .keyUp tag .range []) ∧
    ∀ (i : Fin 16) f, (s.key (keyOf p i)).defn = some f → ∀ c k x,
      c = Instr.keyUp (.panel p) tag i.1 → k = keyOf p i → x = (s.key k).state →
      ∀ done, done = (fun y => testQuiesced p (refresh (moveKey k y s))) →
        (∀ n, x = .timing n → (s.link p).state = .up →
          (s.timing.limit = 0 → Answers c s (done (.latched none)) (.panel p) .keyUp tag .ok []) ∧
          (s.timing.limit ≠ 0 →
            Answers c s (done (.latched (some (s.timing.limit * 60000000)))) (.panel p) .keyUp tag .ok [])) ∧
        (∀ n, x = .timing n → (s.link p).state = .quiescing →
          Answers c s (done .idle) (.panel p) .keyUp tag .ok []) ∧
        ((x = .held ∨ x = .clearing) → Answers c s (done .idle) (.panel p) .keyUp tag .ok []) ∧
        ((x = .idle ∨ ∃ n, x = .latched n) → Answers c s (testQuiesced p (refresh s)) (.panel p) .keyUp tag .ok [])

/-- A key that enters or leaves a talk state moves, in the same step, its hold count and crosspoint or its interrupter
list, and its party's call count, and nothing else; a move between talk states or between the others moves the key
alone. -/
def Obligations.TalkTransitionsMoveTheirCounts : Prop :=
  ∀ s k new f, (s.key k).defn = some f → ∀ u, u = moveKey k new s →
    u.key k = ⟨some f, new⟩ ∧ (∀ j, j ≠ k → u.key j = s.key j) ∧
    ((s.key k).state.talking = new.talking → u = { s with talk := { s.talk with keys := u.talk.keys } }) ∧
    ((s.key k).state.talking ≠ new.talking →
      (∀ y call, f.target = .party y call → ∀ p n, p = stationOf k → n = s.holdCount p y →
        (∀ q z, (q, z) ≠ (p, y) → u.holdCount q z = s.holdCount q z ∧ u.crosspoint q z = s.crosspoint q z) ∧
        u.holdCount p y = (if new.talking then n + 1 else n - 1) ∧
        u.crosspoint p y =
          (if new.talking = true ∧ n = 0 then true else if new.talking = false ∧ n = 1 then false
            else s.crosspoint p y) ∧
        u.talk.sendList =
          (if (new.talking = true ∧ n = 0 ∨ new.talking = false ∧ n = 1) ∧ (p, y) ∉ s.talk.sendList
            then s.talk.sendList ++ [(p, y)] else s.talk.sendList) ∧
        (∀ c, u.channel c =
          if call = true ∧ s.talk.parties.at y = some c then
            { s.channel c with calls := if new.talking then (s.channel c).calls + 1 else (s.channel c).calls - 1 }
          else s.channel c) ∧
        u = { s with
          talk := { s.talk with
            keys := u.talk.keys, holds := u.talk.holds, closed := u.talk.closed, sendList := u.talk.sendList }
          tally := { s.tally with channels := u.tally.channels } }) ∧
      ∀ d, f.target = .ifb d →
        (u.entry d).interrupters =
          (if new.talking then (s.entry d).interrupters ++ [k] else (s.entry d).interrupters.filter (· ≠ k)) ∧
        u = { s with
          routes := s.routes.put d { s.entry d with interrupters := (u.entry d).interrupters }
          take := { s.take with dirty := s.take.dirty.put d true }
          talk := { s.talk with keys := u.talk.keys } })

/-- THRESHOLD_EXPIRY, LATCH_LIMIT_EXPIRY and the talk matrix port's sending of its oldest crosspoint, whose word is by the
commanded state at that moment. -/
def Obligations.KeyTimersAndTheTalkPort : Prop :=
  (∀ s k n, (s.key k).state = .timing (some n) → Becomes (.thresholdExpiry k) s (moveKey k .held s)) ∧
  (∀ s k n, (s.key k).state = .latched (some n) →
    Becomes (.latchLimitExpiry k) s (testQuiesced (stationOf k) (refresh (moveKey k .idle s)))) ∧
  ∀ s p y rest, s.talk.sendList = (p, y) :: rest →
    Becomes .talkPortSend s { s with talk := { s.talk with
      sendList := rest
      talkWord := BitVec.ofNat 16 ((if s.crosspoint p y then 256 else 0) + p.1 * 32 + y.1) } }

/-- ALL TALK OFF takes every key out of talk by its table, with every hold count, crosspoint, call count and interrupter
list it ends; each crosspoint it opens joins the send list at its end, once, or keeps its place there; a QUIESCING link
that has no store operation of its own becomes QUIESCED; it reports OK with the urgent slot free, and nothing else changes. Before READY it reports NOT_READY and does nothing else. -/
def Obligations.AllTalkOffSilencesEveryKey : Prop :=
  (∀ s, s.ctl.ready = true → HoldCountsExact s → InterruptersExact s → ∀ ends : Pnl → Prop,
    (∀ p, ends p ↔ ((s.link p).state = .quiescing ∧ (∀ op ∈ s.store.queue, op.orig ≠ .panel p) ∧
      s.store.engine.owner ≠ some (.panel p))) → ∃ u, Becomes .allTalkOff s u ∧
    (∀ k, (u.key k).defn = (s.key k).defn ∧
      (((s.key k).state.isLatched = true ∨ (s.key k).state = .idle) → (u.key k).state = .idle) ∧
      (((s.key k).state.isTiming = true ∨ (s.key k).state = .held ∨ (s.key k).state = .clearing) →
        (ends (stationOf k) → (u.key k).state = .idle) ∧ (¬ends (stationOf k) → (u.key k).state = .clearing))) ∧
    (∀ p y, u.holdCount p y = 0 ∧ u.crosspoint p y = false) ∧
    (∃ handed, u.talk.sendList = s.talk.sendList ++ handed ∧ handed.Nodup ∧
      ∀ p y, (p, y) ∈ handed ↔ (s.crosspoint p y = true ∧ (p, y) ∉ s.talk.sendList)) ∧
    u.talk.mics = s.talk.mics ∧ u.talk.parties = s.talk.parties ∧ u.talk.talkWord = s.talk.talkWord ∧
    (∀ d, u.entry d = { s.entry d with interrupters := [] } ∧
      (u.take.dirty.at d = true ↔ (s.take.dirty.at d = true ∨ (s.entry d).interrupters ≠ []))) ∧
    u.take = { s.take with dirty := u.take.dirty } ∧
    (∀ c, (u.channel c).mapped = (s.channel c).mapped ∧ (u.channel c).calls = (s.channel c).calls -
      ((fins 128).filter fun k => callsChannel s k c).length) ∧
    { u.tally with channels := s.tally.channels, fresh := s.tally.fresh } = s.tally ∧
    (∀ p, (ends p → u.link p = { s.link p with
        state := .quiesced, supervision := none, changes := [], subs := .none, hold := none, quiesceOwed := none }) ∧
      (¬ends p → u.link p = s.link p)) ∧
    (∀ p, s.tally.switcher = some p → ends p →
      u.tally.fresh = false ∧ u.ctl.attention = s.ctl.attention.put 6 true) ∧
    ((∀ p, s.tally.switcher = some p → ¬ends p) →
      u.tally.fresh = s.tally.fresh ∧ u.ctl.attention = s.ctl.attention) ∧
    u.ctl = { s.ctl with
      urgResult := .ok, urgent := none, urgFree := true
      response := u.ctl.response, attention := u.ctl.attention } ∧
    (∀ p tag, ends p → (s.link p).quiesceOwed = some tag →
      (∀ q, q ≠ p → ends q → (s.link q).quiesceOwed = none) → u.ctl.response = some [0xBD, tag, 0, 3]) ∧
    ((∀ p, ends p → (s.link p).quiesceOwed = none) → u.ctl.response = s.ctl.response) ∧
    (∀ l, (∀ sample, s.line l = .input sample → u.line l = .input sample) ∧
      ∀ mode latch on, s.line l = .output mode latch on → ∃ on', u.line l = .output mode latch on') ∧
    u.lines.pins = s.lines.pins ∧ recompute u = u ∧ driveLines u = u ∧
    u = { s with
      routes := u.routes, take := u.take, tally := u.tally, talk := u.talk, lines := u.lines, links := u.links
      ctl := u.ctl }) ∧
  ∀ s, s.ctl.ready = false →
    Becomes .allTalkOff s { s with ctl := { s.ctl with urgResult := .notReady, urgent := none, urgFree := true } }

/-! ### Changeover guards (R124 to R141) -/

/-- ARM GUARD and DISARM GUARD: the checks in order, and the state each leaves. -/
def Obligations.ArmAndDisarmByState : Prop :=
  (∀ s tag (g : Gid), s.ctl.ready = true → ∀ x, x = s.guard g → ∀ i, i = Instr.armGuard .ctl tag g.1 →
    (x.state ≠ .disabled → Answers i s s .ctl .armGuard tag .ok []) ∧
    (x.state = .disabled → ((s.line x.defn.line).isOut = true ∨ x.defn.fallback = []) →
      Answers i s s .ctl .armGuard tag .config []) ∧
    (x.state = .disabled → x.defn.fallback ≠ [] → ∀ sample, s.line x.defn.line = .input sample →
      (sample = x.defn.high →
        Answers i s { s with guards := s.guards.put g ⟨x.defn, .debouncing (x.defn.debounce * 1000)⟩ }
          .ctl .armGuard tag .ok []) ∧
      (sample ≠ x.defn.high →
        Answers i s { s with guards := s.guards.put g ⟨x.defn, .armed⟩ } .ctl .armGuard tag .ok []))) ∧
  (∀ s tag (g : Gid), s.ctl.ready = true → ∀ i, i = Instr.disarmGuard .ctl tag g.1 →
    ((s.guard g).state.holding = true → Answers i s s .ctl .disarmGuard tag .inUse []) ∧
    ((s.guard g).state.holding = false →
      Answers i s { s with guards := s.guards.put g ⟨(s.guard g).defn, .disabled⟩ } .ctl .disarmGuard tag .ok [])) ∧
  (∀ s tag g, s.ctl.ready = true → ¬g < 4 →
    Answers (.armGuard .ctl tag g) s s .ctl .armGuard tag .range [] ∧
    Answers (.disarmGuard .ctl tag g) s s .ctl .disarmGuard tag .range []) ∧
  (∀ g, OnlyFromControl .armGuard fun o tag => .armGuard o tag g) ∧
  ∀ g, OnlyFromControl .disarmGuard fun o tag => .disarmGuard o tag g

/-- DEBOUNCE_EXPIRY trips a DEBOUNCING guard; TRIP GUARD trips by state, and reports its result in the control link's
status with the urgent slot free again. -/
def Obligations.GuardsTripByExpiryOrRequest : Prop :=
  (∀ s g n, (s.guard g).state = .debouncing n → Becomes (.debounceExpiry g) s (trip g s)) ∧
  ∀ s g, ∀ done, done = (fun (r : UrgentResult) (u : State) =>
      ({ u with ctl := { u.ctl with
        urgResult := r, urgent := none, urgFree := true } } : State)) →
      (s.ctl.ready = false → Becomes (.tripGuard g) s (done .notReady s)) ∧
      (s.ctl.ready = true → ¬g < 4 → Becomes (.tripGuard g) s (done .range s)) ∧
      (s.ctl.ready = true → ∀ h : g < 4, ∀ x, x = s.guard ⟨g, h⟩ →
        (x.state = .disabled → Becomes (.tripGuard g) s (done .notArmed s)) ∧
        ((x.state = .armed ∨ ∃ n, x.state = .debouncing n) →
          Becomes (.tripGuard g) s (done .ok (trip ⟨g, h⟩ s))) ∧
        (∀ r, x.state = .tripped r → Becomes (.tripGuard g) s (done .ok s)) ∧
        ∀ n r, x.state = .recovering n r →
          Becomes (.tripGuard g) s (done .ok { s with guards := s.guards.put ⟨g, h⟩ ⟨x.defn, .tripped r⟩ }))

/-- The trip action: every destination of the fallback list is held with its fallback staged and its current source
saved, every salvo staged on one of them leaves all its destinations, the action lines are forced and every other line
stands, GUARD_TRIP is raised, and no other record changes. -/
def Obligations.TripActionHoldsAndForces : Prop :=
  ∀ s g f u, f = (s.guard g).defn → (f.fallback.map Prod.fst).Nodup → u = trip g s →
    u.guard g = ⟨f, .tripped (f.fallback.map fun p => (s.entry p.1).current)⟩ ∧
    (∀ h, h ≠ g → u.guard h = s.guard h) ∧
    (∀ d x, (d, x) ∈ f.fallback →
      u.entry d = { s.entry d with hold := some g, staged := some (.guarded x g) } ∧ u.take.dirty.at d = true) ∧
    (∀ d, d ∉ f.fallback.map Prod.fst → u.take.dirty.at d = s.take.dirty.at d ∧
      ((∀ m, (s.entry d).mark = some m →
          ∀ e ∈ f.fallback.map Prod.fst, (s.entry e).inSalvo m.orig m.tag = false) →
        u.entry d = s.entry d) ∧
      (∀ m, (s.entry d).mark = some m → (∃ e ∈ f.fallback.map Prod.fst, (s.entry e).inSalvo m.orig m.tag = true) →
        u.entry d = { s.entry d with staged := none })) ∧
    (∀ l mode latch on v, s.line l = .output mode latch on → f.action.at l = some v →
      (∀ h w, h ≠ g → (s.guard h).state.holding = true → (s.guard h).defn.action.at l = some w → w = v) →
      u.line l = .output mode latch v) ∧
    (∀ l sample, s.line l = .input sample → u.line l = .input sample) ∧
    (driveLines s = s → ∀ l, f.action.at l = none → u.line l = s.line l) ∧
    u.lines.pins = s.lines.pins ∧
    u.ctl = { s.ctl with attention := s.ctl.attention.put ⟨g.1, by omega⟩ true } ∧
    u = { s with
      routes := u.routes, salvos := u.salvos, take := { s.take with dirty := u.take.dirty }
      guards := u.guards, lines := { s.lines with recs := u.lines.recs }, links := u.links, ctl := u.ctl }

/-- A trip takes the salvos that mark a fallback destination in ascending order of the lowest one each marks, rebuilds
each as it was staged, its pairs in the order of their numbers, and each joins the queue, or ends DROPPED or with no
outcome, by its originator's link and the room that the ones before it left; nothing else reaches the queue or a link. -/
def Obligations.UnstagedSalvosRejoinTheQueue : Prop :=
  (∀ s g fb v, fb = (s.guard g).defn.fallback.map Prod.fst → ∀ ls : List Dst, ls.Pairwise (· < ·) →
    (∀ d, d ∈ ls ↔ (d ∈ fb ∧ ∃ m, (s.entry d).mark = some m ∧
      ∀ e ∈ fb, (s.entry e).inSalvo m.orig m.tag = true → d ≤ e)) →
    v = (ls.filterMap fun d => (s.entry d).mark.map (rebuild s)).foldl (fun t x => requeue x t) s →
    (trip g s).salvos = v.salvos ∧ ∀ p, (trip g s).link p = v.link p) ∧
  (∀ s m, SalvosLawful s → ∀ x, x = rebuild s m →
    x.orig = m.orig ∧ x.tag = m.tag ∧ x.isRecall = m.isRecall ∧
    (∀ d y, (d, y) ∈ x.pairs ↔
      ∃ k, (s.entry d).staged = some (.salvo y k) ∧ k.orig = m.orig ∧ k.tag = m.tag) ∧
    x.pairs.Pairwise fun p q => ∀ k n, (s.entry p.1).mark = some k → (s.entry q.1).mark = some n → k.pair < n.pair) ∧
  (∀ s o tag isRecall (pairs : List (Dst × Src)), (pairs.map Prod.fst).Nodup → pairs.length ≤ 16 →
    (∀ d, (s.entry d).inSalvo o tag = false) → ∀ u, u = stageSalvo o tag isRecall pairs s → ∀ i,
      rebuild u ⟨o, tag, i, isRecall⟩ = ⟨o, tag, pairs, isRecall⟩ ∧
      ∀ d, (removeSalvo ⟨o, tag, i, isRecall⟩ u).entry d =
        if d ∈ pairs.map Prod.fst then { s.entry d with staged := none } else s.entry d) ∧
  (∀ s p i, place p i s =
    { s with links := s.links.put p { s.link p with replies := (s.link p).replies ++ [i] } }) ∧
  (∀ s x p, x.orig = .panel p → ∀ kind, kind = (if x.isRecall then OutcomeKind.recallPreset else .salvo) →
    ((s.link p).state = .up → s.salvos.length < 4 →
      requeue x s = place p (.outcome kind x.tag .queued false 255) { s with salvos := s.salvos ++ [x] }) ∧
    ((s.link p).state = .up → 4 ≤ s.salvos.length →
      requeue x s = place p (.outcome kind x.tag .dropped true 255) s) ∧
    ((s.link p).state = .quiescing → requeue x s = place p (.outcome kind x.tag .dropped true 255) s) ∧
    ((s.link p).state.session = false → requeue x s = s)) ∧
  ∀ s x, x.orig = .ctl →
    (s.salvos.length < 4 → requeue x s = { s with salvos := s.salvos ++ [x] }) ∧
    (4 ≤ s.salvos.length → requeue x s = s)

/-- RECOVERY_EXPIRY and RESTORE GUARD restore by the guard's state and line. -/
def Obligations.GuardsRestoreByExpiryOrRequest : Prop :=
  (∀ s g n r, (s.guard g).state = .recovering n r → Becomes (.recoveryExpiry g) s (restore g r s)) ∧
  (∀ s tag (g : Gid), s.ctl.ready = true → ∀ x, x = s.guard g → ∀ i, i = Instr.restoreGuard .ctl tag g.1 →
    (x.state = .disabled → Answers i s s .ctl .restoreGuard tag .notArmed []) ∧
    ((x.state = .armed ∨ ∃ n, x.state = .debouncing n) → Answers i s s .ctl .restoreGuard tag .ok []) ∧
    (∀ r, x.state = .tripped r →
      (s.line x.defn.line = .input x.defn.high → Answers i s s .ctl .restoreGuard tag .stillFaulted []) ∧
      (s.line x.defn.line ≠ .input x.defn.high → Answers i s (restore g r s) .ctl .restoreGuard tag .ok [])) ∧
    ∀ n r, x.state = .recovering n r → Answers i s (restore g r s) .ctl .restoreGuard tag .ok []) ∧
  (∀ s tag g, s.ctl.ready = true → ¬g < 4 →
    Answers (.restoreGuard .ctl tag g) s s .ctl .restoreGuard tag .range []) ∧
  ∀ g, OnlyFromControl .restoreGuard fun o tag => .restoreGuard o tag g

/-- The restore action: the saved sources are staged, the holds ended, the queue examined oldest first against what that
leaves, and the lines released; an entry that still names a held destination stays, and every other stages or ends. A
salvo, of a SALVO or of a RECALL, is staged whole with its marks, and each of its destinations is dirty; its outcome is
placed for a panel whose link is UP or QUIESCING, discarded for one whose link is not, and not sent to the control link. -/
def Obligations.RestoreActionReleasesAndExamines : Prop :=
  (∀ s g returns ds u, ds = (s.guard g).defn.fallback.map Prod.fst → ds.Nodup → returns.length = ds.length →
    u = restore g returns s → ∃ v, u = driveLines (examineQueue v) ∧
      v.guard g = ⟨(s.guard g).defn, .armed⟩ ∧ (∀ h, h ≠ g → v.guard h = s.guard h) ∧
      (∀ d x, (d, x) ∈ ds.zip returns →
        v.entry d = { s.entry d with hold := none, staged := some (.guarded x g) } ∧ v.take.dirty.at d = true) ∧
      (∀ d, d ∉ ds → v.entry d = s.entry d ∧ v.take.dirty.at d = s.take.dirty.at d) ∧
      v = { s with routes := v.routes, take := { s.take with dirty := v.take.dirty }, guards := v.guards }) ∧
  (∀ s o tag isRecall (pairs : List (Dst × Src)), (pairs.map Prod.fst).Nodup →
    ∀ u, u = stageSalvo o tag isRecall pairs s →
      (∀ (i : Nat) (h : i < pairs.length),
        u.entry pairs[i].1 = { s.entry pairs[i].1 with staged := some (.salvo pairs[i].2 ⟨o, tag, i, isRecall⟩) } ∧
        u.take.dirty.at pairs[i].1 = true) ∧
      (∀ d, d ∉ pairs.map Prod.fst → u.entry d = s.entry d ∧ u.take.dirty.at d = s.take.dirty.at d) ∧
      u = { s with routes := u.routes, take := { s.take with dirty := u.take.dirty } }) ∧
  (∀ s kind tag code ended detail, outcome .ctl kind tag code ended detail s = s ∧
    ∀ p, ((s.link p).state.session = false → outcome (.panel p) kind tag code ended detail s = s) ∧
      ((s.link p).state.session = true → outcome (.panel p) kind tag code ended detail s =
        { s with links := s.links.put p { s.link p with
          replies := (s.link p).replies ++ [.outcome kind tag code ended detail] } })) ∧
  (∀ s, examineQueue s = { (examine s.salvos s).1 with salvos := (examine s.salvos s).2 }) ∧
  ∀ s x rest, (∀ d, examine [] s = (s, []) ∧
      ((d ∈ x.pairs.map Prod.fst ∧ (s.entry d).hold.isSome = true) →
        examine (x :: rest) s = ((examine rest s).1, x :: (examine rest s).2))) ∧
    ((∀ p ∈ x.pairs, (s.entry p.1).hold = none) →
      ∀ kind, kind = (if x.isRecall then OutcomeKind.recallPreset else .salvo) →
      (∀ (i : Nat) (h : i < x.pairs.length), LockedTo (s.entry x.pairs[i].1) x.orig →
        (∀ (j : Nat) (hj : j < x.pairs.length), j < i → ¬LockedTo (s.entry x.pairs[j].1) x.orig) →
        examine (x :: rest) s = examine rest (outcome x.orig kind x.tag .locked true (byte i) s)) ∧
      ((∀ p ∈ x.pairs, ¬LockedTo (s.entry p.1) x.orig) → (∃ p ∈ x.pairs, (s.entry p.1).mark.isSome = true) →
        examine (x :: rest) s = examine rest (outcome x.orig kind x.tag .staged true 255 s)) ∧
      ((∀ p ∈ x.pairs, ¬LockedTo (s.entry p.1) x.orig) → (∀ p ∈ x.pairs, (s.entry p.1).mark = none) →
        examine (x :: rest) s =
          examine rest (outcome x.orig kind x.tag .staged false 255 (stageSalvo x.orig x.tag x.isRecall x.pairs s))))

/-- DEFINE GUARD: the checks in order, then the definition and nothing else. That the action values of lines outside the
action set are dropped is the model's choice (log 33), and that an armed-at-start flag of 2 or more is RANGE its reading
(log 34). -/
def Obligations.DefineGuardIsCheckedThenReplaced : Prop :=
  (∀ s tag g line level debounce mode armed raw set values, s.ctl.ready = true →
    (¬g < 4 ∨ ¬line < 16 ∨ ¬level < 2 ∨ debounce = 0 ∨ 1000 < debounce ∨ ¬mode < 2 ∨ ¬armed < 2 ∨
      raw = [] ∨ 8 < raw.length ∨ ∃ p ∈ raw, ¬(p.1 < 48 ∧ p.2 < 64)) →
    Answers (.defineGuard .ctl tag g line level debounce mode armed raw set values) s s
      .ctl .defineGuard tag .range []) ∧
  (∀ s tag (g : Gid) (line : Lid) (high : Bool) debounce (auto armed : Bool) (pairs : List (Dst × Src)) set values,
    s.ctl.ready = true → 1 ≤ debounce → debounce ≤ 1000 → pairs ≠ [] → pairs.length ≤ 8 →
    ∀ i f, i = Instr.defineGuard .ctl tag g.1 line.1 high.toNat debounce auto.toNat armed.toNat
        (pairs.map fun p => (p.1.1, p.2.1)) set values →
      f = GuardDef.mk line high debounce auto pairs
        (tabOf fun l => if set.testBit l.1 then some (values.testBit l.1) else none) armed →
      ∀ conflict : Prop,
      (conflict ↔
        ((∃ h, h ≠ g ∧ ∃ d ∈ pairs.map Prod.fst, d ∈ (s.guard h).defn.fallback.map Prod.fst) ∨
        (∃ h, h ≠ g ∧ ∃ l v, f.action.at l = some v ∧ (s.guard h).defn.action.at l = some (!v)) ∨
        (s.line line).isOut = true ∨ ∃ l, (f.action.at l).isSome = true ∧ (s.line l).isOut = false)) →
      (¬(pairs.map Prod.fst).Nodup → Answers i s s .ctl .defineGuard tag .repeated []) ∧
      ((pairs.map Prod.fst).Nodup →
        ((s.guard g).state ≠ .disabled → Answers i s s .ctl .defineGuard tag .inUse []) ∧
        ((s.guard g).state = .disabled →
          ((∃ p ∈ pairs, (s.defs.at p.1).cls = .ifb) → Answers i s s .ctl .defineGuard tag .cls []) ∧
          ((∀ p ∈ pairs, (s.defs.at p.1).cls ≠ .ifb) →
            (conflict → Answers i s s .ctl .defineGuard tag .config []) ∧
            (¬conflict →
              Answers i s { s with guards := s.guards.put g ⟨f, .disabled⟩ } .ctl .defineGuard tag .ok []))))) ∧
  ∀ g line level debounce mode armed raw set values,
    OnlyFromControl .defineGuard fun o tag => .defineGuard o tag g line level debounce mode armed raw set values

/-! ### Signal lines (R143 to R150) -/

/-- INPUT_SAMPLE_CHANGE: a pin level taken on an IN line is a new sample, and each guard that monitors the line takes it
as its line becoming or stopping matching, under its own state. A level on an OUT line is kept as what stands on the pin
and changes nothing else: the model's choice (log 6). -/
def Obligations.SampleChangesReachTheGuards : Prop :=
  ∀ s l high,
    ((s.line l).isOut = true ∨ s.line l = .input high →
      Becomes (.inputSampleChange l high) s { s with lines := { s.lines with pins := s.lines.pins.put l high } }) ∧
    (s.line l = .input (!high) → ∃ gs,
      Becomes (.inputSampleChange l high) s
        { s with lines := ⟨s.lines.recs.put l (.input high), s.lines.pins.put l high⟩, guards := gs } ∧
      ∀ g x y, x = s.guard g → y = Tab.at gs g →
        (x.defn.line ≠ l → y = x) ∧ y.defn = x.defn ∧
        (x.defn.line = l → x.defn.high = high →
          (x.state = .armed → y.state = .debouncing (x.defn.debounce * 1000)) ∧
          (∀ n r, x.state = .recovering n r → y.state = .tripped r) ∧
          (x.state ≠ .armed → (∀ n r, x.state ≠ .recovering n r) → y.state = x.state)) ∧
        (x.defn.line = l → x.defn.high ≠ high →
          (∀ n, x.state = .debouncing n → y.state = .armed) ∧
          (∀ r, x.state = .tripped r → x.defn.auto = true →
            y.state = .recovering (x.defn.debounce * 1000) r) ∧
          ((∀ n, x.state ≠ .debouncing n) → ((∀ r, x.state ≠ .tripped r) ∨ x.defn.auto = false) →
            y.state = x.state)))

/-- The driven value of every OUT line is set by the first case that applies: a TRIPPED or RECOVERING guard's forced
value, the manual latch, the red lamps of the target source, the hold counts of the target party. -/
def Obligations.DrivenValuesFollowTheirTable : Prop :=
  ∀ s u, u = driveLines s →
    { u with lines := s.lines } = s ∧ u.lines.pins = s.lines.pins ∧
    ∀ l, (∀ sample, s.line l = .input sample → u.line l = .input sample) ∧
      ∀ mode latch old, s.line l = .output mode latch old → ∃ on, u.line l = .output mode latch on ∧
        ∀ free : Prop, (free ↔ ∀ g, (s.guard g).state.holding = true → (s.guard g).defn.action.at l = none) →
        (∀ v, ¬free → (∀ g w, (s.guard g).state.holding = true → (s.guard g).defn.action.at l = some w → w = v) →
          on = v) ∧
        (free → mode = .manual → on = latch) ∧
        (∀ x, free → mode = .tally x →
          (on = true ↔ ∃ c, (s.channel c).mapped = some x ∧ (s.channel c).red ≠ .off)) ∧
        ∀ y, free → mode = .talk y → (on = true ↔ ∃ p, 0 < s.holdCount p y)

/-- LINE SET writes every named latch or none, and the driven values follow. DEFINE LINE: the checks in order, then the
line, its driven value or its first sample; an absent target is 255. That an initial latch of 2 or more is refused RANGE
on an OUT line is the model's choice (log 34). -/
def Obligations.LineRequestsAreCheckedThenTakeEffect : Prop :=
  ((∀ s tag lines values, s.ctl.ready = true → ∀ named : Lid → Prop, (∀ l, named l ↔ lines.testBit l.1 = true) →
     ((∃ l, named l ∧ ∀ latch on, s.line l ≠ .output .manual latch on) →
       Answers (.lineSet .ctl tag lines values) s s .ctl .lineSet tag .config []) ∧
     ((∀ l, named l → ∃ latch on, s.line l = .output .manual latch on) → ∃ recs,
       Answers (.lineSet .ctl tag lines values) s (driveLines { s with lines := { s.lines with recs := recs } })
         .ctl .lineSet tag .ok [] ∧
       ∀ l, (¬named l → Tab.at recs l = s.line l) ∧
         ∀ latch on, named l → s.line l = .output .manual latch on →
           Tab.at recs l = .output .manual (values.testBit l.1) on)) ∧
   ∀ lines values, OnlyFromControl .lineSet fun o tag => .lineSet o tag lines values) ∧
  ((∀ s tag n direction mode target latch, s.ctl.ready = true →
     (¬n < 16 ∨ ¬direction < 2 ∨ (direction = 1 ∧
       (¬mode < 3 ∨ ¬latch < 2 ∨ (mode = 0 ∧ target ≠ 255) ∨ (mode = 1 ∧ ¬target < 64) ∨ (mode = 2 ∧ ¬target < 32)))) →
     Answers (.defineLine .ctl tag n direction mode target latch) s s .ctl .defineLine tag .range []) ∧
   (∀ s tag (l : Lid), s.ctl.ready = true → ∀ inUse : Prop,
     (inUse ↔ ∃ g, ((s.guard g).defn.line = l ∧ (s.guard g).state ≠ .disabled) ∨
       ((s.guard g).defn.action.at l).isSome = true) →
     (∀ mode target latch, ∀ i, i = Instr.defineLine .ctl tag l.1 0 mode target latch →
       (inUse → Answers i s s .ctl .defineLine tag .inUse []) ∧
       (¬inUse → ∀ x, (∀ sample, s.line l = .input sample → x = Line.input sample) →
         ((s.line l).isOut = true → x = Line.input (s.lines.pins.at l)) →
         Answers i s (driveLines { s with lines := { s.lines with recs := s.lines.recs.put l x } })
           .ctl .defineLine tag .ok [])) ∧
     ∀ (m : OutMode) (latch : Bool), ∀ i,
       i = Instr.defineLine .ctl tag l.1 1 m.code (m.targetNumber.getD 255) latch.toNat →
       (inUse → Answers i s s .ctl .defineLine tag .inUse []) ∧
       (¬inUse →
         Answers i s (driveLines { s with lines := { s.lines with recs := s.lines.recs.put l (.output m latch false) } })
           .ctl .defineLine tag .ok [])) ∧
   ∀ n direction mode target latch,
     OnlyFromControl .defineLine fun o tag => .defineLine o tag n direction mode target latch)

/-! ### Panel links (R155 to R170) -/

/-- FRAME_RECEIVED: a whole frame whose sum is zero restarts the watch of an UP or QUIESCING link and goes to the held
buffer, checked at the link; with the held buffer occupied it is refused BUSY; bytes outside a frame, a bad length and a
bad sum change nothing; a frame cut short stays in the assembling buffer until INTER_BYTE_TIMEOUT discards it; and bytes
received in two rows are received as in one. That a frame which passes waits in the held buffer for its block is the
model's choice (log 1), that it is checked as it arrives (log 28), that a malformed HELLO on a DOWN link is discarded
(log 15) and what type a refusal of an unknown type carries (log 13) are its readings. -/
def Obligations.FramesAreAssembledAndHeld : Prop :=
  (∀ s p typ tag ps, ∀ body, body = typ :: tag :: ps → body.length ≤ 62 → (s.link p).assembling = [] →
    ∀ l, (l = if (s.link p).state.session then
        { s.link p with supervision := some (s.timing.linkTimeout * 1000) } else s.link p) →
    ∀ c, c = Instr.frameReceived p (frame body) →
      (∀ h, l.held = some h →
        ((l.state.session = true ∧ l.busy = none) →
          Becomes c s { s with links := s.links.put p { l with busy := some (typ, tag) } }) ∧
        (¬(l.state.session = true ∧ l.busy = none) → Becomes c s { s with links := s.links.put p l })) ∧
      (l.held = none →
        (decodeBody (.panel p) body = none →
          (l.state.session = true →
            Becomes c s { s with links := s.links.put p { l with
              held := some ⟨body, false⟩, replies := l.replies ++ [.reply typ tag .range [] true] } }) ∧
          (l.state.session = false → Becomes c s s)) ∧
        ∀ i k, decodeBody (.panel p) body = some i → ReqKind.ofCode? typ = some k →
          (panelGate s p k (codesOk i) = .drop → Becomes c s s) ∧
          (∀ code, panelGate s p k (codesOk i) = .refuse code →
            Becomes c s { s with links := s.links.put p { l with
              held := some ⟨body, false⟩, replies := l.replies ++ [.reply typ tag code [] true] } }) ∧
          (panelGate s p k (codesOk i) = .pass →
            Becomes c s { s with links := s.links.put p { l with held := some ⟨body, true⟩ } }))) ∧
  (∀ s p (noise : List Byte), (s.link p).assembling = [] → (∀ b ∈ noise, b ≠ 0xA5) →
    Becomes (.frameReceived p noise) s s) ∧
  (∀ s p (len : Byte), (s.link p).assembling = [] → (len.toNat < 2 ∨ 62 < len.toNat) →
    Becomes (.frameReceived p [0xA5, len]) s s) ∧
  (∀ s p (len check : Byte) body, (s.link p).assembling = [] → 2 ≤ len.toNat → len.toNat ≤ 62 →
    body.length = len.toNat → sum8 (len :: body ++ [check]) ≠ 0 →
    Becomes (.frameReceived p (0xA5 :: len :: body ++ [check])) s s) ∧
  (∀ s p (len : Byte) part, (s.link p).assembling = [] → 2 ≤ len.toNat → len.toNat ≤ 62 →
    part.length ≤ len.toNat →
    Becomes (.frameReceived p (0xA5 :: len :: part)) s
      { s with links := s.links.put p { s.link p with assembling := 0xA5 :: len :: part } }) ∧
  (∀ s p, Becomes (.interByteTimeout p) s { s with links := s.links.put p { s.link p with assembling := [] } }) ∧
  ∀ s t p a b, IdleHasNothingToSend s → exec (.frameReceived p a) s = .next t →
    exec (.frameReceived p (a ++ b)) s = exec (.frameReceived p b) t

/-- FRAME_SENT: the transmitter has ended its frame, frees the held buffer that frame answered, and takes the waiting
BUSY, else the oldest reply or outcome, else a notice of the oldest reference as its record stands, else stays idle. The
frame, the reply, the outcome and the notices are laid out byte by byte, a route, tally or key notice with the parts of
the replies and a tag of 0. -/
def Obligations.TransmitterPicksTheNextFrame : Prop :=
  ((∀ body, ∃ check : Byte, frame body = 0xA5 :: byte body.length :: body ++ [check] ∧
      sum8 (byte body.length :: body ++ [check]) = 0) ∧
   (∀ typ tag code params answers, (Item.reply typ tag code params answers).body =
      (typ + 0x80) :: tag :: code.code :: params) ∧
   (∀ kind tag code ended detail, (Item.outcome kind tag code ended detail).body =
      [0x70, tag, (match kind with | .salvo => 0x11 | .recallPreset => 0x19 | .savePreset => 0x17 | .clearPreset => 0x18),
        code.code, if ended then 1 else 0, detail]) ∧
   ∀ s p, (∀ d, noticeBody s p (.route d) = 0x71 :: 0 :: byte d.1 :: routePart s d) ∧
     (∀ c x, x = s.channel c → noticeBody s p (.tally c) =
       [0x72, 0, byte c.1, optByte (x.mapped.map Fin.val), byte x.red.code, byte x.green.code, byte x.amber.code,
         byte x.calls]) ∧
     ∀ i x, x = s.key (keyOf p i) → noticeBody s p (.key i) =
       0x73 :: 0 :: byte i.1 :: byte x.state.code :: (match x.defn with
         | none => [0, 255, 255, 255, 255]
         | some ⟨m, .party y call⟩ => [1, byte m.code, 0, byte y.1, if call then 1 else 0]
         | some ⟨m, .ifb d⟩ => [1, byte m.code, 1, byte d.1, 0])) ∧
  ∀ s p x, (s.link p).sending = some x → ∃ t, exec (.frameSent p) s = .next t ∧
    t = { s with links := t.links } ∧ (∀ q, q ≠ p → LinkAfter s s t q []) ∧
    ∀ l m, l = s.link p → m = t.link p →
      m = { l with
        sending := m.sending, busy := m.busy, replies := m.replies, changes := m.changes
        held := if x.freesHeld then none else l.held } ∧
      (∀ b, l.busy = some b → m.sending = some ⟨frame [b.1 + 0x80, b.2, 0x16], false⟩ ∧
        m.busy = none ∧ m.replies = l.replies ∧ m.changes = l.changes) ∧
      (l.busy = none →
        (∀ i rest, l.replies = i :: rest → m.sending = some ⟨frame i.body, i.freesHeld⟩ ∧
          m.busy = none ∧ m.replies = rest ∧ m.changes = l.changes) ∧
        (l.replies = [] →
          (∀ r rest, l.changes = r :: rest → l.state.session = true → l.hold = none →
            m.sending = some ⟨frame (noticeBody s p r), false⟩ ∧
            m.busy = none ∧ m.replies = [] ∧ m.changes = rest) ∧
          ((l.changes = [] ∨ l.state.session = false ∨ l.hold ≠ none) →
            m.sending = none ∧ m.busy = none ∧ m.replies = [] ∧ m.changes = l.changes)))

/-- A request that arrives as a frame on a link that lets it through, or in a WRITE REQUEST that the control link lets
through, is the request its block takes next (that it waits in its buffer until then is the model's choice, log 1, and so
is the step with an empty queue that takes it, log 2). An urgent request is taken in the WRITE URGENT that brings it: the
transaction does what the request's row does, with DISCARD cleared and its bytes clocked out. -/
def Obligations.AFrameRunsItsRequest : Prop :=
  (∀ s c k p tag body, c.wellFormed = true → requestHead c = some (k, .panel p, tag) → encodeBody c = some body →
    panelGate s p k (codesOk c) = .pass → (s.link p).assembling = [] → (s.link p).held = none →
    s.pending = [] → waitingRequest s = none → (∀ r, s.ctl.request = some r → r.waiting = false) →
    ∃ t, exec (.frameReceived p (frame body)) s = .next t ∧ step t = exec c t) ∧
  (∀ s c k tag body, c.wellFormed = true → requestHead c = some (k, .ctl, tag) → encodeBody c = some body →
    controlGate s k (codesOk c) = .pass → s.ctl.reqFree = true → s.pending = [] →
    ∃ t, exec (.writeRequest (byte body.length :: body)) s = .next t ∧ step t = exec c t) ∧
  ∀ s v c body, (c = Instr.allTalkOff ∧ body = [0x4C] ∨ ∃ g, g < 256 ∧ c = .tripGuard g ∧ body = [0x4D, byte g]) →
    s.ctl.urgFree = true →
    v = { s with ctl := { s.ctl with
      out := statusByte s :: List.replicate (1 + body.length) 0, discard := false } } →
    exec (.writeUrgent (byte body.length :: body)) s = exec c v

/-- HELLO opens a session on a DOWN or QUIESCED link and a new one on an UP link, once READY is set, is answered NOT_READY
before, and QUIESCING on a QUIESCING link. BYE and QUIESCE LINK start the quiesce of an UP link; on another link they are
answered by its state. -/
def Obligations.SessionsOpenAndStartToClose : Prop :=
  (∀ s p tag, (s.link p).state = .quiescing →
     Answers (.hello (.panel p) tag) s s (.panel p) .hello tag .quiescing []) ∧
  (∀ s p tag, (s.link p).state ≠ .quiescing →
     (s.ctl.ready = false → (s.link p).state ≠ .up →
       Answers (.hello (.panel p) tag) s s (.panel p) .hello tag .notReady []) ∧
     (s.ctl.ready = true →
       Answers (.hello (.panel p) tag) s
         { s with links := s.links.put p { s.link p with
           state := .up, subs := .none, changes := [], hold := none
           supervision := some (s.timing.linkTimeout * 1000) } }
         (.panel p) .hello tag .welcome
         (byte p.1 :: two s.timing.linkTimeout ++ [if s.tally.switcher = some p then 1 else 0]))) ∧
  ((∀ s p tag,
     ((s.link p).state = .up → Answers (.bye (.panel p) tag) s (startQuiesce p none s) (.panel p) .bye tag .ok []) ∧
     ((s.link p).state = .quiescing → Answers (.bye (.panel p) tag) s s (.panel p) .bye tag .ok [])) ∧
   (∀ s tag (p : Pnl), s.ctl.ready = true → ∀ i, i = Instr.quiesceLink .ctl tag p.1 →
     ((s.link p).state = .up → AnswersLater i s (startQuiesce p (some tag) s) .quiesceLink tag) ∧
     ((s.link p).state = .quiescing →
       AnswersLater i s { s with links := s.links.put p { s.link p with quiesceOwed := some tag } } .quiesceLink tag) ∧
     ((s.link p).state = .quiesced → Answers i s s .ctl .quiesceLink tag .ok [3]) ∧
     ((s.link p).state = .down → Answers i s s .ctl .quiesceLink tag .ok [0])) ∧
   (∀ s tag p, s.ctl.ready = true → ¬p < 8 → Answers (.quiesceLink .ctl tag p) s s .ctl .quiesceLink tag .range []) ∧
   ∀ p, OnlyFromControl .quiesceLink fun o tag => .quiesceLink o tag p)

/-- The start of a quiesce takes the station's LATCHED keys to IDLE, with the hold counts, crosspoints and interrupter
lists they move, and drops its queued salvos; locks, staged changes and current sources stay. The link is QUIESCED when no
key of its station talks and it owns no store operation, with its session ended and the response that is owed placed, and
QUIESCING until then. -/
def Obligations.QuiesceEndsWhenNothingIsLeft : Prop :=
  (∀ s p, (quiesceDone s p = true ↔ ((s.link p).state = .quiescing ∧
      (∀ k, stationOf k = p → (s.key k).state.talking = false) ∧
      (∀ op ∈ s.store.queue, op.orig ≠ .panel p) ∧ s.store.engine.owner ≠ some (.panel p))) ∧
    (quiesceDone s p = false → testQuiesced p s = s) ∧
    (quiesceDone s p = true → ∀ u, u = testQuiesced p s →
      u.link p = { s.link p with
        state := .quiesced, supervision := none, changes := [], subs := .none, hold := none, quiesceOwed := none } ∧
      (∀ q, q ≠ p → u.link q = s.link q) ∧
      (∀ k, stationOf k = p → (u.key k).state = .idle) ∧ (∀ k, stationOf k ≠ p → u.key k = s.key k) ∧
      (∀ tag, (s.link p).quiesceOwed = some tag → u.ctl.response = some [0xBD, tag, 0, 3]) ∧
      (s.tally.switcher = some p → u.tally.fresh = false ∧ u.ctl.attention.at 6 = true) ∧
      (s.tally.switcher ≠ some p → u.tally.fresh = s.tally.fresh ∧ u.ctl.attention = s.ctl.attention) ∧
      u.talk = { s.talk with keys := u.talk.keys } ∧
      u.routes = s.routes ∧ u.salvos = s.salvos ∧ u.guards = s.guards ∧ u.store = s.store ∧ u.take = s.take)) ∧
  ∀ s p owed, (s.link p).state = .up → ∃ v, startQuiesce p owed s = testQuiesced p v ∧
    (∀ k, stationOf k = p →
      ((s.key k).state.isLatched = true → (v.key k).state = .idle) ∧
      ((s.key k).state.isLatched = false → v.key k = s.key k)) ∧
    (∀ k, stationOf k ≠ p → v.key k = s.key k) ∧
    v.salvos = s.salvos.filter (fun x => decide (x.orig ≠ .panel p)) ∧
    v.link p = { s.link p with
      state := .quiescing, quiesceOwed := owed
      replies := (s.link p).replies ++ (s.salvos.filter fun x => decide (x.orig = .panel p)).map fun x =>
        .outcome (if x.isRecall then .recallPreset else .salvo) x.tag .dropped true 255 } ∧
    (∀ q, q ≠ p → v.link q = s.link q) ∧
    (∀ d, v.entry d = { s.entry d with interrupters := (v.entry d).interrupters }) ∧
    (InterruptersExact s → ∀ d,
      (v.entry d).interrupters = (s.entry d).interrupters.filter (fun k =>
        !(decide (stationOf k = p) && (s.key k).state.isLatched)) ∧
      (v.take.dirty.at d = true ↔
        (s.take.dirty.at d = true ∨ (v.entry d).interrupters ≠ (s.entry d).interrupters))) ∧
    v.take = { s.take with dirty := v.take.dirty } ∧
    (HoldCountsExact s → HoldCountsExact v ∧
      ∃ handed, v.talk.sendList = s.talk.sendList ++ handed ∧ handed.Nodup ∧ ∀ q y, (q, y) ∈ handed ↔
        (s.crosspoint q y = true ∧ v.crosspoint q y = false ∧ (q, y) ∉ s.talk.sendList)) ∧
    v.talk.mics = s.talk.mics ∧ v.talk.parties = s.talk.parties ∧ v.talk.talkWord = s.talk.talkWord ∧
    v.guards = s.guards ∧ v.store = s.store ∧ v.ctl = s.ctl ∧ v.timing = s.timing ∧ v.defs = s.defs

/-- SUBSCRIBE, HOLD, RESUME and HOLD_TIMER_EXPIRY: the ranges, and what each leaves of the subscriptions, the change set
and the hold; a QUIESCING link is refused. That a class set out of range is found by the block, after the link's own
checks, is the model's reading (log 16). -/
def Obligations.SubscriptionsAndHolds : Prop :=
  (∀ s p tag classes time, (s.link p).state = .quiescing →
    Answers (.subscribe (.panel p) tag classes) s s (.panel p) .subscribe tag .quiescing [] ∧
    Answers (.hold (.panel p) tag time) s s (.panel p) .hold tag .quiescing [] ∧
    Answers (.resume (.panel p) tag) s s (.panel p) .resume tag .quiescing []) ∧
  (∀ s p tag classes, (s.link p).state = .up →
    (¬classes < 8 → Answers (.subscribe (.panel p) tag classes) s s (.panel p) .subscribe tag .range []) ∧
    (classes < 8 → ∀ old new, old = (s.link p).subs →
      new = Subs.mk (classes.testBit 0) (classes.testBit 1) (classes.testBit 2) → ∃ kept added,
      Answers (.subscribe (.panel p) tag classes) s
        { s with links := s.links.put p { s.link p with subs := new, changes := kept ++ added } }
        (.panel p) .subscribe tag .ok [] ∧
      kept = (s.link p).changes.filter new.covers ∧ (added.Nodup) ∧
      ((s.link p).changes.Nodup → (∀ r ∈ (s.link p).changes, old.covers r = true) →
        added =
          (if new.routes && !old.routes then (fins 48).map .route else []) ++
          (if new.tally && !old.tally then (fins 32).map .tally else []) ++
          (if new.keys && !old.keys then (fins 16).map .key else [])))) ∧
  (∀ s p tag time, (s.link p).state = .up →
    ((time = 0 ∨ 1000 < time) → Answers (.hold (.panel p) tag time) s s (.panel p) .hold tag .range []) ∧
    (1 ≤ time → time ≤ 1000 →
      Answers (.hold (.panel p) tag time) s
        { s with links := s.links.put p { s.link p with hold := some (time * 1000) } } (.panel p) .hold tag .ok []) ∧
    Answers (.resume (.panel p) tag) s
      { s with links := s.links.put p { s.link p with hold := none } } (.panel p) .resume tag .ok []) ∧
  ∀ s p, Becomes (.holdTimerExpiry p) s { s with links := s.links.put p { s.link p with hold := none } }

/-- SUPERVISION_EXPIRY: the link enters DOWN, its keys go IDLE, its queued salvos and store operations go, an operation in
progress is marked, LINK_DOWN is raised, and its locks, staged changes and the frame being sent stay. -/
def Obligations.LinkLossClearsTheSession : Prop :=
  ∀ s p, (s.link p).state.session = true → (s.link p).supervision.isSome = true → ∃ u,
      Becomes (.supervisionExpiry p) s u ∧
      u.link p = { Link.start with
        sending := (s.link p).sending.map fun x => { x with freesHeld := false } } ∧
      (∀ q, q ≠ p → u.link q = s.link q) ∧
      (∀ k, stationOf k = p → u.key k = { s.key k with state := .idle }) ∧
      (∀ k, stationOf k ≠ p → u.key k = s.key k) ∧
      u.salvos = s.salvos.filter (fun x => decide (x.orig ≠ .panel p)) ∧
      u.store = { s.store with
        queue := s.store.queue.filter fun op => decide (op.orig ≠ .panel p), engine := s.store.engine.markFor p } ∧
      (∀ tag, (s.link p).quiesceOwed = some tag → u.ctl.response = some [0xBD, tag, 0, 0]) ∧
      ((s.link p).quiesceOwed = none → u.ctl.response = s.ctl.response) ∧
      u.ctl.attention.at 5 = true ∧
      (s.tally.switcher = some p → u.tally.fresh = false ∧ u.ctl.attention.at 6 = true) ∧
      (s.tally.switcher ≠ some p → u.tally.fresh = s.tally.fresh) ∧
      (∀ d, u.entry d = { s.entry d with interrupters := (u.entry d).interrupters }) ∧
      (InterruptersExact s → ∀ d,
        (u.entry d).interrupters = (s.entry d).interrupters.filter (fun k => decide (stationOf k ≠ p)) ∧
        ((u.entry d).interrupters ≠ (s.entry d).interrupters → u.take.dirty.at d = true)) ∧
      (HoldCountsExact s → ∀ q y,
        u.holdCount q y = (if q = p then 0 else s.holdCount q y) ∧
        u.crosspoint q y = (if q = p then false else s.crosspoint q y)) ∧
      (HoldCountsExact s → ∃ handed, u.talk.sendList = s.talk.sendList ++ handed ∧ handed.Nodup ∧
        ∀ q y, (q, y) ∈ handed ↔ (q = p ∧ s.crosspoint q y = true ∧ (q, y) ∉ s.talk.sendList)) ∧
      u.talk.mics = s.talk.mics ∧ u.talk.parties = s.talk.parties ∧ u.talk.talkWord = s.talk.talkWord ∧
      u.take = { s.take with dirty := u.take.dirty } ∧
      u.guards = s.guards ∧ u.timing = s.timing ∧ u.defs = s.defs

/-! ### The control link (R173 to R180) -/

/-- The code byte names the transaction, one that names none being STATUS. STATUS and READ_RESPONSE: the bytes clocked
out, and a response that has been read whole leaves both buffers empty and REQ_FREE set; the status byte is laid out by
its bits. -/
def Obligations.StatusAndResponsesAreClockedOut : Prop :=
  (transactionOf [] = none ∧ ∀ code clocked,
    (code = 0x01 → transactionOf (code :: clocked) = some (.writeRequest clocked)) ∧
    (code = 0x02 → transactionOf (code :: clocked) = some (.readResponse clocked.length)) ∧
    (code = 0x03 → transactionOf (code :: clocked) = some (.writeUrgent clocked)) ∧
    (code ≠ 0x01 → code ≠ 0x02 → code ≠ 0x03 →
      transactionOf (code :: clocked) = some (.status code clocked.length))) ∧
  (∀ s code extra, Becomes (.status code extra) s
    { s with ctl := { s.ctl with out := List.replicate (1 + extra) (statusByte s) } }) ∧
  (∀ s clocked, s.ctl.response = none →
    Becomes (.readResponse clocked) s
      { s with ctl := { s.ctl with out := statusByte s :: List.replicate clocked 0 } }) ∧
  (∀ s clocked body, s.ctl.response = some body →
    (clocked ≤ body.length →
      Becomes (.readResponse clocked) s
        { s with ctl := { s.ctl with out := statusByte s :: (byte body.length :: body).take clocked } }) ∧
    (body.length < clocked →
      Becomes (.readResponse clocked) s
        { s with ctl := { s.ctl with
          out := statusByte s :: (byte body.length :: body) ++ List.replicate (clocked - 1 - body.length) 0
          response := none, request := none, reqFree := true } })) ∧
  ∀ s, ∀ bit : Nat → Bool, (bit = fun n => (statusByte s).getLsbD n) →
    bit 7 = s.ctl.ready ∧ bit 6 = s.ctl.reqFree ∧ bit 5 = s.ctl.response.isSome ∧ bit 4 = s.ctl.urgFree ∧
    (bit 3 = true ↔ ∃ i, s.ctl.attention.at i = true ∧ s.ctl.mask.at i = true) ∧ bit 2 = s.ctl.discard ∧
    (statusByte s).toNat % 4 =
      (match s.ctl.urgResult with | .ok => 0 | .range => 1 | .notArmed => 2 | .notReady => 3)

/-- WRITE_REQUEST and WRITE_URGENT: a write that does not fit is discarded with DISCARD set. An accepted request is checked
by the decoder and waits for its block, or is refused in its response: that it waits is the model's choice (log 1), that
it is checked as it arrives its reading (log 28). An accepted urgent request is taken at once, has its result in
URG_RESULT and leaves the slot free; any other body is complete with RANGE. A body of one byte has no tag, and the tag of
its response is free (log 14). That zero is clocked out also in bytes the length byte does not count is the model's choice
(log 35). -/
def Obligations.WritesAreAcceptedOrDiscarded : Prop :=
  (∀ s clocked, ∀ v, v = { s with ctl := { s.ctl with out := statusByte s :: List.replicate clocked.length 0 } } →
    ∀ fits : List Byte → Prop, (∀ body, fits body ↔
      (1 ≤ body.length ∧ body.length ≤ 64 ∧ clocked = byte body.length :: body)) →
    ((s.ctl.reqFree = false ∨ ∀ body, ¬fits body) →
      Becomes (.writeRequest clocked) s { v with ctl := { v.ctl with discard := true } }) ∧
    ∀ body, s.ctl.reqFree = true → fits body →
      (∀ i k, decodeBody .ctl body = some i → body.head?.bind ReqKind.ofCode? = some k →
        controlGate s k (codesOk i) = .pass →
        Becomes (.writeRequest clocked) s
          { v with ctl := { v.ctl with request := some ⟨body, true⟩, reqFree := false, discard := false } }) ∧
      (∀ typ tag ps code, body = typ :: tag :: ps →
        ((decodeBody .ctl body = none ∧ code = Result.range) ∨
          ∃ i k, decodeBody .ctl body = some i ∧ ReqKind.ofCode? typ = some k ∧
            controlGate s k (codesOk i) = .refuse code) →
        Becomes (.writeRequest clocked) s
          { v with ctl := { v.ctl with
            request := some ⟨body, false⟩, reqFree := false, discard := false
            response := some (replyBody typ tag code []) } }) ∧
      ∀ typ, body = [typ] →
        Becomes (.writeRequest clocked) s
          { v with
            ctl := { v.ctl with
              request := some ⟨body, false⟩, reqFree := false, discard := false
              response := some (replyBody typ (Config.missingTag s.free) .range []) }
            free := s.free + 1 }) ∧
  ∀ s clocked, ∀ v, v = { s with ctl := { s.ctl with out := statusByte s :: List.replicate clocked.length 0 } } →
    ∀ fits : List Byte → Prop, (∀ body, fits body ↔
      (1 ≤ body.length ∧ body.length ≤ 8 ∧ clocked = byte body.length :: body)) →
    ((s.ctl.urgFree = false ∨ ∀ body, ¬fits body) →
      Becomes (.writeUrgent clocked) s { v with ctl := { v.ctl with discard := true } }) ∧
    ∀ body, s.ctl.urgFree = true → fits body →
      ((body = [0x4C] ∨ ∃ g, body = [0x4D, g]) → ∃ t r,
        exec (.writeUrgent clocked) s = .next t ∧
        t.ctl = { v.ctl with
          discard := false, urgent := none, urgFree := true, urgResult := r
          response := t.ctl.response, attention := t.ctl.attention } ∧
        (s.ctl.ready = false → r = .notReady) ∧
        (s.ctl.ready = true → body = [0x4C] → r = .ok) ∧
        ∀ g : Byte, s.ctl.ready = true → body = [0x4D, g] →
          (¬g.toNat < 4 → r = .range) ∧
          ∀ h : g.toNat < 4, ((s.guard ⟨g.toNat, h⟩).state = .disabled → r = .notArmed) ∧
            ((s.guard ⟨g.toNat, h⟩).state ≠ .disabled → r = .ok)) ∧
      (body ≠ [0x4C] → (∀ g, body ≠ [0x4D, g]) →
        Becomes (.writeUrgent clocked) s
          { v with ctl := { v.ctl with urgent := none, urgFree := true, discard := false, urgResult := .range } })

/-- SET TIMING puts the four values in force if every one is in its range and is refused RANGE otherwise; READ ATTENTION
answers the attention set and empties it; SET ATTENTION MASK replaces the enables of the nine causes, whatever stands in
the mask's other bits (that those are not read is the model's choice, log 18). From a panel, and before READY, each is
refused and changes nothing. -/
def Obligations.TimingAndAttention : Prop :=
  (∀ s tag (r : FrameRate) threshold limit timeout, s.ctl.ready = true → ∀ i,
    i = Instr.setTiming .ctl tag (match r with | .r25 => 0 | .r2997 => 1 | .r50 => 2 | .r5994 => 3)
      threshold limit timeout → ∀ good : Prop,
    (good ↔ (100 ≤ threshold ∧ threshold ≤ 1000 ∧ limit ≤ 120 ∧ 100 ≤ timeout ∧ timeout ≤ 2000)) →
      (good → Answers i s { s with timing := ⟨r, threshold, limit, timeout⟩ } .ctl .setTiming tag .ok []) ∧
      (¬good → Answers i s s .ctl .setTiming tag .range [])) ∧
  (∀ s tag rate threshold limit timeout, s.ctl.ready = true → ¬rate < 4 →
    Answers (.setTiming .ctl tag rate threshold limit timeout) s s .ctl .setTiming tag .range []) ∧
  (∀ rate threshold limit timeout,
    OnlyFromControl .setTiming fun o tag => .setTiming o tag rate threshold limit timeout) ∧
  (∀ s tag, s.ctl.ready = true → ∃ hi lo : Byte,
    Answers (.readAttention .ctl tag) s { s with ctl := { s.ctl with attention := tabOf fun _ => false } }
      .ctl .readAttention tag .ok [hi, lo] ∧
    ∀ i : Fin 9, s.ctl.attention.at i = (hi.toNat * 256 + lo.toNat).testBit i.1) ∧
  OnlyFromControl .readAttention .readAttention ∧
  (∀ s tag mask, s.ctl.ready = true →
    Answers (.setAttentionMask .ctl tag mask) s
      { s with ctl := { s.ctl with mask := tabOf fun i => mask.testBit i.1 } } .ctl .setAttentionMask tag .ok []) ∧
  ∀ mask, OnlyFromControl .setAttentionMask fun o tag => .setAttentionMask o tag mask

/-! ### The starts (R23, R24, R180, R187 to R189 and the start rules of each chapter) -/

/-- RESTART, in every block: what it clears, what it keeps (the signal lines with their modes, latches and samples
included), and when its response comes, the engine standing BUSY while a word finishes (log 21). Every guard is read
against its line afresh: what was ARMED or DEBOUNCING is ARMED or, on a matching line, in a new debounce wait; what was TRIPPED or
RECOVERING is TRIPPED or, in AUTO on a clear line, in a new recovery. -/
def Obligations.RestartClearsSessionsAndKeepsRoutes : Prop :=
  ((∀ s tag, s.ctl.ready = true → ∃ u,
     (s.store.engine.inFlight = none → Answers (.restart .ctl tag) s u .ctl .restart tag .ok []) ∧
     (s.store.engine.inFlight.isSome = true → AnswersLater (.restart .ctl tag) s u .restart tag) ∧
     (∀ d, u.entry d = { s.entry d with
         staged := (u.entry d).staged, interrupters := [], confirmation := (u.entry d).confirmation } ∧
       (∀ x g, (s.entry d).staged = some (.guarded x g) → (u.entry d).staged = (s.entry d).staged) ∧
       ((∀ x g, (s.entry d).staged ≠ some (.guarded x g)) → (u.entry d).staged = none) ∧
       (∀ n, (s.entry d).confirmation = some (.awaiting n) →
         (u.entry d).confirmation = some (.awaiting (Config.twoPeriods s.timing.rate))) ∧
       ((∀ n, (s.entry d).confirmation ≠ some (.awaiting n)) → (u.entry d).confirmation = (s.entry d).confirmation) ∧
       (u.take.dirty.at d = true ↔ (s.take.dirty.at d = true ∨ (s.entry d).interrupters ≠ []))) ∧
     u.salvos = [] ∧ { u.take with dirty := s.take.dirty } = s.take ∧
     (∀ k, u.key k = { s.key k with state := .idle }) ∧
     (∀ p y, u.holdCount p y = 0 ∧ u.crosspoint p y = false) ∧ u.talk.sendList = [] ∧ u.talk.talkWord = 0x8000 ∧
     u.talk.mics = s.talk.mics ∧ u.talk.parties = s.talk.parties ∧
     (∀ c, (u.channel c).mapped = (s.channel c).mapped ∧ (u.channel c).calls = 0) ∧
     { u.tally with channels := s.tally.channels, fresh := s.tally.fresh } = s.tally ∧
     (u.tally.fresh = true ↔ (s.tally.switcher = none ∧ s.tally.fresh = true)) ∧
     (∀ p, u.link p = { Link.start with
       sending := (s.link p).sending.map fun x => { x with freesHeld := false } }) ∧
     u.ctl = { s.ctl with
       request := none, reqFree := false, response := none, urgent := none, urgFree := true, discard := false
       attention := tabOf fun _ => false, startCause := .restart, preserved := true } ∧
     (∀ l, (∀ sample, s.line l = .input sample → u.line l = .input sample) ∧
       ∀ mode latch on, s.line l = .output mode latch on → ∃ on', u.line l = .output mode latch on') ∧
     u.store = { s.store with engine := u.store.engine, queue := [], permit := false } ∧
     (s.store.engine.inFlight = none → u.store.engine = .idle) ∧
     (∀ w, s.store.engine.inFlight = some w → u.store.engine = .busy (.drain w tag) none) ∧
     u.timing = s.timing ∧ u.defs = s.defs ∧ u.lines.pins = s.lines.pins ∧ recompute u = u ∧ driveLines u = u) ∧
   OnlyFromControl .restart .restart) ∧
  (∀ s tag t, s.ctl.ready = true → exec (.restart .ctl tag) s = .next t →
     ∀ g x stands, x = s.guard g → (stands ↔ s.line x.defn.line = .input x.defn.high) →
       (t.guard g).defn = x.defn ∧
       (x.state = .disabled → (t.guard g).state = .disabled) ∧
       ((x.state = .armed ∨ ∃ n, x.state = .debouncing n) →
         (stands → (t.guard g).state = .debouncing (x.defn.debounce * 1000)) ∧
         (¬stands → (t.guard g).state = .armed)) ∧
       ∀ r, (x.state = .tripped r ∨ ∃ n, x.state = .recovering n r) →
         ((x.defn.auto = true ∧ ¬stands) → (t.guard g).state = .recovering (x.defn.debounce * 1000) r) ∧
         (¬(x.defn.auto = true ∧ ¬stands) → (t.guard g).state = .tripped r))

/-- POWER_ON and LINE_RESET leave every record at its start value, whatever stood before, but for the store memory, the
levels outside and the queue of commands; a word write cut off lands or is lost. That every configuration record and the
frame timer stand at the factory values until the load ends is the model's choice (log 8), as is that the levels and the
queue are outside the start (logs 2, 6), what the records of outputs hold before anything is sent (log 7), and that no
take event has yet been timed (log 10). -/
def Obligations.StartsLeaveTheStartValues : Prop :=
  ∀ s c cause, (c = Instr.powerOn ∧ cause = StartCause.power ∨ c = .lineReset ∧ cause = .line) →
    ∃ t, exec c s = .next t ∧
      (s.store.engine.inFlight = none → t.store.mem = s.store.mem) ∧
      (∀ w, s.store.engine.inFlight = some w →
        t.store.mem = s.store.mem ∨ t.store.mem = memWrite s.store.mem w.1 w.2) ∧
      t.pending = s.pending ∧ t.lines.pins = s.lines.pins ∧
      t.timing = ⟨.r50, 350, 15, 500⟩ ∧
      (∀ d, t.defs.at d = ⟨.plain, ⟨d.1, by omega⟩⟩ ∧ t.take.dirty.at d = true ∧
        t.entry d = ⟨⟨d.1, by omega⟩, none, none, none, [], none, none, none⟩) ∧
      t.salvos = [] ∧
      t.take = { t.take with
        reference := .lost, missed := 0, frameTimer := 20000, sinceTake := none, burst := none, feedWord := none } ∧
      t.tally = { t.tally with
        switcher := none, programSource := none, fresh := true, flashLit := true, flashTimer := 250000 } ∧
      (∀ w, t.tally.program.at w = false ∧ t.tally.preview.at w = false) ∧
      (∀ ch, t.channel ch = ⟨none, .off, .off, .off, 0⟩) ∧
      (∀ p, t.talk.mics.at p = none) ∧ (∀ y, t.talk.parties.at y = none) ∧
      (∀ k, t.key k = ⟨none, .idle⟩) ∧ (∀ p y, t.holdCount p y = 0 ∧ t.crosspoint p y = false) ∧
      t.talk.sendList = [] ∧ t.talk.talkWord = 0x8000 ∧
      (∀ g, t.guard g = ⟨⟨0, true, 1, false, [], tabOf fun _ => none, false⟩, .disabled⟩) ∧
      (∀ l, t.line l = .input (s.lines.pins.at l)) ∧
      (∀ p, t.link p = ⟨.down, [], none, none, ⟨false, false, false⟩, [], none, [], none, none, none⟩) ∧
      t.ctl = { t.ctl with
        ready := false, request := none, reqFree := true, response := none, urgent := none, urgFree := true
        discard := false, urgResult := .ok, startCause := cause, preserved := false, out := [] } ∧
      (∀ i, t.ctl.attention.at i = false ∧ t.ctl.mask.at i = true) ∧ statusByte t = 0x50 ∧
      t.store = { t.store with
        engine := .loading, queue := [], permit := false, latch := false, port := [.writeDisable, .read 0 321] }

/-- LOAD_COMPLETE: the stored configuration, or with CONFIG_DEFAULTED the factory one, is in force, with every current
source at its home source, the lamps and lines computed, the guards that are armed at start in watch, and READY set. The
store memory holds a configuration exactly when its words 0 to 320 are laid out for it by table 12.6, sum to zero, and
pass the ranges and the cross-checks. That a word with a bit set which its layout does not name is no such word is the
model's reading (log 17); that the running frame period keeps its length with the reference monitor OK is its choice
(log 32). -/
def Obligations.LoadPutsTheConfigurationInForce : Prop :=
  (∀ s c, s.store.engine = .loading → QuietUntilReady s →
    (storedConfig s.store.mem = some c ∨ storedConfig s.store.mem = none ∧ c = Loaded.factory) → ∃ u,
    Becomes .loadComplete s u ∧
    u.timing = c.timing ∧ u.defs = c.defs ∧
    (∀ d, u.entry d = { s.entry d with current := (c.defs.at d).home } ∧ u.take.dirty.at d = true) ∧
    (∀ ch, (u.channel ch).mapped = c.mapped.at ch) ∧ u.tally.switcher = c.switcher ∧
    u.tally.programSource = c.programSource ∧ u.talk.mics = c.mics ∧ u.talk.parties = c.parties ∧
    (∀ k, (u.key k).defn = c.keys.at k) ∧
    (∀ g, (u.guard g).defn = c.guards.at g ∧
      ((c.guards.at g).armedAtStart = false → (u.guard g).state = .disabled)) ∧
    (∀ g sample, (c.guards.at g).armedAtStart = true → u.line (c.guards.at g).line = .input sample →
      (c.guards.at g).fallback ≠ [] →
      (u.guard g).state =
        if sample = (c.guards.at g).high then .debouncing ((c.guards.at g).debounce * 1000) else .armed) ∧
    (∀ l, (∀ sample, c.lines.at l = none → s.line l = .input sample → u.line l = .input sample) ∧
      ∀ m latch, c.lines.at l = some (m, latch) → ∃ on, u.line l = .output m latch on) ∧
    (s.take.reference = .lost → u.take.frameTimer = Config.nominalPeriod c.timing.rate) ∧
    (s.take.reference = .ok → u.take.frameTimer = s.take.frameTimer) ∧
    (u.ctl.attention.at 8 = true ↔ (storedConfig s.store.mem = none ∨ s.ctl.attention.at 8 = true)) ∧
    u.ctl.ready = true ∧ u.store.engine = .idle ∧ u.store.queue = [] ∧ u.store.permit = false ∧
    recompute u = u ∧ driveLines u = u) ∧
  (Loaded.factory.timing = ⟨.r50, 350, 15, 500⟩ ∧ Loaded.factory.switcher = none ∧
    Loaded.factory.programSource = none ∧
    (∀ d, Loaded.factory.defs.at d = ⟨.plain, ⟨d.1, by omega⟩⟩) ∧ (∀ ch, Loaded.factory.mapped.at ch = none) ∧
    (∀ p, Loaded.factory.mics.at p = none) ∧ (∀ y, Loaded.factory.parties.at y = none) ∧
    (∀ k, Loaded.factory.keys.at k = none) ∧ (∀ l, Loaded.factory.lines.at l = none) ∧
    ∀ g, Loaded.factory.guards.at g = ⟨0, true, 1, false, [], tabOf fun _ => none, false⟩) ∧
  ∀ m c, storedConfig m = some c ↔ (StoredWords (fun a => (memRead m a).toNat) c ∧ LawfulConfig c)

/-! ### Notices and bytes (R168, R190, R192) -/

/-- Every change of a notice-visible part is marked: on every link that is UP or QUIESCING after the command and
subscribes to the record's class, a record whose visible parts differ stands in the change set, or its notice has just
begun. Nothing else is marked, but by the panel's own SUBSCRIBE. -/
def Obligations.EveryVisibleChangeIsMarked : Prop :=
  (∀ c s t p r, exec c s = .next t → (∀ tag classes, c ≠ .subscribe (.panel p) tag classes) →
    r ∈ (t.link p).changes → r ∉ (s.link p).changes →
    VisiblyChanged s t p r ∧ (t.link p).subs.covers r = true ∧ (t.link p).state.session = true) ∧
  ∀ c s t p, exec c s = .next t → (t.link p).state.session = true →
    ∀ owed : Ref → Prop, (∀ r, owed r ↔
      (r ∈ (t.link p).changes ∨ (t.link p).sending = some ⟨frame (noticeBody t p r), false⟩)) →
    ((t.link p).subs.routes = true → ∀ d, routeView s d ≠ routeView t d → owed (.route d)) ∧
    ((t.link p).subs.tally = true → ∀ ch, lampView s ch ≠ lampView t ch → owed (.tally ch)) ∧
    ((t.link p).subs.keys = true → ∀ i : Fin 16,
      (s.key (keyOf p i)).state.code ≠ (t.key (keyOf p i)).state.code → owed (.key i))

/-- Every well-formed request survives its bytes: decoding what it is encoded as gives it back, every operand at every
value, and its body fits its link. -/
def Obligations.RequestsSurviveTheirBytes : Prop :=
  (∀ c k o tag body, c.wellFormed = true → requestHead c = some (k, o, tag) → encodeBody c = some body →
    decodeBody o body = some c ∧ 2 ≤ body.length ∧ body.length ≤ o.maxBody ∧ body.head? = some k.code) ∧
  decodeUrgent [0x4C] = some .allTalkOff ∧ ∀ g, g < 256 → decodeUrgent [0x4D, byte g] = some (.tripGuard g)

/-! ### Laws that every step keeps -/

/-- Right after POWER every law holds. -/
def Obligations.ResetMeetsEveryLaw : Prop :=
  QuietUntilReady State.reset ∧ OutputsFollow State.reset ∧ NeverRedAndGreen State.reset ∧
  HoldCountsExact State.reset ∧ InterruptersExact State.reset ∧ KeysWellDefined State.reset ∧
  HoldsMatchGuards State.reset ∧ SalvosLawful State.reset ∧ StagedIsDirty State.reset ∧
  SessionsWatched State.reset ∧ TalkOnlyInSession State.reset ∧ ChangeSetsLawful State.reset ∧
  IdleHasNothingToSend State.reset ∧ MemoryCanonical State.reset ∧ StoreLawful State.reset ∧
  WithinCapacity State.reset ∧ ConfirmationsLawful State.reset ∧ CallCountsExact State.reset ∧
  LocksLawful State.reset ∧ UrgentSlotFree State.reset

/-- Until READY nothing is in session, pressed, armed, staged, locked, held or queued, and READY stands clear exactly
while the store engine is LOADING. -/
def Obligations.NothingRunsBeforeReady : Prop :=
  ∀ s t, QuietUntilReady s → step s = .next t → QuietUntilReady t

/-- Every lamp and driven line always is what the rules compute from the present inputs, so no channel shows red and green
together. -/
def Obligations.OutputsAlwaysFollow : Prop :=
  (∀ s t, OutputsFollow s → step s = .next t → OutputsFollow t) ∧ ∀ s, OutputsFollow s → NeverRedAndGreen s

/-- Every hold count is exact with its crosspoint, every call count counts the talking call keys of its channel, every
interrupter list holds exactly the talking keys of its destination, and every key's definition is good. -/
def Obligations.TalkCountsStayExact : Prop :=
  ∀ s t, QuietUntilReady s → HoldCountsExact s → CallCountsExact s → InterruptersExact s → KeysWellDefined s →
    step s = .next t → HoldCountsExact t ∧ CallCountsExact t ∧ InterruptersExact t ∧ KeysWellDefined t

/-- Holds match their guards, salvos staged and queued keep their names, every queued one names a held destination, every
staged change is dirty and permitted by its destination's lock; a staged salvo keeps every one of its destinations or
leaves them all in one step, applied whole or not at all (R28); and a locked destination's current source changes only to
the source of a staged change that its lock permits (R11). -/
def Obligations.GuardsAndSalvosStayLawful : Prop :=
  ∀ s t, QuietUntilReady s → HoldsMatchGuards s → SalvosLawful s → StagedIsDirty s → LocksLawful s →
    step s = .next t →
    HoldsMatchGuards t ∧ SalvosLawful t ∧ StagedIsDirty t ∧ LocksLawful t ∧ SalvosStayWhole s t ∧
      LockedSourcesHold s t

/-- A link is watched exactly in session and otherwise has no subscriptions, a key talks only in session, change sets hold
subscribed references once, and an idle transmitter has nothing to send. -/
def Obligations.LinkRecordsStayLawful : Prop :=
  ∀ s t, SessionsWatched s → TalkOnlyInSession s → ChangeSetsLawful s → IdleHasNothingToSend s → step s = .next t →
    SessionsWatched t ∧ TalkOnlyInSession t ∧ ChangeSetsLawful t ∧ IdleHasNothingToSend t

/-- The store memory keeps its canonical form, the write-enable latch is set exactly within a write sequence, an IDLE or
LOADING engine has nothing queued, queues and lists stay within their capacities, every confirmation state agrees with its
sources, and no urgent request waits: that the urgent slot stands free between commands is the model's reading (log 20).
Taken with the law that nothing is in session before READY, which NothingRunsBeforeReady shows every step keeps. -/
def Obligations.StoresQueuesAndConfirmationsStayLawful : Prop :=
  ∀ s t, QuietUntilReady s → MemoryCanonical s → StoreLawful s → WithinCapacity s → ConfirmationsLawful s →
    UrgentSlotFree s → step s = .next t →
    MemoryCanonical t ∧ StoreLawful t ∧ WithinCapacity t ∧ ConfirmationsLawful t ∧ UrgentSlotFree t
end

