-- ==== Sys2Proof/Laws/State.lean ====
section
/-! SUPPORT. One lemma per field per update of State, and reading a record back after an update. -/

namespace Sys2Proof.Machine

/-! ### setEntry -/

@[simp] theorem setEntry_timing (s : State) (d : Dst) (e : Entry) :
    (s.setEntry d e).timing = s.timing := rfl
@[simp] theorem setEntry_defs (s : State) (d : Dst) (e : Entry) :
    (s.setEntry d e).defs = s.defs := rfl
@[simp] theorem setEntry_routes (s : State) (d : Dst) (e : Entry) :
    (s.setEntry d e).routes = s.routes.put d e := rfl
@[simp] theorem setEntry_salvos (s : State) (d : Dst) (e : Entry) :
    (s.setEntry d e).salvos = s.salvos := rfl
@[simp] theorem setEntry_take (s : State) (d : Dst) (e : Entry) :
    (s.setEntry d e).take = s.take := rfl
@[simp] theorem setEntry_tally (s : State) (d : Dst) (e : Entry) :
    (s.setEntry d e).tally = s.tally := rfl
@[simp] theorem setEntry_talk (s : State) (d : Dst) (e : Entry) :
    (s.setEntry d e).talk = s.talk := rfl
@[simp] theorem setEntry_guards (s : State) (d : Dst) (e : Entry) :
    (s.setEntry d e).guards = s.guards := rfl
@[simp] theorem setEntry_lines (s : State) (d : Dst) (e : Entry) :
    (s.setEntry d e).lines = s.lines := rfl
@[simp] theorem setEntry_links (s : State) (d : Dst) (e : Entry) :
    (s.setEntry d e).links = s.links := rfl
@[simp] theorem setEntry_ctl (s : State) (d : Dst) (e : Entry) :
    (s.setEntry d e).ctl = s.ctl := rfl
@[simp] theorem setEntry_store (s : State) (d : Dst) (e : Entry) :
    (s.setEntry d e).store = s.store := rfl
@[simp] theorem setEntry_free (s : State) (d : Dst) (e : Entry) :
    (s.setEntry d e).free = s.free := rfl
@[simp] theorem setEntry_pending (s : State) (d : Dst) (e : Entry) :
    (s.setEntry d e).pending = s.pending := rfl

/-! ### setLink -/

@[simp] theorem setLink_timing (s : State) (p : Pnl) (l : Link) :
    (s.setLink p l).timing = s.timing := rfl
@[simp] theorem setLink_defs (s : State) (p : Pnl) (l : Link) :
    (s.setLink p l).defs = s.defs := rfl
@[simp] theorem setLink_routes (s : State) (p : Pnl) (l : Link) :
    (s.setLink p l).routes = s.routes := rfl
@[simp] theorem setLink_salvos (s : State) (p : Pnl) (l : Link) :
    (s.setLink p l).salvos = s.salvos := rfl
@[simp] theorem setLink_take (s : State) (p : Pnl) (l : Link) :
    (s.setLink p l).take = s.take := rfl
@[simp] theorem setLink_tally (s : State) (p : Pnl) (l : Link) :
    (s.setLink p l).tally = s.tally := rfl
@[simp] theorem setLink_talk (s : State) (p : Pnl) (l : Link) :
    (s.setLink p l).talk = s.talk := rfl
@[simp] theorem setLink_guards (s : State) (p : Pnl) (l : Link) :
    (s.setLink p l).guards = s.guards := rfl
@[simp] theorem setLink_lines (s : State) (p : Pnl) (l : Link) :
    (s.setLink p l).lines = s.lines := rfl
@[simp] theorem setLink_links (s : State) (p : Pnl) (l : Link) :
    (s.setLink p l).links = s.links.put p l := rfl
@[simp] theorem setLink_ctl (s : State) (p : Pnl) (l : Link) :
    (s.setLink p l).ctl = s.ctl := rfl
@[simp] theorem setLink_store (s : State) (p : Pnl) (l : Link) :
    (s.setLink p l).store = s.store := rfl
@[simp] theorem setLink_free (s : State) (p : Pnl) (l : Link) :
    (s.setLink p l).free = s.free := rfl
@[simp] theorem setLink_pending (s : State) (p : Pnl) (l : Link) :
    (s.setLink p l).pending = s.pending := rfl

/-! ### setKey -/

@[simp] theorem setKey_timing (s : State) (k : KeyId) (x : Key) :
    (s.setKey k x).timing = s.timing := rfl
@[simp] theorem setKey_defs (s : State) (k : KeyId) (x : Key) :
    (s.setKey k x).defs = s.defs := rfl
@[simp] theorem setKey_routes (s : State) (k : KeyId) (x : Key) :
    (s.setKey k x).routes = s.routes := rfl
@[simp] theorem setKey_salvos (s : State) (k : KeyId) (x : Key) :
    (s.setKey k x).salvos = s.salvos := rfl
@[simp] theorem setKey_take (s : State) (k : KeyId) (x : Key) :
    (s.setKey k x).take = s.take := rfl
@[simp] theorem setKey_tally (s : State) (k : KeyId) (x : Key) :
    (s.setKey k x).tally = s.tally := rfl
@[simp] theorem setKey_talk (s : State) (k : KeyId) (x : Key) :
    (s.setKey k x).talk = { s.talk with keys := s.talk.keys.put k x } := rfl
@[simp] theorem setKey_guards (s : State) (k : KeyId) (x : Key) :
    (s.setKey k x).guards = s.guards := rfl
@[simp] theorem setKey_lines (s : State) (k : KeyId) (x : Key) :
    (s.setKey k x).lines = s.lines := rfl
@[simp] theorem setKey_links (s : State) (k : KeyId) (x : Key) :
    (s.setKey k x).links = s.links := rfl
@[simp] theorem setKey_ctl (s : State) (k : KeyId) (x : Key) :
    (s.setKey k x).ctl = s.ctl := rfl
@[simp] theorem setKey_store (s : State) (k : KeyId) (x : Key) :
    (s.setKey k x).store = s.store := rfl
@[simp] theorem setKey_free (s : State) (k : KeyId) (x : Key) :
    (s.setKey k x).free = s.free := rfl
@[simp] theorem setKey_pending (s : State) (k : KeyId) (x : Key) :
    (s.setKey k x).pending = s.pending := rfl

/-! ### setGuard -/

@[simp] theorem setGuard_timing (s : State) (g : Gid) (x : Guard) :
    (s.setGuard g x).timing = s.timing := rfl
@[simp] theorem setGuard_defs (s : State) (g : Gid) (x : Guard) :
    (s.setGuard g x).defs = s.defs := rfl
@[simp] theorem setGuard_routes (s : State) (g : Gid) (x : Guard) :
    (s.setGuard g x).routes = s.routes := rfl
@[simp] theorem setGuard_salvos (s : State) (g : Gid) (x : Guard) :
    (s.setGuard g x).salvos = s.salvos := rfl
@[simp] theorem setGuard_take (s : State) (g : Gid) (x : Guard) :
    (s.setGuard g x).take = s.take := rfl
@[simp] theorem setGuard_tally (s : State) (g : Gid) (x : Guard) :
    (s.setGuard g x).tally = s.tally := rfl
@[simp] theorem setGuard_talk (s : State) (g : Gid) (x : Guard) :
    (s.setGuard g x).talk = s.talk := rfl
@[simp] theorem setGuard_guards (s : State) (g : Gid) (x : Guard) :
    (s.setGuard g x).guards = s.guards.put g x := rfl
@[simp] theorem setGuard_lines (s : State) (g : Gid) (x : Guard) :
    (s.setGuard g x).lines = s.lines := rfl
@[simp] theorem setGuard_links (s : State) (g : Gid) (x : Guard) :
    (s.setGuard g x).links = s.links := rfl
@[simp] theorem setGuard_ctl (s : State) (g : Gid) (x : Guard) :
    (s.setGuard g x).ctl = s.ctl := rfl
@[simp] theorem setGuard_store (s : State) (g : Gid) (x : Guard) :
    (s.setGuard g x).store = s.store := rfl
@[simp] theorem setGuard_free (s : State) (g : Gid) (x : Guard) :
    (s.setGuard g x).free = s.free := rfl
@[simp] theorem setGuard_pending (s : State) (g : Gid) (x : Guard) :
    (s.setGuard g x).pending = s.pending := rfl

/-! ### setChannel -/

@[simp] theorem setChannel_timing (s : State) (c : Chn) (x : Channel) :
    (s.setChannel c x).timing = s.timing := rfl
@[simp] theorem setChannel_defs (s : State) (c : Chn) (x : Channel) :
    (s.setChannel c x).defs = s.defs := rfl
@[simp] theorem setChannel_routes (s : State) (c : Chn) (x : Channel) :
    (s.setChannel c x).routes = s.routes := rfl
@[simp] theorem setChannel_salvos (s : State) (c : Chn) (x : Channel) :
    (s.setChannel c x).salvos = s.salvos := rfl
@[simp] theorem setChannel_take (s : State) (c : Chn) (x : Channel) :
    (s.setChannel c x).take = s.take := rfl
@[simp] theorem setChannel_tally (s : State) (c : Chn) (x : Channel) :
    (s.setChannel c x).tally = { s.tally with channels := s.tally.channels.put c x } := rfl
@[simp] theorem setChannel_talk (s : State) (c : Chn) (x : Channel) :
    (s.setChannel c x).talk = s.talk := rfl
@[simp] theorem setChannel_guards (s : State) (c : Chn) (x : Channel) :
    (s.setChannel c x).guards = s.guards := rfl
@[simp] theorem setChannel_lines (s : State) (c : Chn) (x : Channel) :
    (s.setChannel c x).lines = s.lines := rfl
@[simp] theorem setChannel_links (s : State) (c : Chn) (x : Channel) :
    (s.setChannel c x).links = s.links := rfl
@[simp] theorem setChannel_ctl (s : State) (c : Chn) (x : Channel) :
    (s.setChannel c x).ctl = s.ctl := rfl
@[simp] theorem setChannel_store (s : State) (c : Chn) (x : Channel) :
    (s.setChannel c x).store = s.store := rfl
@[simp] theorem setChannel_free (s : State) (c : Chn) (x : Channel) :
    (s.setChannel c x).free = s.free := rfl
@[simp] theorem setChannel_pending (s : State) (c : Chn) (x : Channel) :
    (s.setChannel c x).pending = s.pending := rfl

/-! ### setLine -/

@[simp] theorem setLine_timing (s : State) (l : Lid) (x : Line) :
    (s.setLine l x).timing = s.timing := rfl
@[simp] theorem setLine_defs (s : State) (l : Lid) (x : Line) :
    (s.setLine l x).defs = s.defs := rfl
@[simp] theorem setLine_routes (s : State) (l : Lid) (x : Line) :
    (s.setLine l x).routes = s.routes := rfl
@[simp] theorem setLine_salvos (s : State) (l : Lid) (x : Line) :
    (s.setLine l x).salvos = s.salvos := rfl
@[simp] theorem setLine_take (s : State) (l : Lid) (x : Line) :
    (s.setLine l x).take = s.take := rfl
@[simp] theorem setLine_tally (s : State) (l : Lid) (x : Line) :
    (s.setLine l x).tally = s.tally := rfl
@[simp] theorem setLine_talk (s : State) (l : Lid) (x : Line) :
    (s.setLine l x).talk = s.talk := rfl
@[simp] theorem setLine_guards (s : State) (l : Lid) (x : Line) :
    (s.setLine l x).guards = s.guards := rfl
@[simp] theorem setLine_lines (s : State) (l : Lid) (x : Line) :
    (s.setLine l x).lines = { s.lines with recs := s.lines.recs.put l x } := rfl
@[simp] theorem setLine_links (s : State) (l : Lid) (x : Line) :
    (s.setLine l x).links = s.links := rfl
@[simp] theorem setLine_ctl (s : State) (l : Lid) (x : Line) :
    (s.setLine l x).ctl = s.ctl := rfl
@[simp] theorem setLine_store (s : State) (l : Lid) (x : Line) :
    (s.setLine l x).store = s.store := rfl
@[simp] theorem setLine_free (s : State) (l : Lid) (x : Line) :
    (s.setLine l x).free = s.free := rfl
@[simp] theorem setLine_pending (s : State) (l : Lid) (x : Line) :
    (s.setLine l x).pending = s.pending := rfl

/-! ### setHold -/

@[simp] theorem setHold_timing (s : State) (p : Pnl) (y : Pty) (n : Nat) :
    (s.setHold p y n).timing = s.timing := rfl
@[simp] theorem setHold_defs (s : State) (p : Pnl) (y : Pty) (n : Nat) :
    (s.setHold p y n).defs = s.defs := rfl
@[simp] theorem setHold_routes (s : State) (p : Pnl) (y : Pty) (n : Nat) :
    (s.setHold p y n).routes = s.routes := rfl
@[simp] theorem setHold_salvos (s : State) (p : Pnl) (y : Pty) (n : Nat) :
    (s.setHold p y n).salvos = s.salvos := rfl
@[simp] theorem setHold_take (s : State) (p : Pnl) (y : Pty) (n : Nat) :
    (s.setHold p y n).take = s.take := rfl
@[simp] theorem setHold_tally (s : State) (p : Pnl) (y : Pty) (n : Nat) :
    (s.setHold p y n).tally = s.tally := rfl
@[simp] theorem setHold_talk (s : State) (p : Pnl) (y : Pty) (n : Nat) :
    (s.setHold p y n).talk = { s.talk with holds := s.talk.holds.put p ((s.talk.holds.at p).put y n) } := rfl
@[simp] theorem setHold_guards (s : State) (p : Pnl) (y : Pty) (n : Nat) :
    (s.setHold p y n).guards = s.guards := rfl
@[simp] theorem setHold_lines (s : State) (p : Pnl) (y : Pty) (n : Nat) :
    (s.setHold p y n).lines = s.lines := rfl
@[simp] theorem setHold_links (s : State) (p : Pnl) (y : Pty) (n : Nat) :
    (s.setHold p y n).links = s.links := rfl
@[simp] theorem setHold_ctl (s : State) (p : Pnl) (y : Pty) (n : Nat) :
    (s.setHold p y n).ctl = s.ctl := rfl
@[simp] theorem setHold_store (s : State) (p : Pnl) (y : Pty) (n : Nat) :
    (s.setHold p y n).store = s.store := rfl
@[simp] theorem setHold_free (s : State) (p : Pnl) (y : Pty) (n : Nat) :
    (s.setHold p y n).free = s.free := rfl
@[simp] theorem setHold_pending (s : State) (p : Pnl) (y : Pty) (n : Nat) :
    (s.setHold p y n).pending = s.pending := rfl

/-! ### setCrosspoint -/

@[simp] theorem setCrosspoint_timing (s : State) (p : Pnl) (y : Pty) (b : Bool) :
    (s.setCrosspoint p y b).timing = s.timing := rfl
@[simp] theorem setCrosspoint_defs (s : State) (p : Pnl) (y : Pty) (b : Bool) :
    (s.setCrosspoint p y b).defs = s.defs := rfl
@[simp] theorem setCrosspoint_routes (s : State) (p : Pnl) (y : Pty) (b : Bool) :
    (s.setCrosspoint p y b).routes = s.routes := rfl
@[simp] theorem setCrosspoint_salvos (s : State) (p : Pnl) (y : Pty) (b : Bool) :
    (s.setCrosspoint p y b).salvos = s.salvos := rfl
@[simp] theorem setCrosspoint_take (s : State) (p : Pnl) (y : Pty) (b : Bool) :
    (s.setCrosspoint p y b).take = s.take := rfl
@[simp] theorem setCrosspoint_tally (s : State) (p : Pnl) (y : Pty) (b : Bool) :
    (s.setCrosspoint p y b).tally = s.tally := rfl
@[simp] theorem setCrosspoint_talk (s : State) (p : Pnl) (y : Pty) (b : Bool) :
    (s.setCrosspoint p y b).talk = { s.talk with closed := s.talk.closed.put p ((s.talk.closed.at p).put y b) } := rfl
@[simp] theorem setCrosspoint_guards (s : State) (p : Pnl) (y : Pty) (b : Bool) :
    (s.setCrosspoint p y b).guards = s.guards := rfl
@[simp] theorem setCrosspoint_lines (s : State) (p : Pnl) (y : Pty) (b : Bool) :
    (s.setCrosspoint p y b).lines = s.lines := rfl
@[simp] theorem setCrosspoint_links (s : State) (p : Pnl) (y : Pty) (b : Bool) :
    (s.setCrosspoint p y b).links = s.links := rfl
@[simp] theorem setCrosspoint_ctl (s : State) (p : Pnl) (y : Pty) (b : Bool) :
    (s.setCrosspoint p y b).ctl = s.ctl := rfl
@[simp] theorem setCrosspoint_store (s : State) (p : Pnl) (y : Pty) (b : Bool) :
    (s.setCrosspoint p y b).store = s.store := rfl
@[simp] theorem setCrosspoint_free (s : State) (p : Pnl) (y : Pty) (b : Bool) :
    (s.setCrosspoint p y b).free = s.free := rfl
@[simp] theorem setCrosspoint_pending (s : State) (p : Pnl) (y : Pty) (b : Bool) :
    (s.setCrosspoint p y b).pending = s.pending := rfl

/-! ### markDirty -/

@[simp] theorem markDirty_timing (s : State) (d : Dst) :
    (s.markDirty d).timing = s.timing := rfl
@[simp] theorem markDirty_defs (s : State) (d : Dst) :
    (s.markDirty d).defs = s.defs := rfl
@[simp] theorem markDirty_routes (s : State) (d : Dst) :
    (s.markDirty d).routes = s.routes := rfl
@[simp] theorem markDirty_salvos (s : State) (d : Dst) :
    (s.markDirty d).salvos = s.salvos := rfl
@[simp] theorem markDirty_take (s : State) (d : Dst) :
    (s.markDirty d).take = { s.take with dirty := s.take.dirty.put d true } := rfl
@[simp] theorem markDirty_tally (s : State) (d : Dst) :
    (s.markDirty d).tally = s.tally := rfl
@[simp] theorem markDirty_talk (s : State) (d : Dst) :
    (s.markDirty d).talk = s.talk := rfl
@[simp] theorem markDirty_guards (s : State) (d : Dst) :
    (s.markDirty d).guards = s.guards := rfl
@[simp] theorem markDirty_lines (s : State) (d : Dst) :
    (s.markDirty d).lines = s.lines := rfl
@[simp] theorem markDirty_links (s : State) (d : Dst) :
    (s.markDirty d).links = s.links := rfl
@[simp] theorem markDirty_ctl (s : State) (d : Dst) :
    (s.markDirty d).ctl = s.ctl := rfl
@[simp] theorem markDirty_store (s : State) (d : Dst) :
    (s.markDirty d).store = s.store := rfl
@[simp] theorem markDirty_free (s : State) (d : Dst) :
    (s.markDirty d).free = s.free := rfl
@[simp] theorem markDirty_pending (s : State) (d : Dst) :
    (s.markDirty d).pending = s.pending := rfl

/-! ### setEngine -/

@[simp] theorem setEngine_timing (s : State) (e : Engine) :
    (s.setEngine e).timing = s.timing := rfl
@[simp] theorem setEngine_defs (s : State) (e : Engine) :
    (s.setEngine e).defs = s.defs := rfl
@[simp] theorem setEngine_routes (s : State) (e : Engine) :
    (s.setEngine e).routes = s.routes := rfl
@[simp] theorem setEngine_salvos (s : State) (e : Engine) :
    (s.setEngine e).salvos = s.salvos := rfl
@[simp] theorem setEngine_take (s : State) (e : Engine) :
    (s.setEngine e).take = s.take := rfl
@[simp] theorem setEngine_tally (s : State) (e : Engine) :
    (s.setEngine e).tally = s.tally := rfl
@[simp] theorem setEngine_talk (s : State) (e : Engine) :
    (s.setEngine e).talk = s.talk := rfl
@[simp] theorem setEngine_guards (s : State) (e : Engine) :
    (s.setEngine e).guards = s.guards := rfl
@[simp] theorem setEngine_lines (s : State) (e : Engine) :
    (s.setEngine e).lines = s.lines := rfl
@[simp] theorem setEngine_links (s : State) (e : Engine) :
    (s.setEngine e).links = s.links := rfl
@[simp] theorem setEngine_ctl (s : State) (e : Engine) :
    (s.setEngine e).ctl = s.ctl := rfl
@[simp] theorem setEngine_store (s : State) (e : Engine) :
    (s.setEngine e).store = { s.store with engine := e } := rfl
@[simp] theorem setEngine_free (s : State) (e : Engine) :
    (s.setEngine e).free = s.free := rfl
@[simp] theorem setEngine_pending (s : State) (e : Engine) :
    (s.setEngine e).pending = s.pending := rfl

/-! ### setLatch -/

@[simp] theorem setLatch_timing (s : State) (b : Bool) :
    (s.setLatch b).timing = s.timing := rfl
@[simp] theorem setLatch_defs (s : State) (b : Bool) :
    (s.setLatch b).defs = s.defs := rfl
@[simp] theorem setLatch_routes (s : State) (b : Bool) :
    (s.setLatch b).routes = s.routes := rfl
@[simp] theorem setLatch_salvos (s : State) (b : Bool) :
    (s.setLatch b).salvos = s.salvos := rfl
@[simp] theorem setLatch_take (s : State) (b : Bool) :
    (s.setLatch b).take = s.take := rfl
@[simp] theorem setLatch_tally (s : State) (b : Bool) :
    (s.setLatch b).tally = s.tally := rfl
@[simp] theorem setLatch_talk (s : State) (b : Bool) :
    (s.setLatch b).talk = s.talk := rfl
@[simp] theorem setLatch_guards (s : State) (b : Bool) :
    (s.setLatch b).guards = s.guards := rfl
@[simp] theorem setLatch_lines (s : State) (b : Bool) :
    (s.setLatch b).lines = s.lines := rfl
@[simp] theorem setLatch_links (s : State) (b : Bool) :
    (s.setLatch b).links = s.links := rfl
@[simp] theorem setLatch_ctl (s : State) (b : Bool) :
    (s.setLatch b).ctl = s.ctl := rfl
@[simp] theorem setLatch_store (s : State) (b : Bool) :
    (s.setLatch b).store = { s.store with latch := b } := rfl
@[simp] theorem setLatch_free (s : State) (b : Bool) :
    (s.setLatch b).free = s.free := rfl
@[simp] theorem setLatch_pending (s : State) (b : Bool) :
    (s.setLatch b).pending = s.pending := rfl

/-! ### setGuardState -/

@[simp] theorem setGuardState_timing (s : State) (g : Gid) (x : GuardState) :
    (s.setGuardState g x).timing = s.timing := rfl
@[simp] theorem setGuardState_defs (s : State) (g : Gid) (x : GuardState) :
    (s.setGuardState g x).defs = s.defs := rfl
@[simp] theorem setGuardState_routes (s : State) (g : Gid) (x : GuardState) :
    (s.setGuardState g x).routes = s.routes := rfl
@[simp] theorem setGuardState_salvos (s : State) (g : Gid) (x : GuardState) :
    (s.setGuardState g x).salvos = s.salvos := rfl
@[simp] theorem setGuardState_take (s : State) (g : Gid) (x : GuardState) :
    (s.setGuardState g x).take = s.take := rfl
@[simp] theorem setGuardState_tally (s : State) (g : Gid) (x : GuardState) :
    (s.setGuardState g x).tally = s.tally := rfl
@[simp] theorem setGuardState_talk (s : State) (g : Gid) (x : GuardState) :
    (s.setGuardState g x).talk = s.talk := rfl
@[simp] theorem setGuardState_guards (s : State) (g : Gid) (x : GuardState) :
    (s.setGuardState g x).guards = s.guards.put g { s.guard g with state := x } := rfl
@[simp] theorem setGuardState_lines (s : State) (g : Gid) (x : GuardState) :
    (s.setGuardState g x).lines = s.lines := rfl
@[simp] theorem setGuardState_links (s : State) (g : Gid) (x : GuardState) :
    (s.setGuardState g x).links = s.links := rfl
@[simp] theorem setGuardState_ctl (s : State) (g : Gid) (x : GuardState) :
    (s.setGuardState g x).ctl = s.ctl := rfl
@[simp] theorem setGuardState_store (s : State) (g : Gid) (x : GuardState) :
    (s.setGuardState g x).store = s.store := rfl
@[simp] theorem setGuardState_free (s : State) (g : Gid) (x : GuardState) :
    (s.setGuardState g x).free = s.free := rfl
@[simp] theorem setGuardState_pending (s : State) (g : Gid) (x : GuardState) :
    (s.setGuardState g x).pending = s.pending := rfl

/-! ### Reading a record back -/

theorem entry_setEntry (s : State) (i j : Dst) (x : Entry) :
    (s.setEntry i x).entry j = if i = j then x else s.entry j := by simp [State.entry, State.setEntry, Tab.at_put]
@[simp] theorem entry_setEntry_same (s : State) (i : Dst) (x : Entry) : (s.setEntry i x).entry i = x := by
  simp [entry_setEntry]
@[simp] theorem entry_setEntry_ne (s : State) {i j : Dst} (x : Entry) (h : i ≠ j) :
    (s.setEntry i x).entry j = s.entry j := by simp [entry_setEntry, h]
theorem link_setLink (s : State) (i j : Pnl) (x : Link) :
    (s.setLink i x).link j = if i = j then x else s.link j := by simp [State.link, State.setLink, Tab.at_put]
@[simp] theorem link_setLink_same (s : State) (i : Pnl) (x : Link) : (s.setLink i x).link i = x := by
  simp [link_setLink]
@[simp] theorem link_setLink_ne (s : State) {i j : Pnl} (x : Link) (h : i ≠ j) :
    (s.setLink i x).link j = s.link j := by simp [link_setLink, h]
theorem key_setKey (s : State) (i j : KeyId) (x : Key) :
    (s.setKey i x).key j = if i = j then x else s.key j := by simp [State.key, State.setKey, Tab.at_put]
@[simp] theorem key_setKey_same (s : State) (i : KeyId) (x : Key) : (s.setKey i x).key i = x := by
  simp [key_setKey]
@[simp] theorem key_setKey_ne (s : State) {i j : KeyId} (x : Key) (h : i ≠ j) :
    (s.setKey i x).key j = s.key j := by simp [key_setKey, h]
theorem guard_setGuard (s : State) (i j : Gid) (x : Guard) :
    (s.setGuard i x).guard j = if i = j then x else s.guard j := by simp [State.guard, State.setGuard, Tab.at_put]
@[simp] theorem guard_setGuard_same (s : State) (i : Gid) (x : Guard) : (s.setGuard i x).guard i = x := by
  simp [guard_setGuard]
@[simp] theorem guard_setGuard_ne (s : State) {i j : Gid} (x : Guard) (h : i ≠ j) :
    (s.setGuard i x).guard j = s.guard j := by simp [guard_setGuard, h]
theorem channel_setChannel (s : State) (i j : Chn) (x : Channel) :
    (s.setChannel i x).channel j = if i = j then x else s.channel j := by simp [State.channel, State.setChannel, Tab.at_put]
@[simp] theorem channel_setChannel_same (s : State) (i : Chn) (x : Channel) : (s.setChannel i x).channel i = x := by
  simp [channel_setChannel]
@[simp] theorem channel_setChannel_ne (s : State) {i j : Chn} (x : Channel) (h : i ≠ j) :
    (s.setChannel i x).channel j = s.channel j := by simp [channel_setChannel, h]
theorem line_setLine (s : State) (i j : Lid) (x : Line) :
    (s.setLine i x).line j = if i = j then x else s.line j := by simp [State.line, State.setLine, Tab.at_put]
@[simp] theorem line_setLine_same (s : State) (i : Lid) (x : Line) : (s.setLine i x).line i = x := by
  simp [line_setLine]
@[simp] theorem line_setLine_ne (s : State) {i j : Lid} (x : Line) (h : i ≠ j) :
    (s.setLine i x).line j = s.line j := by simp [line_setLine, h]

/-! ### A view depends on its own field alone -/

theorem entry_congr {s t : State} (h : t.routes = s.routes) (i : Dst) : t.entry i = s.entry i := by
  simp [State.entry, h]
theorem link_congr {s t : State} (h : t.links = s.links) (i : Pnl) : t.link i = s.link i := by
  simp [State.link, h]
theorem key_congr {s t : State} (h : t.talk.keys = s.talk.keys) (i : KeyId) : t.key i = s.key i := by
  simp [State.key, h]
theorem guard_congr {s t : State} (h : t.guards = s.guards) (i : Gid) : t.guard i = s.guard i := by
  simp [State.guard, h]
theorem channel_congr {s t : State} (h : t.tally.channels = s.tally.channels) (i : Chn) : t.channel i = s.channel i := by
  simp [State.channel, h]
theorem line_congr {s t : State} (h : t.lines.recs = s.lines.recs) (i : Lid) : t.line i = s.line i := by
  simp [State.line, h]

/-! ### Other views under each update -/

@[simp] theorem link_setEntry (s : State) (d : Dst) (e : Entry) (i : Pnl) : (s.setEntry d e).link i = s.link i := rfl
@[simp] theorem key_setEntry (s : State) (d : Dst) (e : Entry) (i : KeyId) : (s.setEntry d e).key i = s.key i := rfl
@[simp] theorem guard_setEntry (s : State) (d : Dst) (e : Entry) (i : Gid) : (s.setEntry d e).guard i = s.guard i := rfl
@[simp] theorem channel_setEntry (s : State) (d : Dst) (e : Entry) (i : Chn) : (s.setEntry d e).channel i = s.channel i := rfl
@[simp] theorem line_setEntry (s : State) (d : Dst) (e : Entry) (i : Lid) : (s.setEntry d e).line i = s.line i := rfl
@[simp] theorem entry_setLink (s : State) (p : Pnl) (l : Link) (i : Dst) : (s.setLink p l).entry i = s.entry i := rfl
@[simp] theorem key_setLink (s : State) (p : Pnl) (l : Link) (i : KeyId) : (s.setLink p l).key i = s.key i := rfl
@[simp] theorem guard_setLink (s : State) (p : Pnl) (l : Link) (i : Gid) : (s.setLink p l).guard i = s.guard i := rfl
@[simp] theorem channel_setLink (s : State) (p : Pnl) (l : Link) (i : Chn) : (s.setLink p l).channel i = s.channel i := rfl
@[simp] theorem line_setLink (s : State) (p : Pnl) (l : Link) (i : Lid) : (s.setLink p l).line i = s.line i := rfl
@[simp] theorem entry_setKey (s : State) (k : KeyId) (x : Key) (i : Dst) : (s.setKey k x).entry i = s.entry i := rfl
@[simp] theorem link_setKey (s : State) (k : KeyId) (x : Key) (i : Pnl) : (s.setKey k x).link i = s.link i := rfl
@[simp] theorem guard_setKey (s : State) (k : KeyId) (x : Key) (i : Gid) : (s.setKey k x).guard i = s.guard i := rfl
@[simp] theorem channel_setKey (s : State) (k : KeyId) (x : Key) (i : Chn) : (s.setKey k x).channel i = s.channel i := rfl
@[simp] theorem line_setKey (s : State) (k : KeyId) (x : Key) (i : Lid) : (s.setKey k x).line i = s.line i := rfl
@[simp] theorem entry_setGuard (s : State) (g : Gid) (x : Guard) (i : Dst) : (s.setGuard g x).entry i = s.entry i := rfl
@[simp] theorem link_setGuard (s : State) (g : Gid) (x : Guard) (i : Pnl) : (s.setGuard g x).link i = s.link i := rfl
@[simp] theorem key_setGuard (s : State) (g : Gid) (x : Guard) (i : KeyId) : (s.setGuard g x).key i = s.key i := rfl
@[simp] theorem channel_setGuard (s : State) (g : Gid) (x : Guard) (i : Chn) : (s.setGuard g x).channel i = s.channel i := rfl
@[simp] theorem line_setGuard (s : State) (g : Gid) (x : Guard) (i : Lid) : (s.setGuard g x).line i = s.line i := rfl
@[simp] theorem entry_setChannel (s : State) (c : Chn) (x : Channel) (i : Dst) : (s.setChannel c x).entry i = s.entry i := rfl
@[simp] theorem link_setChannel (s : State) (c : Chn) (x : Channel) (i : Pnl) : (s.setChannel c x).link i = s.link i := rfl
@[simp] theorem key_setChannel (s : State) (c : Chn) (x : Channel) (i : KeyId) : (s.setChannel c x).key i = s.key i := rfl
@[simp] theorem guard_setChannel (s : State) (c : Chn) (x : Channel) (i : Gid) : (s.setChannel c x).guard i = s.guard i := rfl
@[simp] theorem line_setChannel (s : State) (c : Chn) (x : Channel) (i : Lid) : (s.setChannel c x).line i = s.line i := rfl
@[simp] theorem entry_setLine (s : State) (l : Lid) (x : Line) (i : Dst) : (s.setLine l x).entry i = s.entry i := rfl
@[simp] theorem link_setLine (s : State) (l : Lid) (x : Line) (i : Pnl) : (s.setLine l x).link i = s.link i := rfl
@[simp] theorem key_setLine (s : State) (l : Lid) (x : Line) (i : KeyId) : (s.setLine l x).key i = s.key i := rfl
@[simp] theorem guard_setLine (s : State) (l : Lid) (x : Line) (i : Gid) : (s.setLine l x).guard i = s.guard i := rfl
@[simp] theorem channel_setLine (s : State) (l : Lid) (x : Line) (i : Chn) : (s.setLine l x).channel i = s.channel i := rfl
@[simp] theorem entry_setHold (s : State) (p : Pnl) (y : Pty) (n : Nat) (i : Dst) : (s.setHold p y n).entry i = s.entry i := rfl
@[simp] theorem link_setHold (s : State) (p : Pnl) (y : Pty) (n : Nat) (i : Pnl) : (s.setHold p y n).link i = s.link i := rfl
@[simp] theorem key_setHold (s : State) (p : Pnl) (y : Pty) (n : Nat) (i : KeyId) : (s.setHold p y n).key i = s.key i := rfl
@[simp] theorem guard_setHold (s : State) (p : Pnl) (y : Pty) (n : Nat) (i : Gid) : (s.setHold p y n).guard i = s.guard i := rfl
@[simp] theorem channel_setHold (s : State) (p : Pnl) (y : Pty) (n : Nat) (i : Chn) : (s.setHold p y n).channel i = s.channel i := rfl
@[simp] theorem line_setHold (s : State) (p : Pnl) (y : Pty) (n : Nat) (i : Lid) : (s.setHold p y n).line i = s.line i := rfl
@[simp] theorem entry_setCrosspoint (s : State) (p : Pnl) (y : Pty) (b : Bool) (i : Dst) : (s.setCrosspoint p y b).entry i = s.entry i := rfl
@[simp] theorem link_setCrosspoint (s : State) (p : Pnl) (y : Pty) (b : Bool) (i : Pnl) : (s.setCrosspoint p y b).link i = s.link i := rfl
@[simp] theorem key_setCrosspoint (s : State) (p : Pnl) (y : Pty) (b : Bool) (i : KeyId) : (s.setCrosspoint p y b).key i = s.key i := rfl
@[simp] theorem guard_setCrosspoint (s : State) (p : Pnl) (y : Pty) (b : Bool) (i : Gid) : (s.setCrosspoint p y b).guard i = s.guard i := rfl
@[simp] theorem channel_setCrosspoint (s : State) (p : Pnl) (y : Pty) (b : Bool) (i : Chn) : (s.setCrosspoint p y b).channel i = s.channel i := rfl
@[simp] theorem line_setCrosspoint (s : State) (p : Pnl) (y : Pty) (b : Bool) (i : Lid) : (s.setCrosspoint p y b).line i = s.line i := rfl
@[simp] theorem entry_markDirty (s : State) (d : Dst) (i : Dst) : (s.markDirty d).entry i = s.entry i := rfl
@[simp] theorem link_markDirty (s : State) (d : Dst) (i : Pnl) : (s.markDirty d).link i = s.link i := rfl
@[simp] theorem key_markDirty (s : State) (d : Dst) (i : KeyId) : (s.markDirty d).key i = s.key i := rfl
@[simp] theorem guard_markDirty (s : State) (d : Dst) (i : Gid) : (s.markDirty d).guard i = s.guard i := rfl
@[simp] theorem channel_markDirty (s : State) (d : Dst) (i : Chn) : (s.markDirty d).channel i = s.channel i := rfl
@[simp] theorem line_markDirty (s : State) (d : Dst) (i : Lid) : (s.markDirty d).line i = s.line i := rfl
@[simp] theorem entry_setEngine (s : State) (e : Engine) (i : Dst) : (s.setEngine e).entry i = s.entry i := rfl
@[simp] theorem link_setEngine (s : State) (e : Engine) (i : Pnl) : (s.setEngine e).link i = s.link i := rfl
@[simp] theorem key_setEngine (s : State) (e : Engine) (i : KeyId) : (s.setEngine e).key i = s.key i := rfl
@[simp] theorem guard_setEngine (s : State) (e : Engine) (i : Gid) : (s.setEngine e).guard i = s.guard i := rfl
@[simp] theorem channel_setEngine (s : State) (e : Engine) (i : Chn) : (s.setEngine e).channel i = s.channel i := rfl
@[simp] theorem line_setEngine (s : State) (e : Engine) (i : Lid) : (s.setEngine e).line i = s.line i := rfl
@[simp] theorem entry_setLatch (s : State) (b : Bool) (i : Dst) : (s.setLatch b).entry i = s.entry i := rfl
@[simp] theorem link_setLatch (s : State) (b : Bool) (i : Pnl) : (s.setLatch b).link i = s.link i := rfl
@[simp] theorem key_setLatch (s : State) (b : Bool) (i : KeyId) : (s.setLatch b).key i = s.key i := rfl
@[simp] theorem guard_setLatch (s : State) (b : Bool) (i : Gid) : (s.setLatch b).guard i = s.guard i := rfl
@[simp] theorem channel_setLatch (s : State) (b : Bool) (i : Chn) : (s.setLatch b).channel i = s.channel i := rfl
@[simp] theorem line_setLatch (s : State) (b : Bool) (i : Lid) : (s.setLatch b).line i = s.line i := rfl
@[simp] theorem entry_setGuardState (s : State) (g : Gid) (x : GuardState) (i : Dst) : (s.setGuardState g x).entry i = s.entry i := rfl
@[simp] theorem link_setGuardState (s : State) (g : Gid) (x : GuardState) (i : Pnl) : (s.setGuardState g x).link i = s.link i := rfl
@[simp] theorem key_setGuardState (s : State) (g : Gid) (x : GuardState) (i : KeyId) : (s.setGuardState g x).key i = s.key i := rfl
@[simp] theorem channel_setGuardState (s : State) (g : Gid) (x : GuardState) (i : Chn) : (s.setGuardState g x).channel i = s.channel i := rfl
@[simp] theorem line_setGuardState (s : State) (g : Gid) (x : GuardState) (i : Lid) : (s.setGuardState g x).line i = s.line i := rfl

@[simp] theorem guard_setGuardState_same (s : State) (g : Gid) (x : GuardState) :
    (s.setGuardState g x).guard g = { s.guard g with state := x } := by simp [State.setGuardState]
@[simp] theorem guard_setGuardState_ne (s : State) {g h : Gid} (x : GuardState) (hne : g ≠ h) :
    (s.setGuardState g x).guard h = s.guard h := by simp [State.setGuardState, hne]

/-! ### Hold counts and crosspoints -/

theorem holdCount_setHold (s : State) (p q : Pnl) (y z : Pty) (n : Nat) :
    (s.setHold p y n).holdCount q z = if p = q ∧ y = z then n else s.holdCount q z := by
  by_cases hp : p = q <;> by_cases hy : y = z <;> simp [State.holdCount, State.setHold, hp, hy]
theorem crosspoint_setCrosspoint (s : State) (p q : Pnl) (y z : Pty) (b : Bool) :
    (s.setCrosspoint p y b).crosspoint q z = if p = q ∧ y = z then b else s.crosspoint q z := by
  by_cases hp : p = q <;> by_cases hy : y = z <;> simp [State.crosspoint, State.setCrosspoint, hp, hy]
@[simp] theorem holdCount_setEntry (s : State) (d : Dst) (e : Entry) (q : Pnl) (z : Pty) : (s.setEntry d e).holdCount q z = s.holdCount q z := rfl
@[simp] theorem crosspoint_setEntry (s : State) (d : Dst) (e : Entry) (q : Pnl) (z : Pty) : (s.setEntry d e).crosspoint q z = s.crosspoint q z := rfl
@[simp] theorem holdCount_setLink (s : State) (p : Pnl) (l : Link) (q : Pnl) (z : Pty) : (s.setLink p l).holdCount q z = s.holdCount q z := rfl
@[simp] theorem crosspoint_setLink (s : State) (p : Pnl) (l : Link) (q : Pnl) (z : Pty) : (s.setLink p l).crosspoint q z = s.crosspoint q z := rfl
@[simp] theorem holdCount_setKey (s : State) (k : KeyId) (x : Key) (q : Pnl) (z : Pty) : (s.setKey k x).holdCount q z = s.holdCount q z := rfl
@[simp] theorem crosspoint_setKey (s : State) (k : KeyId) (x : Key) (q : Pnl) (z : Pty) : (s.setKey k x).crosspoint q z = s.crosspoint q z := rfl
@[simp] theorem holdCount_setGuard (s : State) (g : Gid) (x : Guard) (q : Pnl) (z : Pty) : (s.setGuard g x).holdCount q z = s.holdCount q z := rfl
@[simp] theorem crosspoint_setGuard (s : State) (g : Gid) (x : Guard) (q : Pnl) (z : Pty) : (s.setGuard g x).crosspoint q z = s.crosspoint q z := rfl
@[simp] theorem holdCount_setChannel (s : State) (c : Chn) (x : Channel) (q : Pnl) (z : Pty) : (s.setChannel c x).holdCount q z = s.holdCount q z := rfl
@[simp] theorem crosspoint_setChannel (s : State) (c : Chn) (x : Channel) (q : Pnl) (z : Pty) : (s.setChannel c x).crosspoint q z = s.crosspoint q z := rfl
@[simp] theorem holdCount_setLine (s : State) (l : Lid) (x : Line) (q : Pnl) (z : Pty) : (s.setLine l x).holdCount q z = s.holdCount q z := rfl
@[simp] theorem crosspoint_setLine (s : State) (l : Lid) (x : Line) (q : Pnl) (z : Pty) : (s.setLine l x).crosspoint q z = s.crosspoint q z := rfl
@[simp] theorem crosspoint_setHold (s : State) (p : Pnl) (y : Pty) (n : Nat) (q : Pnl) (z : Pty) : (s.setHold p y n).crosspoint q z = s.crosspoint q z := rfl
@[simp] theorem holdCount_setCrosspoint (s : State) (p : Pnl) (y : Pty) (b : Bool) (q : Pnl) (z : Pty) : (s.setCrosspoint p y b).holdCount q z = s.holdCount q z := rfl
@[simp] theorem holdCount_markDirty (s : State) (d : Dst) (q : Pnl) (z : Pty) : (s.markDirty d).holdCount q z = s.holdCount q z := rfl
@[simp] theorem crosspoint_markDirty (s : State) (d : Dst) (q : Pnl) (z : Pty) : (s.markDirty d).crosspoint q z = s.crosspoint q z := rfl
@[simp] theorem holdCount_setEngine (s : State) (e : Engine) (q : Pnl) (z : Pty) : (s.setEngine e).holdCount q z = s.holdCount q z := rfl
@[simp] theorem crosspoint_setEngine (s : State) (e : Engine) (q : Pnl) (z : Pty) : (s.setEngine e).crosspoint q z = s.crosspoint q z := rfl
@[simp] theorem holdCount_setLatch (s : State) (b : Bool) (q : Pnl) (z : Pty) : (s.setLatch b).holdCount q z = s.holdCount q z := rfl
@[simp] theorem crosspoint_setLatch (s : State) (b : Bool) (q : Pnl) (z : Pty) : (s.setLatch b).crosspoint q z = s.crosspoint q z := rfl
@[simp] theorem holdCount_setGuardState (s : State) (g : Gid) (x : GuardState) (q : Pnl) (z : Pty) : (s.setGuardState g x).holdCount q z = s.holdCount q z := rfl
@[simp] theorem crosspoint_setGuardState (s : State) (g : Gid) (x : GuardState) (q : Pnl) (z : Pty) : (s.setGuardState g x).crosspoint q z = s.crosspoint q z := rfl

/-! ### A record put back as it stands -/

@[simp] theorem Tab.put_at {α : Type} {n : Nat} (t : Tab α n) (i : Fin n) : t.put i (t.at i) = t := by
  apply Tab.ext_at; intro j; by_cases h : i = j <;> simp [h]
@[simp] theorem setLink_link (s : State) (p : Pnl) : s.setLink p (s.link p) = s := by
  simp [State.setLink, State.link]

end Sys2Proof.Machine
end

