-- ==== Sys2Proof/Laws/Links.lean ====
section
/-! SUPPORT. What ends every command: settling changes the links alone, and a reply, a response or nothing is what a
command leaves behind beside its effect. -/

namespace Sys2Proof.Machine

/-! ### The links after settling -/

theorem link_settle (s u : State) (p : Pnl) :
    (settle s u).link p = transmitLink (markAll s u) p := by simp [settle, transmit, State.link]

theorem link_markAll (s u : State) (p : Pnl) : (markAll s u).link p = markLink s u p := by
  simp [markAll, State.link]

/-- Settling changes the links alone. -/
theorem settle_eq (s u : State) : settle s u = { u with links := (settle s u).links } := rfl

@[simp] theorem settle_timing (s u : State) : (settle s u).timing = u.timing := rfl
@[simp] theorem settle_defs (s u : State) : (settle s u).defs = u.defs := rfl
@[simp] theorem settle_routes (s u : State) : (settle s u).routes = u.routes := rfl
@[simp] theorem settle_salvos (s u : State) : (settle s u).salvos = u.salvos := rfl
@[simp] theorem settle_take (s u : State) : (settle s u).take = u.take := rfl
@[simp] theorem settle_tally (s u : State) : (settle s u).tally = u.tally := rfl
@[simp] theorem settle_talk (s u : State) : (settle s u).talk = u.talk := rfl
@[simp] theorem settle_guards (s u : State) : (settle s u).guards = u.guards := rfl
@[simp] theorem settle_lines (s u : State) : (settle s u).lines = u.lines := rfl
@[simp] theorem settle_ctl (s u : State) : (settle s u).ctl = u.ctl := rfl
@[simp] theorem settle_store (s u : State) : (settle s u).store = u.store := rfl
@[simp] theorem settle_free (s u : State) : (settle s u).free = u.free := rfl
@[simp] theorem settle_pending (s u : State) : (settle s u).pending = u.pending := rfl
@[simp] theorem settle_entry (s u : State) (d : Dst) : (settle s u).entry d = u.entry d := rfl
@[simp] theorem settle_key (s u : State) (k : KeyId) : (settle s u).key k = u.key k := rfl
@[simp] theorem settle_guard (s u : State) (g : Gid) : (settle s u).guard g = u.guard g := rfl
@[simp] theorem settle_channel (s u : State) (c : Chn) : (settle s u).channel c = u.channel c := rfl
@[simp] theorem settle_line (s u : State) (l : Lid) : (settle s u).line l = u.line l := rfl

/-- Marking changes a link's change set alone. -/
theorem markLink_eq (s u : State) (p : Pnl) :
    markLink s u p = { u.link p with changes := (markLink s u p).changes } := by
  unfold markLink; split <;> rfl

/-- The next frame changes the transmitter, the BUSY, the replies and the change set alone. -/
theorem nextFrame_eq (v : State) (p : Pnl) (l : Link) :
    nextFrame v p l = { l with
      sending := (nextFrame v p l).sending, busy := (nextFrame v p l).busy,
      replies := (nextFrame v p l).replies, changes := (nextFrame v p l).changes } := by
  unfold nextFrame
  split
  · rfl
  · split
    · rfl
    · split
      · split <;> rfl
      · rfl

theorem transmitLink_eq (v : State) (p : Pnl) :
    transmitLink v p = { v.link p with
      sending := (transmitLink v p).sending, busy := (transmitLink v p).busy,
      replies := (transmitLink v p).replies, changes := (transmitLink v p).changes } := by
  unfold transmitLink
  split
  · rfl
  · exact nextFrame_eq v p (v.link p)

/-- A link after settling keeps everything but the transmitter, the BUSY, the replies and the change set. -/
theorem link_settle_eq (s u : State) (p : Pnl) :
    (settle s u).link p = { u.link p with
      sending := ((settle s u).link p).sending, busy := ((settle s u).link p).busy,
      replies := ((settle s u).link p).replies, changes := ((settle s u).link p).changes } := by
  rw [link_settle, transmitLink_eq, link_markAll, markLink_eq]

@[simp] theorem settle_link_state (s u : State) (p : Pnl) : ((settle s u).link p).state = (u.link p).state := by
  rw [link_settle_eq]
@[simp] theorem settle_link_assembling (s u : State) (p : Pnl) :
    ((settle s u).link p).assembling = (u.link p).assembling := by rw [link_settle_eq]
@[simp] theorem settle_link_held (s u : State) (p : Pnl) : ((settle s u).link p).held = (u.link p).held := by
  rw [link_settle_eq]
@[simp] theorem settle_link_supervision (s u : State) (p : Pnl) :
    ((settle s u).link p).supervision = (u.link p).supervision := by rw [link_settle_eq]
@[simp] theorem settle_link_subs (s u : State) (p : Pnl) : ((settle s u).link p).subs = (u.link p).subs := by
  rw [link_settle_eq]
@[simp] theorem settle_link_hold (s u : State) (p : Pnl) : ((settle s u).link p).hold = (u.link p).hold := by
  rw [link_settle_eq]
@[simp] theorem settle_link_quiesceOwed (s u : State) (p : Pnl) :
    ((settle s u).link p).quiesceOwed = (u.link p).quiesceOwed := by rw [link_settle_eq]

/-! ### Notices depend on no change set -/

theorem orphaned_congr {s t : State} (h : ∀ p, (t.link p).state = (s.link p).state) (l : Lock) :
    orphaned t l = orphaned s l := by
  unfold orphaned; split
  · rw [h]
  · rfl

/-- A notice body reads the records and the link states alone. -/
theorem noticeBody_congr {s t : State} (hr : t.routes = s.routes) (ht : t.talk = s.talk) (hc : t.tally = s.tally)
    (hl : ∀ p, (t.link p).state = (s.link p).state) (p : Pnl) (r : Ref) :
    noticeBody t p r = noticeBody s p r := by
  have he : ∀ d, t.entry d = s.entry d := fun d => by simp [State.entry, hr]
  have hk : ∀ k, t.key k = s.key k := fun k => by simp [State.key, ht]
  have hch : ∀ c, t.channel c = s.channel c := fun c => by simp [State.channel, hc]
  have hf : ∀ d, effective t d = effective s d := fun d => by simp [effective, he, ht]
  have ho : orphaned t = orphaned s := funext fun l => orphaned_congr hl l
  cases r <;> simp [noticeBody, routePart, channelPart, keyPart, he, hk, hch, hf, ho]

/-! ### What is owed after settling -/

/-- The visible parts read the records and the link states alone. -/
theorem visiblyChanged_congr {s t v : State} (hr : t.routes = v.routes) (ht : t.talk = v.talk) (hc : t.tally = v.tally)
    (hl : ∀ p, (t.link p).state = (v.link p).state) (p : Pnl) (r : Ref) :
    VisiblyChanged s t p r ↔ VisiblyChanged s v p r := by
  have he : ∀ d, t.entry d = v.entry d := fun d => by simp [State.entry, hr]
  have hk : ∀ k, t.key k = v.key k := fun k => by simp [State.key, ht]
  have hch : ∀ c, t.channel c = v.channel c := fun c => by simp [State.channel, hc]
  have hf : ∀ d, effective t d = effective v d := fun d => by simp [effective, he, ht]
  have ho : orphaned t = orphaned v := funext fun l => orphaned_congr hl l
  cases r <;> simp [VisiblyChanged, routeView, lampView, he, hk, hch, hf, ho]

/-- Marking adds references at the end alone, each new one once and in the order of the new ones. -/
theorem addRefs_append (set new : List Ref) :
    ∃ marked, addRefs set new = set ++ marked ∧ marked.Sublist new ∧ ∀ r, r ∈ marked ↔ (r ∈ new ∧ r ∉ set) := by
  unfold addRefs
  induction new generalizing set with
  | nil => exact ⟨[], by simp⟩
  | cons r rest ih =>
    rw [List.foldl_cons]
    split
    next h =>
      obtain ⟨m, hm, hd, hi⟩ := ih set
      have hr : r ∈ set := by simpa using h
      refine ⟨m, hm, hd.cons r, fun x => ?_⟩
      rw [hi, List.mem_cons]
      constructor
      · exact fun ⟨a, b⟩ => ⟨.inr a, b⟩
      · rintro ⟨a | a, b⟩
        · subst a; exact absurd hr b
        · exact ⟨a, b⟩
    next h =>
      obtain ⟨m, hm, hd, hi⟩ := ih (set ++ [r])
      have hr : r ∉ set := by simpa using h
      refine ⟨r :: m, by rw [hm]; simp, hd.cons_cons r, fun x => ?_⟩
      · rw [List.mem_cons, hi, List.mem_cons, List.mem_append, List.mem_singleton]
        constructor
        · rintro (a | ⟨a, b⟩)
          · subst a; exact ⟨.inl rfl, hr⟩
          · exact ⟨.inr a, fun c => b (.inl c)⟩
        · rintro ⟨a | a, b⟩
          · exact .inl a
          · by_cases hx : x = r
            · exact .inl hx
            · exact .inr ⟨a, fun c => c.elim b hx⟩

/-- The records that `changedFor` lists. -/
theorem mem_changedFor (s u : State) (p : Pnl) (subs : Subs) (r : Ref) :
    r ∈ changedFor s u p subs ↔ (subs.covers r = true ∧ VisiblyChanged s u p r) := by
  unfold changedFor
  obtain ⟨a, b, c⟩ := subs
  cases r <;> cases a <;> cases b <;> cases c <;> simp [Subs.covers, VisiblyChanged]

/-- The numbers below `n` that pass a test, as references whose ranks rise with the number: the ranks rise. -/
theorem ranks_filter {n k : Nat} (f : Fin n → Ref) (h : ∀ i, (f i).rank = k + i.1) (q : Fin n → Bool) :
    ((((fins n).filter q).map f).map Ref.rank).Pairwise (· < ·) := by
  rw [List.map_map, List.pairwise_map]
  refine List.Pairwise.filter _ (List.Pairwise.imp (R := (· < ·)) (fun {a b} hab => ?_) ?_)
  · simp only [Function.comp, h]; omega
  · simp [fins, List.pairwise_ofFn]

/-- `changedFor` lists records in the order of their ranks. -/
theorem ranks_changedFor (s u : State) (p : Pnl) (subs : Subs) :
    ((changedFor s u p subs).map Ref.rank).Pairwise (· < ·) := by
  unfold changedFor
  simp only [List.map_append, List.pairwise_append]
  refine ⟨⟨?_, ?_, ?_⟩, ?_, ?_⟩
  · split
    · exact ranks_filter (k := 0) .route (fun i => by simp [Ref.rank]) _
    · exact .nil
  · split
    · exact ranks_filter (k := 48) .tally (fun i => rfl) _
    · exact .nil
  · intro a ha b hb
    split at ha <;> split at hb <;> simp at ha hb
    obtain ⟨d, _, rfl⟩ := ha
    obtain ⟨c, _, rfl⟩ := hb
    simp only [Ref.rank]; omega
  · split
    · exact ranks_filter (k := 80) .key (fun i => rfl) _
    · exact .nil
  · intro a ha b hb
    rw [List.mem_append] at ha
    split at hb <;> simp at hb
    obtain ⟨i, _, rfl⟩ := hb
    rcases ha with ha | ha <;> split at ha <;> simp at ha <;> obtain ⟨x, _, rfl⟩ := ha <;> simp only [Ref.rank] <;> omega

theorem outbox_markLink (s u : State) (p : Pnl) : (markLink s u p).outbox = (u.link p).outbox := by
  rw [markLink_eq]; rfl

theorem changes_markLink (s u : State) (p : Pnl) : ∃ marked : List Ref,
    ((marked.map Ref.rank).Pairwise (· < ·) ∧ ∀ r, r ∈ marked ↔ ((u.link p).state.session = true ∧ (u.link p).subs.covers r = true ∧
      r ∉ (u.link p).changes ∧ VisiblyChanged s u p r)) ∧
    (markLink s u p).changes = (u.link p).changes ++ marked := by
  unfold markLink
  split
  next h =>
    obtain ⟨m, hm, hd, hi⟩ := addRefs_append (u.link p).changes (changedFor s u p (u.link p).subs)
    refine ⟨m, ⟨(ranks_changedFor s u p _).sublist (hd.map _), fun r => ?_⟩, hm⟩
    rw [hi, mem_changedFor]
    constructor
    · exact fun ⟨⟨a, b⟩, c⟩ => ⟨h, a, c, b⟩
    · exact fun ⟨_, a, c, b⟩ => ⟨⟨a, b⟩, c⟩
  next h => exact ⟨[], ⟨by simp, fun r => ⟨fun x => absurd x List.not_mem_nil, fun x => absurd x.1 h⟩⟩, by simp⟩

/-- The next frame keeps what is owed and the change set, or begins a notice of the oldest reference when nothing is
owed, in a session with no hold in force. -/
theorem sent_nextFrame (v : State) (p : Pnl) (l : Link) (h : l.sending = none) :
    ((nextFrame v p l).changes = l.changes ∧ (nextFrame v p l).outbox = l.outbox) ∨
      (l.outbox = [] ∧ l.state.session = true ∧ l.hold = none ∧ ∃ r, r :: (nextFrame v p l).changes = l.changes ∧
        (nextFrame v p l).outbox = [⟨frame (noticeBody v p r), false⟩]) := by
  unfold nextFrame
  split
  next b hb => left; simp [Link.outbox, h, hb, busyFrame]
  next hb =>
    split
    next i rest hr => left; simp [Link.outbox, Item.sending, h, hb, hr]
    next hr =>
      split
      next r rest hc =>
        split
        next ho =>
          rw [Link.noticesOpen, Bool.and_eq_true, Option.isNone_iff_eq_none] at ho
          right; exact ⟨by simp [Link.outbox, h, hb, hr], ho.1, ho.2, r, by simp [Link.outbox, hb, hr, hc]⟩
        · left; exact ⟨rfl, rfl⟩
      · left; exact ⟨rfl, rfl⟩

/-- Settling keeps what a link owes and marks what has visibly changed, or begins a notice of the oldest reference when
nothing is owed. -/
theorem sent_settle (s u : State) (p : Pnl) : ∃ marked : List Ref,
    ((marked.map Ref.rank).Pairwise (· < ·) ∧ ∀ r, r ∈ marked ↔ ((u.link p).state.session = true ∧ (u.link p).subs.covers r = true ∧
      r ∉ (u.link p).changes ∧ VisiblyChanged s (settle s u) p r)) ∧
    ((((settle s u).link p).changes = (u.link p).changes ++ marked ∧
      ((settle s u).link p).outbox = (u.link p).outbox) ∨
    ((u.link p).outbox = [] ∧ (u.link p).state.session = true ∧ (u.link p).hold = none ∧
      ∃ r, r :: ((settle s u).link p).changes = (u.link p).changes ++ marked ∧
      ((settle s u).link p).outbox = [⟨frame (noticeBody (settle s u) p r), false⟩])) := by
  have hn : ∀ r, noticeBody (settle s u) p r = noticeBody (markAll s u) p r := fun r =>
    noticeBody_congr (s := markAll s u) (t := settle s u) rfl rfl rfl
      (fun q => by rw [link_settle, transmitLink_eq]) p r
  have hv : ∀ r, VisiblyChanged s (settle s u) p r ↔ VisiblyChanged s u p r := fun r =>
    visiblyChanged_congr (t := settle s u) (v := u) rfl rfl rfl (fun q => settle_link_state s u q) p r
  obtain ⟨m, hd, hm⟩ := changes_markLink s u p
  refine ⟨m, ⟨hd.1, fun r => by rw [hd.2, hv]⟩, ?_⟩
  rw [link_settle]
  unfold transmitLink
  split
  · left; rw [link_markAll, outbox_markLink]; exact ⟨hm, rfl⟩
  next hs =>
    have := sent_nextFrame (markAll s u) p _ hs
    have hk : (markLink s u p).state = (u.link p).state ∧ (markLink s u p).hold = (u.link p).hold := by
      rw [markLink_eq]; exact ⟨rfl, rfl⟩
    rw [link_markAll, outbox_markLink, hm, hk.1, hk.2] at this
    simpa only [link_markAll, hn] using this

/-- Nothing is placed: the link after settling. -/
theorem linkAfter_settle (s u : State) (p : Pnl) : LinkAfter s u (settle s u) p [] where
  state := by simp
  assembling := by simp
  held := by simp
  supervision := by simp
  subs := by simp
  hold := by simp
  quiesceOwed := by simp
  sent := by
    obtain ⟨m, hm, h⟩ := sent_settle s u p
    exact ⟨m, hm, by simpa using h⟩

/-- An effect with no reply. -/
theorem quiet_settle (s u : State) : Quiet s u (settle s u) :=
  ⟨settle_eq s u, fun q => linkAfter_settle s u q⟩

/-! ### Answers -/

@[simp] theorem place_link_ne (p q : Pnl) (i : Item) (s : State) (h : p ≠ q) : (place p i s).link q = s.link q := by
  simp [place, h]

theorem outbox_append (l : Link) (i : Item) :
    ({ l with replies := l.replies ++ [i] } : Link).outbox = l.outbox ++ [i.sending] := by
  simp [Link.outbox]

/-- What answering a panel does to its link. -/
theorem answer_link_same (p : Pnl) (typ tag : Byte) (code : Result) (ps : List Byte) (u : State) :
    (answer (.panel p) typ tag code ps u).link p = { u.link p with
      replies := (u.link p).replies ++ [.reply typ tag code ps (heldWaits (u.link p) typ tag)]
      held := if heldWaits (u.link p) typ tag then (u.link p).held.map fun h => { h with waiting := false }
        else (u.link p).held } := by simp [answer]

theorem answer_link_ne (p q : Pnl) (typ tag : Byte) (code : Result) (ps : List Byte) (u : State) (h : p ≠ q) :
    (answer (.panel p) typ tag code ps u).link q = u.link q := by simp [answer, h]

/-- Answering a panel changes its link alone. -/
theorem answer_panel_eq (p : Pnl) (typ tag : Byte) (code : Result) (ps : List Byte) (u : State) :
    answer (.panel p) typ tag code ps u =
      { u with links := (answer (.panel p) typ tag code ps u).links } := rfl

/-- A reply answers the held buffer exactly when that holds a request of its type and tag that waits. -/
theorem heldWaits_iff (l : Link) (typ tag : Byte) :
    heldWaits l typ tag = true ↔ ∃ ps, l.held = some ⟨typ :: tag :: ps, true⟩ := by
  unfold heldWaits headIs
  rcases l.held with _ | ⟨body, waiting⟩
  · simp
  · rcases body with _ | ⟨a, _ | ⟨b, ps⟩⟩ <;> simp
    constructor
    · rintro ⟨rfl, rfl, rfl⟩; exact ⟨⟨rfl, rfl⟩, rfl⟩
    · rintro ⟨⟨rfl, rfl⟩, rfl⟩; exact ⟨rfl, rfl, rfl⟩

/-- Taking a request leaves in the request buffer what `RequestTaken` says. -/
theorem requestTaken_map (u t : State) (typ tag : Byte)
    (h : t.ctl.request = u.ctl.request.map fun r => if headIs typ tag r.body then { r with waiting := false } else r) :
    RequestTaken u t typ tag := by
  refine ⟨fun ps w hr => by rw [h, hr]; simp [headIs], fun hn => ?_⟩
  rw [h]
  rcases hr : u.ctl.request with _ | ⟨body, w⟩
  · rfl
  · have : headIs typ tag body = false := by
      rcases body with _ | ⟨a, _ | ⟨b, ps⟩⟩
      · rfl
      · rfl
      · simp only [headIs, Bool.and_eq_false_imp, decide_eq_true_eq]
        intro ha
        rw [decide_eq_false_iff_not]
        intro hb
        exact hn ps w (by rw [hr, ha, hb])
    simp [this]

/-- The effect `u`, answered and settled, leaves what `Replied` says. -/
theorem replied_settle (s u : State) (o : Origin) (typ tag : Byte) (code : Result) (ps : List Byte) :
    Replied s u (settle s (answer o typ tag code ps u)) o typ tag code ps := by
  cases o with
  | panel p =>
    refine ⟨heldWaits (u.link p) typ tag, heldWaits_iff _ _ _, rfl, fun q => ?_⟩
    unfold onLink
    have base := linkAfter_settle s (answer (.panel p) typ tag code ps u) q
    by_cases h : q = p
    · subst h
      have hl := answer_link_same q typ tag code ps u
      have hob : ((answer (.panel q) typ tag code ps u).link q).outbox =
          (u.link q).outbox ++ [⟨frame (replyBody typ tag code ps), heldWaits (u.link q) typ tag⟩] := by
        rw [hl]; simp [Link.outbox, Item.sending, Item.body, Item.freesHeld]
      rw [if_pos rfl]
      refine ⟨?_, ?_, ?_, ?_, ?_, ?_, ?_, ?_⟩
      · rw [base.state, hl]
      · rw [base.assembling, hl]
      · rw [base.held, hl]; simp
      · rw [base.supervision, hl]
      · rw [base.subs, hl]
      · rw [base.hold, hl]
      · rw [base.quiesceOwed, hl]
      · obtain ⟨m, hd, hm⟩ := base.sent
        rw [hl] at hd
        refine ⟨m, hd, ?_⟩
        rw [hob, hl] at hm
        simpa using hm
    · have hl := answer_link_ne p q typ tag code ps u (Ne.symm h)
      rw [if_neg h]
      refine ⟨?_, ?_, ?_, ?_, ?_, ?_, ?_, ?_⟩
      · rw [base.state, hl]
      · rw [base.assembling, hl]
      · rw [base.held, hl]
      · rw [base.supervision, hl]
      · rw [base.subs, hl]
      · rw [base.hold, hl]
      · rw [base.quiesceOwed, hl]
      · have := base.sent; rw [hl] at this; exact this
  | ctl =>
    refine ⟨rfl, requestTaken_map _ _ _ _ rfl, fun q => ?_⟩
    have base := linkAfter_settle s (answer .ctl typ tag code ps u) q
    exact ⟨base.state, base.assembling, base.held, base.supervision, base.subs, base.hold,
      base.quiesceOwed, base.sent⟩

/-- The effect `u` with a response that comes later, settled. -/
theorem owed_settle (s u : State) (typ tag : Byte) : Owed s u (settle s (takeRequest typ tag u)) typ tag := by
  refine ⟨rfl, requestTaken_map _ _ _ _ rfl, fun q => ?_⟩
  have base := linkAfter_settle s (takeRequest typ tag u) q
  exact ⟨base.state, base.assembling, base.held, base.supervision, base.subs, base.hold,
    base.quiesceOwed, base.sent⟩

/-! ### The checks at the link -/

theorem gate_of_admits {s : State} {o : Origin} {k : ReqKind} (h : Admits s o k) : gate s o k true = .pass := by
  cases o with
  | panel p =>
    obtain ⟨hc, hb, hs⟩ := h
    have hbt : (decide (k = .busTally) && s.tally.switcher != some p) = false := by
      by_cases hk : k = .busTally
      · simp [hk, hb hk]
      · simp [hk]
    rcases hs with hs | ⟨hs, hq⟩
    · simp [gate, panelGate, hs, LinkState.session, hc, hbt]
    · simp [gate, panelGate, hs, LinkState.session, hc, hbt, hq]
  | ctl =>
    obtain ⟨hu, hp, hr⟩ := h
    rcases hr with hr | hr
    · simp [gate, controlGate, hu, hp, hr]
    · subst hr; simp [gate, controlGate, hu, hp]

/-- A request its link admits is taken by its block and answered. -/
theorem serve_admitted {s : State} {o : Origin} {k : ReqKind} (h : Admits s o k) (tag : Byte)
    (block : State → State × Answer) :
    serve k o tag true block s = finish s (place? o k.code tag (block s).2 (block s).1) := by
  simp [serve, gate_of_admits h]

/-- A block that answers at once: the command's next state is its effect, replied. -/
theorem serve_replied {s u : State} {o : Origin} {k : ReqKind} (h : Admits s o k) (tag : Byte)
    {block : State → State × Answer} {code : Result} {ps : List Byte} (hb : block s = (u, .now code ps)) :
    ∃ t, serve k o tag true block s = .next t ∧ Replied s u t o k.code tag code ps :=
  ⟨_, by rw [serve_admitted h, hb]; rfl, replied_settle s u o k.code tag code ps⟩

/-- A block whose answer comes later: the command's next state is its effect, with the response owed. -/
theorem serve_owed {s u : State} {o : Origin} {k : ReqKind} (h : Admits s o k) (tag : Byte)
    {block : State → State × Answer} (hb : block s = (u, .later)) :
    ∃ t, serve k o tag true block s = .next t ∧ Owed s u t k.code tag :=
  ⟨_, by rw [serve_admitted h, hb]; rfl, owed_settle s u k.code tag⟩

/-- A command that finishes with effect `u`. -/
theorem finish_quiet (s u : State) : ∃ t, finish s u = .next t ∧ Quiet s u t := ⟨_, rfl, quiet_settle s u⟩

/-- A command that finishes with effect `u` becomes `u`. -/
theorem becomes_of_finish {c : Instr} {s u : State} (h : exec c s = finish s u) : Becomes c s u :=
  ⟨_, h, quiet_settle s u⟩

/-- A request that its link admits and its block answers at once. -/
theorem answers_of_block {c : Instr} {s u : State} {o : Origin} {k : ReqKind} {tag : Byte}
    {block : State → State × Answer} {code : Result} {ps : List Byte}
    (hc : exec c s = serve k o tag true block s) (h : Admits s o k) (hb : block s = (u, .now code ps)) :
    Answers c s u o k tag code ps := by
  obtain ⟨t, h1, h2⟩ := serve_replied h tag hb
  exact ⟨t, hc.trans h1, h2⟩

/-- A request that its link admits and its block answers later. -/
theorem answersLater_of_block {c : Instr} {s u : State} {o : Origin} {k : ReqKind} {tag : Byte}
    {block : State → State × Answer} (hc : exec c s = serve k o tag true block s) (h : Admits s o k)
    (hb : block s = (u, .later)) : AnswersLater c s u k tag := by
  obtain ⟨t, h1, h2⟩ := serve_owed h tag hb
  exact ⟨t, hc.trans h1, h2⟩

/-- A request that its link passes, whatever admitted it, and its block answers at once. -/
theorem answers_of_pass {c : Instr} {s u : State} {o : Origin} {k : ReqKind} {tag : Byte} {codes : Bool}
    {block : State → State × Answer} {code : Result} {ps : List Byte}
    (hc : exec c s = serve k o tag codes block s) (h : gate s o k codes = .pass) (hb : block s = (u, .now code ps)) :
    Answers c s u o k tag code ps :=
  ⟨_, by rw [hc, serve, h, hb]; rfl, replied_settle s u o k.code tag code ps⟩

/-- A request that its link refuses. -/
theorem answers_of_refused {c : Instr} {s : State} {o : Origin} {k : ReqKind} {tag : Byte} {codes : Bool}
    {block : State → State × Answer} {code : Result} (hc : exec c s = serve k o tag codes block s)
    (h : gate s o k codes = .refuse code) : Answers c s s o k tag code [] :=
  ⟨_, by rw [hc, serve, h]; rfl, replied_settle s s o k.code tag code []⟩

/-- A code outside its table and a value out of range are answered alike. -/
theorem answers_range {s : State} {o : Origin} {k : ReqKind} {c : Instr} {tag : Byte} {codes : Bool}
    {block : State → State × Answer} (ha : Admits s o k) (hc : exec c s = serve k o tag codes block s)
    (hb : codes = true → block s = refuseWith .range s) : Answers c s s o k tag .range [] := by
  cases codes with
  | true => exact answers_of_block hc ha (hb rfl)
  | false =>
    refine answers_of_refused hc ?_
    cases o with
    | panel p =>
      obtain ⟨_, _, h⟩ := ha
      have : (s.link p).state.session = true := by rcases h with h | ⟨h, _⟩ <;> simp [h, LinkState.session]
      simp [gate, panelGate, this]
    | ctl => simp [gate, controlGate]

/-- Every request is served by a block, after its codes are checked. -/
theorem exec_request {c : Instr} {k : ReqKind} {o : Origin} {tag : Byte} (h : requestHead c = some (k, o, tag)) :
    ∃ block, ∀ s, exec c s = serve k o tag (codesOk c) block s := by
  cases c <;> simp [requestHead] at h <;> obtain ⟨rfl, rfl, rfl⟩ := h <;> exact ⟨_, fun _ => rfl⟩

/-- A control-only request meets the links' refusals. -/
theorem onlyFromControl_of_head {k : ReqKind} {c : Origin → Byte → Instr} (hk : k.controlOnly = true)
    (hu : k.urgent = false) (hr : k ≠ .readStatus) (hc : ∀ o tag, requestHead (c o tag) = some (k, o, tag)) :
    OnlyFromControl k c := by
  refine ⟨fun s p tag hs h => ?_, fun s tag hs h => ?_⟩
  · obtain ⟨b, hb⟩ := exec_request (hc (.panel p) tag)
    exact answers_of_refused (hb s) (by simp [gate, panelGate, hs, h, hk])
  · obtain ⟨b, hb⟩ := exec_request (hc .ctl tag)
    exact answers_of_refused (hb s) (by simp [gate, controlGate, h, hu, hs, hr])

/-- The control link admits every control-only request once READY is set. -/
theorem admits_ctl {s : State} {k : ReqKind} (hk : k.controlOnly = true) (hu : k.urgent = false)
    (h : s.ctl.ready = true) : Admits s .ctl k :=
  ⟨hu, by cases k <;> simp_all [ReqKind.controlOnly, ReqKind.panelOnly], .inl h⟩

/-! ### Every request ends in a settled state -/

/-- Whatever the link decides, serving ends in one next state. -/
theorem serve_next (k : ReqKind) (o : Origin) (tag : Byte) (codes : Bool) (block : State → State × Answer) (s : State) :
    ∃ u, serve k o tag codes block s = finish s u ∧
      (u = discardHeld o k.code tag s ∨ (∃ code, u = answer o k.code tag code [] s) ∨
        u = place? o k.code tag (block s).2 (block s).1) := by
  unfold serve
  split
  · exact ⟨_, rfl, .inl rfl⟩
  · exact ⟨_, rfl, .inr (.inl ⟨_, rfl⟩)⟩
  · exact ⟨_, rfl, .inr (.inr rfl)⟩

end Sys2Proof.Machine
end

