-- ==== Sys2Proof/Laws/Frames.lean ====
section
/-! SUPPORT. What each operation leaves alone: one lemma per operation, field by field. -/

namespace Sys2Proof.Machine

@[simp] theorem recompute_frame (s : State) :
    (recompute s).timing = s.timing ∧ (recompute s).defs = s.defs ∧
    (recompute s).routes = s.routes ∧ (recompute s).salvos = s.salvos ∧
    (recompute s).take = s.take ∧ (recompute s).talk = s.talk ∧
    (recompute s).guards = s.guards ∧ (recompute s).lines = s.lines ∧
    (recompute s).links = s.links ∧ (recompute s).ctl = s.ctl ∧
    (recompute s).store = s.store ∧ (recompute s).free = s.free ∧
    (recompute s).pending = s.pending := by
  simp [recompute]

@[simp] theorem driveLines_frame (s : State) :
    (driveLines s).timing = s.timing ∧ (driveLines s).defs = s.defs ∧
    (driveLines s).routes = s.routes ∧ (driveLines s).salvos = s.salvos ∧
    (driveLines s).take = s.take ∧ (driveLines s).tally = s.tally ∧
    (driveLines s).talk = s.talk ∧ (driveLines s).guards = s.guards ∧
    (driveLines s).links = s.links ∧ (driveLines s).ctl = s.ctl ∧
    (driveLines s).store = s.store ∧ (driveLines s).free = s.free ∧
    (driveLines s).pending = s.pending := by
  simp [driveLines]

@[simp] theorem refresh_frame (s : State) :
    (refresh s).timing = s.timing ∧ (refresh s).defs = s.defs ∧
    (refresh s).routes = s.routes ∧ (refresh s).salvos = s.salvos ∧
    (refresh s).take = s.take ∧ (refresh s).talk = s.talk ∧
    (refresh s).guards = s.guards ∧ (refresh s).links = s.links ∧
    (refresh s).ctl = s.ctl ∧ (refresh s).store = s.store ∧
    (refresh s).free = s.free ∧ (refresh s).pending = s.pending := by
  simp [refresh]

@[simp] theorem raise_frame (c : Cause) (s : State) :
    (raise c s).timing = s.timing ∧ (raise c s).defs = s.defs ∧
    (raise c s).routes = s.routes ∧ (raise c s).salvos = s.salvos ∧
    (raise c s).take = s.take ∧ (raise c s).tally = s.tally ∧
    (raise c s).talk = s.talk ∧ (raise c s).guards = s.guards ∧
    (raise c s).lines = s.lines ∧ (raise c s).links = s.links ∧
    (raise c s).store = s.store ∧ (raise c s).free = s.free ∧
    (raise c s).pending = s.pending := by
  simp [raise]

@[simp] theorem stageOn_frame (d : Dst) (x : Staged) (s : State) :
    (stageOn d x s).timing = s.timing ∧ (stageOn d x s).defs = s.defs ∧
    (stageOn d x s).salvos = s.salvos ∧ (stageOn d x s).tally = s.tally ∧
    (stageOn d x s).talk = s.talk ∧ (stageOn d x s).guards = s.guards ∧
    (stageOn d x s).lines = s.lines ∧ (stageOn d x s).links = s.links ∧
    (stageOn d x s).ctl = s.ctl ∧ (stageOn d x s).store = s.store ∧
    (stageOn d x s).free = s.free ∧ (stageOn d x s).pending = s.pending := by
  simp [stageOn]

@[simp] theorem switcherLost_frame (p : Pnl) (s : State) :
    (switcherLost p s).timing = s.timing ∧ (switcherLost p s).defs = s.defs ∧
    (switcherLost p s).routes = s.routes ∧ (switcherLost p s).salvos = s.salvos ∧
    (switcherLost p s).take = s.take ∧ (switcherLost p s).talk = s.talk ∧
    (switcherLost p s).guards = s.guards ∧ (switcherLost p s).lines = s.lines ∧
    (switcherLost p s).links = s.links ∧ (switcherLost p s).store = s.store ∧
    (switcherLost p s).free = s.free ∧ (switcherLost p s).pending = s.pending := by
  unfold switcherLost; (repeat' split) <;> simp

@[simp] theorem handCrosspoint_frame (p : Pnl) (y : Pty) (s : State) :
    (handCrosspoint p y s).timing = s.timing ∧ (handCrosspoint p y s).defs = s.defs ∧
    (handCrosspoint p y s).routes = s.routes ∧ (handCrosspoint p y s).salvos = s.salvos ∧
    (handCrosspoint p y s).take = s.take ∧ (handCrosspoint p y s).tally = s.tally ∧
    (handCrosspoint p y s).guards = s.guards ∧ (handCrosspoint p y s).lines = s.lines ∧
    (handCrosspoint p y s).links = s.links ∧ (handCrosspoint p y s).ctl = s.ctl ∧
    (handCrosspoint p y s).store = s.store ∧ (handCrosspoint p y s).free = s.free ∧
    (handCrosspoint p y s).pending = s.pending := by
  unfold handCrosspoint; (repeat' split) <;> simp

@[simp] theorem holdUp_frame (p : Pnl) (y : Pty) (s : State) :
    (holdUp p y s).timing = s.timing ∧ (holdUp p y s).defs = s.defs ∧
    (holdUp p y s).routes = s.routes ∧ (holdUp p y s).salvos = s.salvos ∧
    (holdUp p y s).take = s.take ∧ (holdUp p y s).tally = s.tally ∧
    (holdUp p y s).guards = s.guards ∧ (holdUp p y s).lines = s.lines ∧
    (holdUp p y s).links = s.links ∧ (holdUp p y s).ctl = s.ctl ∧
    (holdUp p y s).store = s.store ∧ (holdUp p y s).free = s.free ∧
    (holdUp p y s).pending = s.pending := by
  unfold holdUp; dsimp only; split <;> simp

@[simp] theorem holdDown_frame (p : Pnl) (y : Pty) (s : State) :
    (holdDown p y s).timing = s.timing ∧ (holdDown p y s).defs = s.defs ∧
    (holdDown p y s).routes = s.routes ∧ (holdDown p y s).salvos = s.salvos ∧
    (holdDown p y s).take = s.take ∧ (holdDown p y s).tally = s.tally ∧
    (holdDown p y s).guards = s.guards ∧ (holdDown p y s).lines = s.lines ∧
    (holdDown p y s).links = s.links ∧ (holdDown p y s).ctl = s.ctl ∧
    (holdDown p y s).store = s.store ∧ (holdDown p y s).free = s.free ∧
    (holdDown p y s).pending = s.pending := by
  unfold holdDown; dsimp only; split <;> simp

@[simp] theorem countCall_frame (y : Pty) (f : Nat → Nat) (s : State) :
    (countCall y f s).timing = s.timing ∧ (countCall y f s).defs = s.defs ∧
    (countCall y f s).routes = s.routes ∧ (countCall y f s).salvos = s.salvos ∧
    (countCall y f s).take = s.take ∧ (countCall y f s).talk = s.talk ∧
    (countCall y f s).guards = s.guards ∧ (countCall y f s).lines = s.lines ∧
    (countCall y f s).links = s.links ∧ (countCall y f s).ctl = s.ctl ∧
    (countCall y f s).store = s.store ∧ (countCall y f s).free = s.free ∧
    (countCall y f s).pending = s.pending := by
  unfold countCall; (repeat' split) <;> simp

@[simp] theorem joinList_frame (k : KeyId) (d : Dst) (s : State) :
    (joinList k d s).timing = s.timing ∧ (joinList k d s).defs = s.defs ∧
    (joinList k d s).salvos = s.salvos ∧ (joinList k d s).tally = s.tally ∧
    (joinList k d s).talk = s.talk ∧ (joinList k d s).guards = s.guards ∧
    (joinList k d s).lines = s.lines ∧ (joinList k d s).links = s.links ∧
    (joinList k d s).ctl = s.ctl ∧ (joinList k d s).store = s.store ∧
    (joinList k d s).free = s.free ∧ (joinList k d s).pending = s.pending := by
  simp [joinList]

@[simp] theorem leaveList_frame (k : KeyId) (d : Dst) (s : State) :
    (leaveList k d s).timing = s.timing ∧ (leaveList k d s).defs = s.defs ∧
    (leaveList k d s).salvos = s.salvos ∧ (leaveList k d s).tally = s.tally ∧
    (leaveList k d s).talk = s.talk ∧ (leaveList k d s).guards = s.guards ∧
    (leaveList k d s).lines = s.lines ∧ (leaveList k d s).links = s.links ∧
    (leaveList k d s).ctl = s.ctl ∧ (leaveList k d s).store = s.store ∧
    (leaveList k d s).free = s.free ∧ (leaveList k d s).pending = s.pending := by
  simp [leaveList]

@[simp] theorem enterTalk_frame (k : KeyId) (x : KeyTarget) (s : State) :
    (enterTalk k x s).timing = s.timing ∧ (enterTalk k x s).defs = s.defs ∧
    (enterTalk k x s).salvos = s.salvos ∧ (enterTalk k x s).guards = s.guards ∧
    (enterTalk k x s).lines = s.lines ∧ (enterTalk k x s).links = s.links ∧
    (enterTalk k x s).ctl = s.ctl ∧ (enterTalk k x s).store = s.store ∧
    (enterTalk k x s).free = s.free ∧ (enterTalk k x s).pending = s.pending := by
  unfold enterTalk; split <;> (try dsimp only) <;> (try split) <;> simp

@[simp] theorem leaveTalk_frame (k : KeyId) (x : KeyTarget) (s : State) :
    (leaveTalk k x s).timing = s.timing ∧ (leaveTalk k x s).defs = s.defs ∧
    (leaveTalk k x s).salvos = s.salvos ∧ (leaveTalk k x s).guards = s.guards ∧
    (leaveTalk k x s).lines = s.lines ∧ (leaveTalk k x s).links = s.links ∧
    (leaveTalk k x s).ctl = s.ctl ∧ (leaveTalk k x s).store = s.store ∧
    (leaveTalk k x s).free = s.free ∧ (leaveTalk k x s).pending = s.pending := by
  unfold leaveTalk; split <;> (try dsimp only) <;> (try split) <;> simp

@[simp] theorem moveKey_frame (k : KeyId) (new : KeyState) (s : State) :
    (moveKey k new s).timing = s.timing ∧ (moveKey k new s).defs = s.defs ∧
    (moveKey k new s).salvos = s.salvos ∧ (moveKey k new s).guards = s.guards ∧
    (moveKey k new s).lines = s.lines ∧ (moveKey k new s).links = s.links ∧
    (moveKey k new s).ctl = s.ctl ∧ (moveKey k new s).store = s.store ∧
    (moveKey k new s).free = s.free ∧ (moveKey k new s).pending = s.pending := by
  unfold moveKey; dsimp only; (repeat' split) <;> simp

@[simp] theorem moveKeys_frame (ks : List KeyId) (f : KeyState → KeyState) (s : State) :
    (moveKeys ks f s).timing = s.timing ∧ (moveKeys ks f s).defs = s.defs ∧
    (moveKeys ks f s).salvos = s.salvos ∧ (moveKeys ks f s).guards = s.guards ∧
    (moveKeys ks f s).lines = s.lines ∧ (moveKeys ks f s).links = s.links ∧
    (moveKeys ks f s).ctl = s.ctl ∧ (moveKeys ks f s).store = s.store ∧
    (moveKeys ks f s).free = s.free ∧ (moveKeys ks f s).pending = s.pending := by
  unfold moveKeys
  induction ks generalizing s with
  | nil => simp
  | cons k ks ih => rw [List.foldl_cons]; have := ih (moveKey k (f (s.key k).state) s); simpa using this

@[simp] theorem place_frame (p : Pnl) (i : Item) (s : State) :
    (place p i s).timing = s.timing ∧ (place p i s).defs = s.defs ∧
    (place p i s).routes = s.routes ∧ (place p i s).salvos = s.salvos ∧
    (place p i s).take = s.take ∧ (place p i s).tally = s.tally ∧
    (place p i s).talk = s.talk ∧ (place p i s).guards = s.guards ∧
    (place p i s).lines = s.lines ∧ (place p i s).ctl = s.ctl ∧
    (place p i s).store = s.store ∧ (place p i s).free = s.free ∧
    (place p i s).pending = s.pending := by
  simp [place]

@[simp] theorem placeResponse_frame (typ tag : Byte) (code : Result) (ps : List Byte) (s : State) :
    (placeResponse typ tag code ps s).timing = s.timing ∧ (placeResponse typ tag code ps s).defs = s.defs ∧
    (placeResponse typ tag code ps s).routes = s.routes ∧ (placeResponse typ tag code ps s).salvos = s.salvos ∧
    (placeResponse typ tag code ps s).take = s.take ∧ (placeResponse typ tag code ps s).tally = s.tally ∧
    (placeResponse typ tag code ps s).talk = s.talk ∧ (placeResponse typ tag code ps s).guards = s.guards ∧
    (placeResponse typ tag code ps s).lines = s.lines ∧ (placeResponse typ tag code ps s).links = s.links ∧
    (placeResponse typ tag code ps s).store = s.store ∧ (placeResponse typ tag code ps s).free = s.free ∧
    (placeResponse typ tag code ps s).pending = s.pending := by
  simp [placeResponse]

@[simp] theorem takeRequest_frame (typ tag : Byte) (s : State) :
    (takeRequest typ tag s).timing = s.timing ∧ (takeRequest typ tag s).defs = s.defs ∧
    (takeRequest typ tag s).routes = s.routes ∧ (takeRequest typ tag s).salvos = s.salvos ∧
    (takeRequest typ tag s).take = s.take ∧ (takeRequest typ tag s).tally = s.tally ∧
    (takeRequest typ tag s).talk = s.talk ∧ (takeRequest typ tag s).guards = s.guards ∧
    (takeRequest typ tag s).lines = s.lines ∧ (takeRequest typ tag s).links = s.links ∧
    (takeRequest typ tag s).store = s.store ∧ (takeRequest typ tag s).free = s.free ∧
    (takeRequest typ tag s).pending = s.pending := by
  simp [takeRequest]

@[simp] theorem answer_frame (o : Origin) (typ tag : Byte) (code : Result) (ps : List Byte) (s : State) :
    (answer o typ tag code ps s).timing = s.timing ∧ (answer o typ tag code ps s).defs = s.defs ∧
    (answer o typ tag code ps s).routes = s.routes ∧ (answer o typ tag code ps s).salvos = s.salvos ∧
    (answer o typ tag code ps s).take = s.take ∧ (answer o typ tag code ps s).tally = s.tally ∧
    (answer o typ tag code ps s).talk = s.talk ∧ (answer o typ tag code ps s).guards = s.guards ∧
    (answer o typ tag code ps s).lines = s.lines ∧ (answer o typ tag code ps s).store = s.store ∧
    (answer o typ tag code ps s).free = s.free ∧ (answer o typ tag code ps s).pending = s.pending := by
  unfold answer; split <;> simp

@[simp] theorem discardHeld_frame (o : Origin) (typ tag : Byte) (s : State) :
    (discardHeld o typ tag s).timing = s.timing ∧ (discardHeld o typ tag s).defs = s.defs ∧
    (discardHeld o typ tag s).routes = s.routes ∧ (discardHeld o typ tag s).salvos = s.salvos ∧
    (discardHeld o typ tag s).take = s.take ∧ (discardHeld o typ tag s).tally = s.tally ∧
    (discardHeld o typ tag s).talk = s.talk ∧ (discardHeld o typ tag s).guards = s.guards ∧
    (discardHeld o typ tag s).lines = s.lines ∧ (discardHeld o typ tag s).ctl = s.ctl ∧
    (discardHeld o typ tag s).store = s.store ∧ (discardHeld o typ tag s).free = s.free ∧
    (discardHeld o typ tag s).pending = s.pending := by
  unfold discardHeld; (repeat' split) <;> simp

@[simp] theorem outcome_frame (o : Origin) (kind : OutcomeKind) (tag : Byte) (code : Result) (ended : Bool) (detail : Byte) (s : State) :
    (outcome o kind tag code ended detail s).timing = s.timing ∧ (outcome o kind tag code ended detail s).defs = s.defs ∧
    (outcome o kind tag code ended detail s).routes = s.routes ∧ (outcome o kind tag code ended detail s).salvos = s.salvos ∧
    (outcome o kind tag code ended detail s).take = s.take ∧ (outcome o kind tag code ended detail s).tally = s.tally ∧
    (outcome o kind tag code ended detail s).talk = s.talk ∧ (outcome o kind tag code ended detail s).guards = s.guards ∧
    (outcome o kind tag code ended detail s).lines = s.lines ∧ (outcome o kind tag code ended detail s).ctl = s.ctl ∧
    (outcome o kind tag code ended detail s).store = s.store ∧ (outcome o kind tag code ended detail s).free = s.free ∧
    (outcome o kind tag code ended detail s).pending = s.pending := by
  unfold outcome; (repeat' split) <;> simp

@[simp] theorem placeAnswer_frame (o : Origin) (typ tag : Byte) (a : Answer) (s : State) :
    (place? o typ tag a s).timing = s.timing ∧ (place? o typ tag a s).defs = s.defs ∧
    (place? o typ tag a s).routes = s.routes ∧ (place? o typ tag a s).salvos = s.salvos ∧
    (place? o typ tag a s).take = s.take ∧ (place? o typ tag a s).tally = s.tally ∧
    (place? o typ tag a s).talk = s.talk ∧ (place? o typ tag a s).guards = s.guards ∧
    (place? o typ tag a s).lines = s.lines ∧ (place? o typ tag a s).store = s.store ∧
    (place? o typ tag a s).free = s.free ∧ (place? o typ tag a s).pending = s.pending := by
  unfold place?; split <;> simp

@[simp] theorem urgentDone_frame (x : State × UrgentResult) :
    (urgentDone x).timing = x.1.timing ∧ (urgentDone x).defs = x.1.defs ∧
    (urgentDone x).routes = x.1.routes ∧ (urgentDone x).salvos = x.1.salvos ∧
    (urgentDone x).take = x.1.take ∧ (urgentDone x).tally = x.1.tally ∧
    (urgentDone x).talk = x.1.talk ∧ (urgentDone x).guards = x.1.guards ∧
    (urgentDone x).lines = x.1.lines ∧ (urgentDone x).links = x.1.links ∧
    (urgentDone x).store = x.1.store ∧ (urgentDone x).free = x.1.free ∧
    (urgentDone x).pending = x.1.pending := by
  simp [urgentDone]

@[simp] theorem enterUp_frame (p : Pnl) (s : State) :
    (enterUp p s).timing = s.timing ∧ (enterUp p s).defs = s.defs ∧
    (enterUp p s).routes = s.routes ∧ (enterUp p s).salvos = s.salvos ∧
    (enterUp p s).take = s.take ∧ (enterUp p s).tally = s.tally ∧
    (enterUp p s).talk = s.talk ∧ (enterUp p s).guards = s.guards ∧
    (enterUp p s).lines = s.lines ∧ (enterUp p s).ctl = s.ctl ∧
    (enterUp p s).store = s.store ∧ (enterUp p s).free = s.free ∧
    (enterUp p s).pending = s.pending := by
  simp [enterUp]

@[simp] theorem payQuiesce_frame (owed : Option Byte) (x : LinkState) (s : State) :
    (payQuiesce owed x s).timing = s.timing ∧ (payQuiesce owed x s).defs = s.defs ∧
    (payQuiesce owed x s).routes = s.routes ∧ (payQuiesce owed x s).salvos = s.salvos ∧
    (payQuiesce owed x s).take = s.take ∧ (payQuiesce owed x s).tally = s.tally ∧
    (payQuiesce owed x s).talk = s.talk ∧ (payQuiesce owed x s).guards = s.guards ∧
    (payQuiesce owed x s).lines = s.lines ∧ (payQuiesce owed x s).links = s.links ∧
    (payQuiesce owed x s).store = s.store ∧ (payQuiesce owed x s).free = s.free ∧
    (payQuiesce owed x s).pending = s.pending := by
  unfold payQuiesce; (repeat' split) <;> simp

@[simp] theorem linkDown_frame (p : Pnl) (s : State) :
    (linkDown p s).timing = s.timing ∧ (linkDown p s).defs = s.defs ∧
    (linkDown p s).guards = s.guards ∧ (linkDown p s).free = s.free ∧
    (linkDown p s).pending = s.pending := by
  simp [linkDown]

@[simp] theorem enterQuiesced_frame (p : Pnl) (s : State) :
    (enterQuiesced p s).timing = s.timing ∧ (enterQuiesced p s).defs = s.defs ∧
    (enterQuiesced p s).salvos = s.salvos ∧ (enterQuiesced p s).guards = s.guards ∧
    (enterQuiesced p s).store = s.store ∧ (enterQuiesced p s).free = s.free ∧
    (enterQuiesced p s).pending = s.pending := by
  simp [enterQuiesced]

@[simp] theorem testQuiesced_frame (p : Pnl) (s : State) :
    (testQuiesced p s).timing = s.timing ∧ (testQuiesced p s).defs = s.defs ∧
    (testQuiesced p s).salvos = s.salvos ∧ (testQuiesced p s).guards = s.guards ∧
    (testQuiesced p s).store = s.store ∧ (testQuiesced p s).free = s.free ∧
    (testQuiesced p s).pending = s.pending := by
  unfold testQuiesced; (repeat' split) <;> simp

@[simp] theorem dropSalvos_frame (p : Pnl) (s : State) :
    (dropSalvos p s).timing = s.timing ∧ (dropSalvos p s).defs = s.defs ∧
    (dropSalvos p s).routes = s.routes ∧ (dropSalvos p s).take = s.take ∧
    (dropSalvos p s).tally = s.tally ∧ (dropSalvos p s).talk = s.talk ∧
    (dropSalvos p s).guards = s.guards ∧ (dropSalvos p s).lines = s.lines ∧
    (dropSalvos p s).ctl = s.ctl ∧ (dropSalvos p s).store = s.store ∧
    (dropSalvos p s).free = s.free ∧ (dropSalvos p s).pending = s.pending := by
  unfold dropSalvos
  dsimp only
  have key : ∀ (xs : List PendingSalvo) (f : PendingSalvo → State → State),
      (∀ x u, ((f x u).timing = u.timing ∧ (f x u).defs = u.defs ∧ (f x u).routes = u.routes ∧
        (f x u).take = u.take ∧ (f x u).tally = u.tally ∧ (f x u).talk = u.talk ∧ (f x u).guards = u.guards ∧
        (f x u).lines = u.lines ∧ (f x u).ctl = u.ctl ∧ (f x u).store = u.store ∧ (f x u).free = u.free ∧
        (f x u).pending = u.pending)) → ∀ u : State, ∀ t, t = xs.foldl (fun t x => f x t) u →
      (t.timing = u.timing ∧ t.defs = u.defs ∧ t.routes = u.routes ∧
        t.take = u.take ∧ t.tally = u.tally ∧ t.talk = u.talk ∧ t.guards = u.guards ∧
        t.lines = u.lines ∧ t.ctl = u.ctl ∧ t.store = u.store ∧ t.free = u.free ∧
        t.pending = u.pending) := by
    intro xs f h
    induction xs with
    | nil => rintro u t rfl; simp
    | cons x xs ih => rintro u t rfl; rw [List.foldl_cons]; have := ih (f x u) _ rfl; simpa [h x u] using this
  have h := key (s.salvos.filter fun x => decide (x.orig = Origin.panel p))
    (fun x t => outcome (.panel p) (salvoKind x.isRecall) x.tag .dropped true 255 t) (fun x u => by simp)
    { s with salvos := s.salvos.filter fun x => x.orig != Origin.panel p } _ rfl
  simpa using h

@[simp] theorem startQuiesce_frame (p : Pnl) (owed : Option Byte) (s : State) :
    (startQuiesce p owed s).timing = s.timing ∧ (startQuiesce p owed s).defs = s.defs ∧
    (startQuiesce p owed s).guards = s.guards ∧ (startQuiesce p owed s).store = s.store ∧
    (startQuiesce p owed s).free = s.free ∧ (startQuiesce p owed s).pending = s.pending := by
  simp [startQuiesce]

@[simp] theorem stagePairs_frame (o : Origin) (tag : Byte) (r : Bool) (i : Nat) (ps : List (Dst × Src)) (s : State) :
    (stagePairs o tag r i ps s).timing = s.timing ∧ (stagePairs o tag r i ps s).defs = s.defs ∧
    (stagePairs o tag r i ps s).salvos = s.salvos ∧ (stagePairs o tag r i ps s).tally = s.tally ∧
    (stagePairs o tag r i ps s).talk = s.talk ∧ (stagePairs o tag r i ps s).guards = s.guards ∧
    (stagePairs o tag r i ps s).lines = s.lines ∧ (stagePairs o tag r i ps s).links = s.links ∧
    (stagePairs o tag r i ps s).ctl = s.ctl ∧ (stagePairs o tag r i ps s).store = s.store ∧
    (stagePairs o tag r i ps s).free = s.free ∧ (stagePairs o tag r i ps s).pending = s.pending := by
  induction ps generalizing s i with
  | nil => simp [stagePairs]
  | cons p ps ih => simp [stagePairs, ih]

@[simp] theorem stageSalvo_frame (o : Origin) (tag : Byte) (r : Bool) (ps : List (Dst × Src)) (s : State) :
    (stageSalvo o tag r ps s).timing = s.timing ∧ (stageSalvo o tag r ps s).defs = s.defs ∧
    (stageSalvo o tag r ps s).salvos = s.salvos ∧ (stageSalvo o tag r ps s).tally = s.tally ∧
    (stageSalvo o tag r ps s).talk = s.talk ∧ (stageSalvo o tag r ps s).guards = s.guards ∧
    (stageSalvo o tag r ps s).lines = s.lines ∧ (stageSalvo o tag r ps s).links = s.links ∧
    (stageSalvo o tag r ps s).ctl = s.ctl ∧ (stageSalvo o tag r ps s).store = s.store ∧
    (stageSalvo o tag r ps s).free = s.free ∧ (stageSalvo o tag r ps s).pending = s.pending := by
  simp [stageSalvo]

@[simp] theorem joinSalvos_frame (x : PendingSalvo) (s : State) :
    (joinSalvos x s).timing = s.timing ∧ (joinSalvos x s).defs = s.defs ∧
    (joinSalvos x s).routes = s.routes ∧ (joinSalvos x s).take = s.take ∧
    (joinSalvos x s).tally = s.tally ∧ (joinSalvos x s).talk = s.talk ∧
    (joinSalvos x s).guards = s.guards ∧ (joinSalvos x s).lines = s.lines ∧
    (joinSalvos x s).links = s.links ∧ (joinSalvos x s).ctl = s.ctl ∧
    (joinSalvos x s).store = s.store ∧ (joinSalvos x s).free = s.free ∧
    (joinSalvos x s).pending = s.pending := by
  simp [joinSalvos]

@[simp] theorem removeSalvo_frame (m : Mark) (s : State) :
    (removeSalvo m s).timing = s.timing ∧ (removeSalvo m s).defs = s.defs ∧
    (removeSalvo m s).salvos = s.salvos ∧ (removeSalvo m s).take = s.take ∧
    (removeSalvo m s).tally = s.tally ∧ (removeSalvo m s).talk = s.talk ∧
    (removeSalvo m s).guards = s.guards ∧ (removeSalvo m s).lines = s.lines ∧
    (removeSalvo m s).links = s.links ∧ (removeSalvo m s).ctl = s.ctl ∧
    (removeSalvo m s).store = s.store ∧ (removeSalvo m s).free = s.free ∧
    (removeSalvo m s).pending = s.pending := by
  simp [removeSalvo]

@[simp] theorem requeue_frame (x : PendingSalvo) (s : State) :
    (requeue x s).timing = s.timing ∧ (requeue x s).defs = s.defs ∧
    (requeue x s).routes = s.routes ∧ (requeue x s).take = s.take ∧
    (requeue x s).tally = s.tally ∧ (requeue x s).talk = s.talk ∧
    (requeue x s).guards = s.guards ∧ (requeue x s).lines = s.lines ∧
    (requeue x s).ctl = s.ctl ∧ (requeue x s).store = s.store ∧
    (requeue x s).free = s.free ∧ (requeue x s).pending = s.pending := by
  unfold requeue; dsimp only; (repeat' split) <;> simp

@[simp] theorem unstageAt_frame (d : Dst) (s : State) :
    (unstageAt s d).timing = s.timing ∧ (unstageAt s d).defs = s.defs ∧
    (unstageAt s d).take = s.take ∧ (unstageAt s d).tally = s.tally ∧
    (unstageAt s d).talk = s.talk ∧ (unstageAt s d).guards = s.guards ∧
    (unstageAt s d).lines = s.lines ∧ (unstageAt s d).ctl = s.ctl ∧
    (unstageAt s d).store = s.store ∧ (unstageAt s d).free = s.free ∧
    (unstageAt s d).pending = s.pending := by
  unfold unstageAt; (repeat' split) <;> simp

@[simp] theorem unstageSalvos_frame (ds : List Dst) (s : State) :
    (unstageSalvos ds s).timing = s.timing ∧ (unstageSalvos ds s).defs = s.defs ∧
    (unstageSalvos ds s).take = s.take ∧ (unstageSalvos ds s).tally = s.tally ∧
    (unstageSalvos ds s).talk = s.talk ∧ (unstageSalvos ds s).guards = s.guards ∧
    (unstageSalvos ds s).lines = s.lines ∧ (unstageSalvos ds s).ctl = s.ctl ∧
    (unstageSalvos ds s).store = s.store ∧ (unstageSalvos ds s).free = s.free ∧
    (unstageSalvos ds s).pending = s.pending := by
  unfold unstageSalvos
  generalize (fins 48).filter (fun d => ds.contains d) = es
  induction es generalizing s with
  | nil => simp
  | cons e es ih => rw [List.foldl_cons]; have := ih (unstageAt s e); simpa using this

@[simp] theorem examine_frame (xs : List PendingSalvo) (s : State) :
    ((examine xs s).1).timing = s.timing ∧ ((examine xs s).1).defs = s.defs ∧
    ((examine xs s).1).salvos = s.salvos ∧ ((examine xs s).1).tally = s.tally ∧
    ((examine xs s).1).talk = s.talk ∧ ((examine xs s).1).guards = s.guards ∧
    ((examine xs s).1).lines = s.lines ∧ ((examine xs s).1).ctl = s.ctl ∧
    ((examine xs s).1).store = s.store ∧ ((examine xs s).1).free = s.free ∧
    ((examine xs s).1).pending = s.pending := by
  induction xs generalizing s with
  | nil => simp [examine]
  | cons x xs ih => unfold examine; dsimp only; (repeat' split) <;> simp [ih]

@[simp] theorem examineQueue_frame (s : State) :
    (examineQueue s).timing = s.timing ∧ (examineQueue s).defs = s.defs ∧
    (examineQueue s).tally = s.tally ∧ (examineQueue s).talk = s.talk ∧
    (examineQueue s).guards = s.guards ∧ (examineQueue s).lines = s.lines ∧
    (examineQueue s).ctl = s.ctl ∧ (examineQueue s).store = s.store ∧
    (examineQueue s).free = s.free ∧ (examineQueue s).pending = s.pending := by
  simp [examineQueue]

@[simp] theorem firstOutcome_frame (op : StoreOp) (code : Result) (ended : Bool) (pair : Option Nat) (s : State) :
    (firstOutcome op code ended pair s).timing = s.timing ∧ (firstOutcome op code ended pair s).defs = s.defs ∧
    (firstOutcome op code ended pair s).routes = s.routes ∧ (firstOutcome op code ended pair s).salvos = s.salvos ∧
    (firstOutcome op code ended pair s).take = s.take ∧ (firstOutcome op code ended pair s).tally = s.tally ∧
    (firstOutcome op code ended pair s).talk = s.talk ∧ (firstOutcome op code ended pair s).guards = s.guards ∧
    (firstOutcome op code ended pair s).lines = s.lines ∧ (firstOutcome op code ended pair s).store = s.store ∧
    (firstOutcome op code ended pair s).free = s.free ∧ (firstOutcome op code ended pair s).pending = s.pending := by
  unfold firstOutcome; (repeat' split) <;> simp

@[simp] theorem tellLink_frame (o : Origin) (s : State) :
    (tellLink o s).timing = s.timing ∧ (tellLink o s).defs = s.defs ∧
    (tellLink o s).salvos = s.salvos ∧ (tellLink o s).guards = s.guards ∧
    (tellLink o s).store = s.store ∧ (tellLink o s).free = s.free ∧
    (tellLink o s).pending = s.pending := by
  unfold tellLink; (repeat' split) <;> simp

@[simp] theorem openPort_frame (s : State) :
    (openPort s).timing = s.timing ∧ (openPort s).defs = s.defs ∧
    (openPort s).routes = s.routes ∧ (openPort s).salvos = s.salvos ∧
    (openPort s).take = s.take ∧ (openPort s).tally = s.tally ∧
    (openPort s).talk = s.talk ∧ (openPort s).guards = s.guards ∧
    (openPort s).lines = s.lines ∧ (openPort s).links = s.links ∧
    (openPort s).ctl = s.ctl ∧ (openPort s).free = s.free ∧
    (openPort s).pending = s.pending := by
  simp [openPort]

@[simp] theorem sendPort_frame (cs : List PortCmd) (s : State) :
    (sendPort cs s).timing = s.timing ∧ (sendPort cs s).defs = s.defs ∧
    (sendPort cs s).routes = s.routes ∧ (sendPort cs s).salvos = s.salvos ∧
    (sendPort cs s).take = s.take ∧ (sendPort cs s).tally = s.tally ∧
    (sendPort cs s).talk = s.talk ∧ (sendPort cs s).guards = s.guards ∧
    (sendPort cs s).lines = s.lines ∧ (sendPort cs s).links = s.links ∧
    (sendPort cs s).ctl = s.ctl ∧ (sendPort cs s).free = s.free ∧
    (sendPort cs s).pending = s.pending := by
  simp [sendPort]

@[simp] theorem startOps_frame (xs : List StoreOp) (s : State) :
    (startOps xs s).timing = s.timing ∧ (startOps xs s).defs = s.defs ∧
    (startOps xs s).salvos = s.salvos ∧ (startOps xs s).guards = s.guards ∧
    (startOps xs s).free = s.free ∧ (startOps xs s).pending = s.pending := by
  induction xs generalizing s with
  | nil => simp [startOps]
  | cons x xs ih => unfold startOps; dsimp only; (repeat' split) <;> simp [ih]

@[simp] theorem joinStore_frame (op : StoreOp) (s : State) :
    (joinStore op s).timing = s.timing ∧ (joinStore op s).defs = s.defs ∧
    (joinStore op s).salvos = s.salvos ∧ (joinStore op s).guards = s.guards ∧
    (joinStore op s).free = s.free ∧ (joinStore op s).pending = s.pending := by
  unfold joinStore; (repeat' split) <;> simp

@[simp] theorem afterOp_frame (wanted : Option Byte) (s : State) :
    (afterOp wanted s).timing = s.timing ∧ (afterOp wanted s).defs = s.defs ∧
    (afterOp wanted s).salvos = s.salvos ∧ (afterOp wanted s).guards = s.guards ∧
    (afterOp wanted s).free = s.free ∧ (afterOp wanted s).pending = s.pending := by
  unfold afterOp; (repeat' split) <;> simp

@[simp] theorem endOp_frame (op : StoreOp) (marked : Bool) (wanted : Option Byte) (s : State) :
    (endOp op marked wanted s).timing = s.timing ∧ (endOp op marked wanted s).defs = s.defs ∧
    (endOp op marked wanted s).salvos = s.salvos ∧ (endOp op marked wanted s).guards = s.guards ∧
    (endOp op marked wanted s).free = s.free ∧ (endOp op marked wanted s).pending = s.pending := by
  unfold endOp; dsimp only; split <;> simp

@[simp] theorem landWord_frame (w : Nat × Word) (s : State) :
    (landWord w s).timing = s.timing ∧ (landWord w s).defs = s.defs ∧
    (landWord w s).routes = s.routes ∧ (landWord w s).salvos = s.salvos ∧
    (landWord w s).take = s.take ∧ (landWord w s).tally = s.tally ∧
    (landWord w s).talk = s.talk ∧ (landWord w s).guards = s.guards ∧
    (landWord w s).lines = s.lines ∧ (landWord w s).links = s.links ∧
    (landWord w s).ctl = s.ctl ∧ (landWord w s).free = s.free ∧
    (landWord w s).pending = s.pending := by
  simp [landWord]

@[simp] theorem sendWord_frame (w : Nat × Word) (s : State) :
    (sendWord w s).timing = s.timing ∧ (sendWord w s).defs = s.defs ∧
    (sendWord w s).routes = s.routes ∧ (sendWord w s).salvos = s.salvos ∧
    (sendWord w s).take = s.take ∧ (sendWord w s).tally = s.tally ∧
    (sendWord w s).talk = s.talk ∧ (sendWord w s).guards = s.guards ∧
    (sendWord w s).lines = s.lines ∧ (sendWord w s).links = s.links ∧
    (sendWord w s).ctl = s.ctl ∧ (sendWord w s).free = s.free ∧
    (sendWord w s).pending = s.pending := by
  simp [sendWord]

@[simp] theorem closeSequence_frame (s : State) :
    (closeSequence s).timing = s.timing ∧ (closeSequence s).defs = s.defs ∧
    (closeSequence s).routes = s.routes ∧ (closeSequence s).salvos = s.salvos ∧
    (closeSequence s).take = s.take ∧ (closeSequence s).tally = s.tally ∧
    (closeSequence s).talk = s.talk ∧ (closeSequence s).guards = s.guards ∧
    (closeSequence s).lines = s.lines ∧ (closeSequence s).links = s.links ∧
    (closeSequence s).ctl = s.ctl ∧ (closeSequence s).free = s.free ∧
    (closeSequence s).pending = s.pending := by
  simp [closeSequence]

@[simp] theorem wordReady_frame (s : State) :
    (wordReady s).timing = s.timing ∧ (wordReady s).defs = s.defs ∧
    (wordReady s).salvos = s.salvos ∧ (wordReady s).guards = s.guards ∧
    (wordReady s).free = s.free ∧ (wordReady s).pending = s.pending := by
  unfold wordReady; (repeat' split) <;> (try dsimp only) <;> simp

@[simp] theorem submitRecall_frame (op : StoreOp) (raw : List (Nat × Nat)) (s : State) :
    (submitRecall op raw s).timing = s.timing ∧ (submitRecall op raw s).defs = s.defs ∧
    (submitRecall op raw s).tally = s.tally ∧ (submitRecall op raw s).talk = s.talk ∧
    (submitRecall op raw s).guards = s.guards ∧ (submitRecall op raw s).lines = s.lines ∧
    (submitRecall op raw s).store = s.store ∧ (submitRecall op raw s).free = s.free ∧
    (submitRecall op raw s).pending = s.pending := by
  unfold submitRecall; (repeat' split) <;> simp

@[simp] theorem recallResult_frame (op : StoreOp) (s : State) :
    (recallResult op s).timing = s.timing ∧ (recallResult op s).defs = s.defs ∧
    (recallResult op s).tally = s.tally ∧ (recallResult op s).talk = s.talk ∧
    (recallResult op s).guards = s.guards ∧ (recallResult op s).lines = s.lines ∧
    (recallResult op s).store = s.store ∧ (recallResult op s).free = s.free ∧
    (recallResult op s).pending = s.pending := by
  unfold recallResult; (repeat' split) <;> simp

@[simp] theorem readDone_frame (s : State) :
    (readDone s).timing = s.timing ∧ (readDone s).defs = s.defs ∧
    (readDone s).guards = s.guards ∧ (readDone s).free = s.free ∧
    (readDone s).pending = s.pending := by
  unfold readDone; (repeat' split) <;> simp

@[simp] theorem holdPair_frame (g : Gid) (p : Dst × Src) (s : State) :
    (holdPair g s p).timing = s.timing ∧ (holdPair g s p).defs = s.defs ∧
    (holdPair g s p).salvos = s.salvos ∧ (holdPair g s p).tally = s.tally ∧
    (holdPair g s p).talk = s.talk ∧ (holdPair g s p).guards = s.guards ∧
    (holdPair g s p).lines = s.lines ∧ (holdPair g s p).links = s.links ∧
    (holdPair g s p).ctl = s.ctl ∧ (holdPair g s p).store = s.store ∧
    (holdPair g s p).free = s.free ∧ (holdPair g s p).pending = s.pending := by
  simp [holdPair]

@[simp] theorem trip_frame (g : Gid) (s : State) :
    (trip g s).timing = s.timing ∧ (trip g s).defs = s.defs ∧
    (trip g s).tally = s.tally ∧ (trip g s).talk = s.talk ∧
    (trip g s).store = s.store ∧ (trip g s).free = s.free ∧
    (trip g s).pending = s.pending := by
  have key : ∀ (ps : List (Dst × Src)) (u t : State), t = ps.foldl (holdPair g) u →
      (t.timing = u.timing ∧ t.defs = u.defs ∧ t.salvos = u.salvos ∧ t.tally = u.tally ∧ t.talk = u.talk ∧
        t.guards = u.guards ∧ t.lines = u.lines ∧ t.links = u.links ∧ t.ctl = u.ctl ∧ t.store = u.store ∧
        t.free = u.free ∧ t.pending = u.pending) := by
    intro ps
    induction ps with
    | nil => rintro u t rfl; simp
    | cons p ps ih => rintro u t rfl; rw [List.foldl_cons]; have := ih (holdPair g u p) _ rfl; simpa using this
  have h := key (s.guard g).defn.fallback (unstageSalvos ((s.guard g).defn.fallback.map Prod.fst) s) _ rfl
  unfold trip
  simp [h]

@[simp] theorem stageReturns_frame (g : Gid) (ds : List Dst) (r : List Src) (s : State) :
    (stageReturns g ds r s).timing = s.timing ∧ (stageReturns g ds r s).defs = s.defs ∧
    (stageReturns g ds r s).salvos = s.salvos ∧ (stageReturns g ds r s).tally = s.tally ∧
    (stageReturns g ds r s).talk = s.talk ∧ (stageReturns g ds r s).guards = s.guards ∧
    (stageReturns g ds r s).lines = s.lines ∧ (stageReturns g ds r s).links = s.links ∧
    (stageReturns g ds r s).ctl = s.ctl ∧ (stageReturns g ds r s).store = s.store ∧
    (stageReturns g ds r s).free = s.free ∧ (stageReturns g ds r s).pending = s.pending := by
  unfold stageReturns
  generalize ds.zip r = ps
  induction ps generalizing s with
  | nil => simp
  | cons p ps ih => rw [List.foldl_cons]; have := ih (stageOn p.1 (.guarded p.2 g) s); simpa using this

@[simp] theorem endHolds_frame (ds : List Dst) (s : State) :
    (endHolds ds s).timing = s.timing ∧ (endHolds ds s).defs = s.defs ∧
    (endHolds ds s).salvos = s.salvos ∧ (endHolds ds s).take = s.take ∧
    (endHolds ds s).tally = s.tally ∧ (endHolds ds s).talk = s.talk ∧
    (endHolds ds s).guards = s.guards ∧ (endHolds ds s).lines = s.lines ∧
    (endHolds ds s).links = s.links ∧ (endHolds ds s).ctl = s.ctl ∧
    (endHolds ds s).store = s.store ∧ (endHolds ds s).free = s.free ∧
    (endHolds ds s).pending = s.pending := by
  unfold endHolds
  induction ds generalizing s with
  | nil => simp
  | cons d ds ih => rw [List.foldl_cons]; have := ih (s.setEntry d { s.entry d with hold := none }); simpa using this

@[simp] theorem restore_frame (g : Gid) (r : List Src) (s : State) :
    (restore g r s).timing = s.timing ∧ (restore g r s).defs = s.defs ∧
    (restore g r s).tally = s.tally ∧ (restore g r s).talk = s.talk ∧
    (restore g r s).ctl = s.ctl ∧ (restore g r s).store = s.store ∧
    (restore g r s).free = s.free ∧ (restore g r s).pending = s.pending := by
  simp [restore]

@[simp] theorem applyDirty_frame (s : State) :
    (applyDirty s).timing = s.timing ∧ (applyDirty s).defs = s.defs ∧
    (applyDirty s).salvos = s.salvos ∧ (applyDirty s).take = s.take ∧
    (applyDirty s).tally = s.tally ∧ (applyDirty s).talk = s.talk ∧
    (applyDirty s).guards = s.guards ∧ (applyDirty s).lines = s.lines ∧
    (applyDirty s).links = s.links ∧ (applyDirty s).ctl = s.ctl ∧
    (applyDirty s).store = s.store ∧ (applyDirty s).free = s.free ∧
    (applyDirty s).pending = s.pending := by
  simp [applyDirty]

@[simp] theorem takeDirty_frame (s : State) :
    (takeDirty s).timing = s.timing ∧ (takeDirty s).defs = s.defs ∧
    (takeDirty s).salvos = s.salvos ∧ (takeDirty s).tally = s.tally ∧
    (takeDirty s).talk = s.talk ∧ (takeDirty s).guards = s.guards ∧
    (takeDirty s).lines = s.lines ∧ (takeDirty s).links = s.links ∧
    (takeDirty s).ctl = s.ctl ∧ (takeDirty s).store = s.store ∧
    (takeDirty s).free = s.free ∧ (takeDirty s).pending = s.pending := by
  simp [takeDirty]

@[simp] theorem takeEvent_frame (s : State) :
    (takeEvent s).timing = s.timing ∧ (takeEvent s).defs = s.defs ∧
    (takeEvent s).salvos = s.salvos ∧ (takeEvent s).tally = s.tally ∧
    (takeEvent s).talk = s.talk ∧ (takeEvent s).guards = s.guards ∧
    (takeEvent s).lines = s.lines ∧ (takeEvent s).links = s.links ∧
    (takeEvent s).ctl = s.ctl ∧ (takeEvent s).store = s.store ∧
    (takeEvent s).free = s.free ∧ (takeEvent s).pending = s.pending := by
  unfold takeEvent; dsimp only; split <;> simp

@[simp] theorem takeIfBegun_frame (s : State) :
    (takeIfBegun s).timing = s.timing ∧ (takeIfBegun s).defs = s.defs ∧
    (takeIfBegun s).salvos = s.salvos ∧ (takeIfBegun s).tally = s.tally ∧
    (takeIfBegun s).talk = s.talk ∧ (takeIfBegun s).guards = s.guards ∧
    (takeIfBegun s).lines = s.lines ∧ (takeIfBegun s).links = s.links ∧
    (takeIfBegun s).ctl = s.ctl ∧ (takeIfBegun s).store = s.store ∧
    (takeIfBegun s).free = s.free ∧ (takeIfBegun s).pending = s.pending := by
  unfold takeIfBegun; (repeat' split) <;> simp

@[simp] theorem pulse_frame (s : State) :
    (pulse s).timing = s.timing ∧ (pulse s).defs = s.defs ∧
    (pulse s).salvos = s.salvos ∧ (pulse s).tally = s.tally ∧
    (pulse s).talk = s.talk ∧ (pulse s).guards = s.guards ∧
    (pulse s).lines = s.lines ∧ (pulse s).links = s.links ∧
    (pulse s).ctl = s.ctl ∧ (pulse s).store = s.store ∧
    (pulse s).free = s.free ∧ (pulse s).pending = s.pending := by
  unfold pulse; (repeat' split) <;> simp

@[simp] theorem frameExpiry_frame (s : State) :
    (frameExpiry s).timing = s.timing ∧ (frameExpiry s).defs = s.defs ∧
    (frameExpiry s).salvos = s.salvos ∧ (frameExpiry s).tally = s.tally ∧
    (frameExpiry s).talk = s.talk ∧ (frameExpiry s).guards = s.guards ∧
    (frameExpiry s).lines = s.lines ∧ (frameExpiry s).links = s.links ∧
    (frameExpiry s).store = s.store ∧ (frameExpiry s).free = s.free ∧
    (frameExpiry s).pending = s.pending := by
  unfold frameExpiry; (repeat' split) <;> simp

@[simp] theorem sendCommand_frame (s : State) :
    (sendCommand s).timing = s.timing ∧ (sendCommand s).defs = s.defs ∧
    (sendCommand s).salvos = s.salvos ∧ (sendCommand s).talk = s.talk ∧
    (sendCommand s).guards = s.guards ∧ (sendCommand s).links = s.links ∧
    (sendCommand s).ctl = s.ctl ∧ (sendCommand s).store = s.store ∧
    (sendCommand s).free = s.free ∧ (sendCommand s).pending = s.pending := by
  unfold sendCommand; (repeat' split) <;> simp

@[simp] theorem giveBack_frame (p : Dst × Src) (s : State) :
    (giveBack s p).timing = s.timing ∧ (giveBack s p).defs = s.defs ∧
    (giveBack s p).salvos = s.salvos ∧ (giveBack s p).tally = s.tally ∧
    (giveBack s p).talk = s.talk ∧ (giveBack s p).guards = s.guards ∧
    (giveBack s p).lines = s.lines ∧ (giveBack s p).links = s.links ∧
    (giveBack s p).ctl = s.ctl ∧ (giveBack s p).store = s.store ∧
    (giveBack s p).free = s.free ∧ (giveBack s p).pending = s.pending := by
  simp [giveBack]

@[simp] theorem abandon_frame (s : State) :
    (abandon s).timing = s.timing ∧ (abandon s).defs = s.defs ∧
    (abandon s).salvos = s.salvos ∧ (abandon s).tally = s.tally ∧
    (abandon s).talk = s.talk ∧ (abandon s).guards = s.guards ∧
    (abandon s).lines = s.lines ∧ (abandon s).links = s.links ∧
    (abandon s).store = s.store ∧ (abandon s).free = s.free ∧
    (abandon s).pending = s.pending := by
  unfold abandon
  split
  next b hb =>
    have key : ∀ (ps : List (Dst × Src)) (u t : State), t = ps.foldl giveBack u →
        (t.timing = u.timing ∧ t.defs = u.defs ∧ t.salvos = u.salvos ∧ t.tally = u.tally ∧ t.talk = u.talk ∧
          t.guards = u.guards ∧ t.lines = u.lines ∧ t.links = u.links ∧ t.ctl = u.ctl ∧ t.store = u.store ∧
          t.free = u.free ∧ t.pending = u.pending) := by
      intro ps
      induction ps with
      | nil => rintro u t rfl; simp
      | cons p ps ih => rintro u t rfl; rw [List.foldl_cons]; have := ih (giveBack u p) _ rfl; simpa using this
    have h := key b.todo s _ rfl
    simp [h]
  · simp

@[simp] theorem report_frame (d : Dst) (x : Src) (s : State) :
    (report d x s).timing = s.timing ∧ (report d x s).defs = s.defs ∧
    (report d x s).salvos = s.salvos ∧ (report d x s).take = s.take ∧
    (report d x s).talk = s.talk ∧ (report d x s).guards = s.guards ∧
    (report d x s).links = s.links ∧ (report d x s).store = s.store ∧
    (report d x s).free = s.free ∧ (report d x s).pending = s.pending := by
  unfold report; dsimp only; split <;> simp

@[simp] theorem confirmExpiry_frame (d : Dst) (s : State) :
    (confirmExpiry d s).timing = s.timing ∧ (confirmExpiry d s).defs = s.defs ∧
    (confirmExpiry d s).salvos = s.salvos ∧ (confirmExpiry d s).take = s.take ∧
    (confirmExpiry d s).tally = s.tally ∧ (confirmExpiry d s).talk = s.talk ∧
    (confirmExpiry d s).guards = s.guards ∧ (confirmExpiry d s).lines = s.lines ∧
    (confirmExpiry d s).links = s.links ∧ (confirmExpiry d s).store = s.store ∧
    (confirmExpiry d s).free = s.free ∧ (confirmExpiry d s).pending = s.pending := by
  unfold confirmExpiry; (repeat' split) <;> simp

@[simp] theorem redefine_frame (d : Dst) (x : DestDef) (s : State) :
    (redefine d x s).timing = s.timing ∧ (redefine d x s).routes = s.routes ∧
    (redefine d x s).salvos = s.salvos ∧ (redefine d x s).take = s.take ∧
    (redefine d x s).talk = s.talk ∧ (redefine d x s).guards = s.guards ∧
    (redefine d x s).links = s.links ∧ (redefine d x s).ctl = s.ctl ∧
    (redefine d x s).store = s.store ∧ (redefine d x s).free = s.free ∧
    (redefine d x s).pending = s.pending := by
  simp [redefine]

@[simp] theorem setRecord_frame (a b : Tab Bool 24) (f : Bool) (s : State) :
    (setRecord a b f s).timing = s.timing ∧ (setRecord a b f s).defs = s.defs ∧
    (setRecord a b f s).routes = s.routes ∧ (setRecord a b f s).salvos = s.salvos ∧
    (setRecord a b f s).take = s.take ∧ (setRecord a b f s).talk = s.talk ∧
    (setRecord a b f s).guards = s.guards ∧ (setRecord a b f s).links = s.links ∧
    (setRecord a b f s).ctl = s.ctl ∧ (setRecord a b f s).store = s.store ∧
    (setRecord a b f s).free = s.free ∧ (setRecord a b f s).pending = s.pending := by
  simp [setRecord]

@[simp] theorem setSwitcher_frame (l : Option Pnl) (x : Option Src) (s : State) :
    (setSwitcher l x s).timing = s.timing ∧ (setSwitcher l x s).defs = s.defs ∧
    (setSwitcher l x s).routes = s.routes ∧ (setSwitcher l x s).salvos = s.salvos ∧
    (setSwitcher l x s).take = s.take ∧ (setSwitcher l x s).talk = s.talk ∧
    (setSwitcher l x s).guards = s.guards ∧ (setSwitcher l x s).links = s.links ∧
    (setSwitcher l x s).ctl = s.ctl ∧ (setSwitcher l x s).store = s.store ∧
    (setSwitcher l x s).free = s.free ∧ (setSwitcher l x s).pending = s.pending := by
  unfold setSwitcher; dsimp only; split <;> simp

@[simp] theorem mapChannel_frame (c : Chn) (x : Option Src) (s : State) :
    (mapChannel c x s).timing = s.timing ∧ (mapChannel c x s).defs = s.defs ∧
    (mapChannel c x s).routes = s.routes ∧ (mapChannel c x s).salvos = s.salvos ∧
    (mapChannel c x s).take = s.take ∧ (mapChannel c x s).talk = s.talk ∧
    (mapChannel c x s).guards = s.guards ∧ (mapChannel c x s).links = s.links ∧
    (mapChannel c x s).ctl = s.ctl ∧ (mapChannel c x s).store = s.store ∧
    (mapChannel c x s).free = s.free ∧ (mapChannel c x s).pending = s.pending := by
  simp [mapChannel]

@[simp] theorem setKeyDef_frame (k : KeyId) (f : Option KeyDef) (s : State) :
    (setKeyDef k f s).timing = s.timing ∧ (setKeyDef k f s).defs = s.defs ∧
    (setKeyDef k f s).routes = s.routes ∧ (setKeyDef k f s).salvos = s.salvos ∧
    (setKeyDef k f s).take = s.take ∧ (setKeyDef k f s).tally = s.tally ∧
    (setKeyDef k f s).guards = s.guards ∧ (setKeyDef k f s).lines = s.lines ∧
    (setKeyDef k f s).links = s.links ∧ (setKeyDef k f s).ctl = s.ctl ∧
    (setKeyDef k f s).store = s.store ∧ (setKeyDef k f s).free = s.free ∧
    (setKeyDef k f s).pending = s.pending := by
  simp [setKeyDef]

@[simp] theorem thresholdExpiry_frame (k : KeyId) (s : State) :
    (thresholdExpiry k s).timing = s.timing ∧ (thresholdExpiry k s).defs = s.defs ∧
    (thresholdExpiry k s).salvos = s.salvos ∧ (thresholdExpiry k s).guards = s.guards ∧
    (thresholdExpiry k s).lines = s.lines ∧ (thresholdExpiry k s).links = s.links ∧
    (thresholdExpiry k s).ctl = s.ctl ∧ (thresholdExpiry k s).store = s.store ∧
    (thresholdExpiry k s).free = s.free ∧ (thresholdExpiry k s).pending = s.pending := by
  unfold thresholdExpiry; (repeat' split) <;> simp

@[simp] theorem latchLimitExpiry_frame (k : KeyId) (s : State) :
    (latchLimitExpiry k s).timing = s.timing ∧ (latchLimitExpiry k s).defs = s.defs ∧
    (latchLimitExpiry k s).salvos = s.salvos ∧ (latchLimitExpiry k s).guards = s.guards ∧
    (latchLimitExpiry k s).store = s.store ∧ (latchLimitExpiry k s).free = s.free ∧
    (latchLimitExpiry k s).pending = s.pending := by
  unfold latchLimitExpiry; (repeat' split) <;> simp

@[simp] theorem silence_frame (s : State) :
    (silence s).timing = s.timing ∧ (silence s).defs = s.defs ∧
    (silence s).salvos = s.salvos ∧ (silence s).guards = s.guards ∧
    (silence s).store = s.store ∧ (silence s).free = s.free ∧
    (silence s).pending = s.pending := by
  have key : ∀ (ps : List Pnl) (u t : State), t = ps.foldl (fun t p => testQuiesced p t) u →
      (t.timing = u.timing ∧ t.defs = u.defs ∧ t.salvos = u.salvos ∧ t.guards = u.guards ∧ t.store = u.store ∧
        t.free = u.free ∧ t.pending = u.pending) := by
    intro ps
    induction ps with
    | nil => rintro u t rfl; simp
    | cons p ps ih => rintro u t rfl; rw [List.foldl_cons]; have := ih (testQuiesced p u) _ rfl; simpa using this
  have h := key (fins 8) (refresh (moveKeys (fins 128) talkOff s)) _ rfl
  unfold silence
  simp [h]

@[simp] theorem tripRequest_frame (g : Nat) (s : State) :
    ((tripRequest g s).1).timing = s.timing ∧ ((tripRequest g s).1).defs = s.defs ∧
    ((tripRequest g s).1).tally = s.tally ∧ ((tripRequest g s).1).talk = s.talk ∧
    ((tripRequest g s).1).store = s.store ∧ ((tripRequest g s).1).free = s.free ∧
    ((tripRequest g s).1).pending = s.pending := by
  unfold tripRequest; (repeat' split) <;> simp

@[simp] theorem silenceRequest_frame (s : State) :
    ((silenceRequest s).1).timing = s.timing ∧ ((silenceRequest s).1).defs = s.defs ∧
    ((silenceRequest s).1).salvos = s.salvos ∧ ((silenceRequest s).1).guards = s.guards ∧
    ((silenceRequest s).1).store = s.store ∧ ((silenceRequest s).1).free = s.free ∧
    ((silenceRequest s).1).pending = s.pending := by
  unfold silenceRequest; split <;> simp

@[simp] theorem takeUrgent_frame (body : List Byte) (s : State) :
    ((takeUrgent body s).1).timing = s.timing ∧ ((takeUrgent body s).1).defs = s.defs ∧
    ((takeUrgent body s).1).store = s.store ∧ ((takeUrgent body s).1).free = s.free ∧
    ((takeUrgent body s).1).pending = s.pending := by
  unfold takeUrgent; split <;> simp

@[simp] theorem sampleChange_frame (l : Lid) (b : Bool) (s : State) :
    (sampleChange l b s).timing = s.timing ∧ (sampleChange l b s).defs = s.defs ∧
    (sampleChange l b s).routes = s.routes ∧ (sampleChange l b s).salvos = s.salvos ∧
    (sampleChange l b s).take = s.take ∧ (sampleChange l b s).tally = s.tally ∧
    (sampleChange l b s).talk = s.talk ∧ (sampleChange l b s).links = s.links ∧
    (sampleChange l b s).ctl = s.ctl ∧ (sampleChange l b s).store = s.store ∧
    (sampleChange l b s).free = s.free ∧ (sampleChange l b s).pending = s.pending := by
  unfold sampleChange; dsimp only; (repeat' split) <;> simp [setPin]

@[simp] theorem setAssembling_frame (p : Pnl) (bs : List Byte) (s : State) :
    (setAssembling p bs s).timing = s.timing ∧ (setAssembling p bs s).defs = s.defs ∧
    (setAssembling p bs s).routes = s.routes ∧ (setAssembling p bs s).salvos = s.salvos ∧
    (setAssembling p bs s).take = s.take ∧ (setAssembling p bs s).tally = s.tally ∧
    (setAssembling p bs s).talk = s.talk ∧ (setAssembling p bs s).guards = s.guards ∧
    (setAssembling p bs s).lines = s.lines ∧ (setAssembling p bs s).ctl = s.ctl ∧
    (setAssembling p bs s).store = s.store ∧ (setAssembling p bs s).free = s.free ∧
    (setAssembling p bs s).pending = s.pending := by
  simp [setAssembling]

@[simp] theorem restartWatch_frame (p : Pnl) (s : State) :
    (restartWatch p s).timing = s.timing ∧ (restartWatch p s).defs = s.defs ∧
    (restartWatch p s).routes = s.routes ∧ (restartWatch p s).salvos = s.salvos ∧
    (restartWatch p s).take = s.take ∧ (restartWatch p s).tally = s.tally ∧
    (restartWatch p s).talk = s.talk ∧ (restartWatch p s).guards = s.guards ∧
    (restartWatch p s).lines = s.lines ∧ (restartWatch p s).ctl = s.ctl ∧
    (restartWatch p s).store = s.store ∧ (restartWatch p s).free = s.free ∧
    (restartWatch p s).pending = s.pending := by
  unfold restartWatch; (repeat' split) <;> simp

@[simp] theorem takeFrame_frame (p : Pnl) (body : List Byte) (s : State) :
    (takeFrame p body s).timing = s.timing ∧ (takeFrame p body s).defs = s.defs ∧
    (takeFrame p body s).routes = s.routes ∧ (takeFrame p body s).salvos = s.salvos ∧
    (takeFrame p body s).take = s.take ∧ (takeFrame p body s).tally = s.tally ∧
    (takeFrame p body s).talk = s.talk ∧ (takeFrame p body s).guards = s.guards ∧
    (takeFrame p body s).lines = s.lines ∧ (takeFrame p body s).ctl = s.ctl ∧
    (takeFrame p body s).store = s.store ∧ (takeFrame p body s).free = s.free ∧
    (takeFrame p body s).pending = s.pending := by
  unfold takeFrame offerFrame offerBusy holdRefused holdWaiting; dsimp only; (repeat' split) <;> simp

@[simp] theorem transmit_frame (s : State) :
    (transmit s).timing = s.timing ∧ (transmit s).defs = s.defs ∧
    (transmit s).routes = s.routes ∧ (transmit s).salvos = s.salvos ∧
    (transmit s).take = s.take ∧ (transmit s).tally = s.tally ∧
    (transmit s).talk = s.talk ∧ (transmit s).guards = s.guards ∧
    (transmit s).lines = s.lines ∧ (transmit s).ctl = s.ctl ∧
    (transmit s).store = s.store ∧ (transmit s).free = s.free ∧
    (transmit s).pending = s.pending := by
  simp [transmit]

@[simp] theorem takeByte_frame (p : Pnl) (b : Byte) (s : State) :
    (takeByte p s b).timing = s.timing ∧ (takeByte p s b).defs = s.defs ∧
    (takeByte p s b).routes = s.routes ∧ (takeByte p s b).salvos = s.salvos ∧
    (takeByte p s b).take = s.take ∧ (takeByte p s b).tally = s.tally ∧
    (takeByte p s b).talk = s.talk ∧ (takeByte p s b).guards = s.guards ∧
    (takeByte p s b).lines = s.lines ∧ (takeByte p s b).ctl = s.ctl ∧
    (takeByte p s b).store = s.store ∧ (takeByte p s b).free = s.free ∧
    (takeByte p s b).pending = s.pending := by
  unfold takeByte endFrame; dsimp only; (repeat' split) <;> simp

@[simp] theorem takeBytes_frame (p : Pnl) (bs : List Byte) (s : State) :
    (bs.foldl (takeByte p) s).timing = s.timing ∧ (bs.foldl (takeByte p) s).defs = s.defs ∧
    (bs.foldl (takeByte p) s).routes = s.routes ∧ (bs.foldl (takeByte p) s).salvos = s.salvos ∧
    (bs.foldl (takeByte p) s).take = s.take ∧ (bs.foldl (takeByte p) s).tally = s.tally ∧
    (bs.foldl (takeByte p) s).talk = s.talk ∧ (bs.foldl (takeByte p) s).guards = s.guards ∧
    (bs.foldl (takeByte p) s).lines = s.lines ∧ (bs.foldl (takeByte p) s).ctl = s.ctl ∧
    (bs.foldl (takeByte p) s).store = s.store ∧ (bs.foldl (takeByte p) s).free = s.free ∧
    (bs.foldl (takeByte p) s).pending = s.pending := by
  induction bs generalizing s with
  | nil => simp
  | cons b bs ih => rw [List.foldl_cons]; have := ih (takeByte p s b); simpa using this

@[simp] theorem frameEnd_frame (p : Pnl) (s : State) :
    (frameEnd p s).timing = s.timing ∧ (frameEnd p s).defs = s.defs ∧
    (frameEnd p s).routes = s.routes ∧ (frameEnd p s).salvos = s.salvos ∧
    (frameEnd p s).take = s.take ∧ (frameEnd p s).tally = s.tally ∧
    (frameEnd p s).talk = s.talk ∧ (frameEnd p s).guards = s.guards ∧
    (frameEnd p s).lines = s.lines ∧ (frameEnd p s).ctl = s.ctl ∧
    (frameEnd p s).store = s.store ∧ (frameEnd p s).free = s.free ∧
    (frameEnd p s).pending = s.pending := by
  unfold frameEnd; (repeat' split) <;> simp

@[simp] theorem setHoldTimer_frame (p : Pnl) (t : Option Nat) (s : State) :
    (setHoldTimer p t s).timing = s.timing ∧ (setHoldTimer p t s).defs = s.defs ∧
    (setHoldTimer p t s).routes = s.routes ∧ (setHoldTimer p t s).salvos = s.salvos ∧
    (setHoldTimer p t s).take = s.take ∧ (setHoldTimer p t s).tally = s.tally ∧
    (setHoldTimer p t s).talk = s.talk ∧ (setHoldTimer p t s).guards = s.guards ∧
    (setHoldTimer p t s).lines = s.lines ∧ (setHoldTimer p t s).ctl = s.ctl ∧
    (setHoldTimer p t s).store = s.store ∧ (setHoldTimer p t s).free = s.free ∧
    (setHoldTimer p t s).pending = s.pending := by
  simp [setHoldTimer]

@[simp] theorem decodeRequest_frame (body : List Byte) (s : State) :
    (decodeRequest body s).timing = s.timing ∧ (decodeRequest body s).defs = s.defs ∧
    (decodeRequest body s).routes = s.routes ∧ (decodeRequest body s).salvos = s.salvos ∧
    (decodeRequest body s).take = s.take ∧ (decodeRequest body s).tally = s.tally ∧
    (decodeRequest body s).talk = s.talk ∧ (decodeRequest body s).guards = s.guards ∧
    (decodeRequest body s).lines = s.lines ∧ (decodeRequest body s).links = s.links ∧
    (decodeRequest body s).store = s.store ∧ (decodeRequest body s).pending = s.pending := by
  unfold decodeRequest useTag acceptRequest; dsimp only; (repeat' split) <;> simp

@[simp] theorem clockOut_frame (bs : List Byte) (s : State) :
    (clockOut bs s).timing = s.timing ∧ (clockOut bs s).defs = s.defs ∧
    (clockOut bs s).routes = s.routes ∧ (clockOut bs s).salvos = s.salvos ∧
    (clockOut bs s).take = s.take ∧ (clockOut bs s).tally = s.tally ∧
    (clockOut bs s).talk = s.talk ∧ (clockOut bs s).guards = s.guards ∧
    (clockOut bs s).lines = s.lines ∧ (clockOut bs s).links = s.links ∧
    (clockOut bs s).store = s.store ∧ (clockOut bs s).free = s.free ∧
    (clockOut bs s).pending = s.pending := by
  simp [clockOut]

@[simp] theorem talkSend_frame (s : State) :
    (talkSend s).timing = s.timing ∧ (talkSend s).defs = s.defs ∧
    (talkSend s).routes = s.routes ∧ (talkSend s).salvos = s.salvos ∧
    (talkSend s).take = s.take ∧ (talkSend s).tally = s.tally ∧
    (talkSend s).guards = s.guards ∧ (talkSend s).lines = s.lines ∧
    (talkSend s).links = s.links ∧ (talkSend s).ctl = s.ctl ∧
    (talkSend s).store = s.store ∧ (talkSend s).free = s.free ∧
    (talkSend s).pending = s.pending := by
  unfold talkSend; (repeat' split) <;> simp

@[simp] theorem flashExpiry_frame (s : State) :
    (flashExpiry s).timing = s.timing ∧ (flashExpiry s).defs = s.defs ∧
    (flashExpiry s).routes = s.routes ∧ (flashExpiry s).salvos = s.salvos ∧
    (flashExpiry s).take = s.take ∧ (flashExpiry s).talk = s.talk ∧
    (flashExpiry s).guards = s.guards ∧ (flashExpiry s).lines = s.lines ∧
    (flashExpiry s).links = s.links ∧ (flashExpiry s).ctl = s.ctl ∧
    (flashExpiry s).store = s.store ∧ (flashExpiry s).free = s.free ∧
    (flashExpiry s).pending = s.pending := by
  simp [flashExpiry]

@[simp] theorem debounceExpiry_frame (g : Gid) (s : State) :
    (debounceExpiry g s).timing = s.timing ∧ (debounceExpiry g s).defs = s.defs ∧
    (debounceExpiry g s).tally = s.tally ∧ (debounceExpiry g s).talk = s.talk ∧
    (debounceExpiry g s).store = s.store ∧ (debounceExpiry g s).free = s.free ∧
    (debounceExpiry g s).pending = s.pending := by
  unfold debounceExpiry; (repeat' split) <;> simp

@[simp] theorem recoveryExpiry_frame (g : Gid) (s : State) :
    (recoveryExpiry g s).timing = s.timing ∧ (recoveryExpiry g s).defs = s.defs ∧
    (recoveryExpiry g s).tally = s.tally ∧ (recoveryExpiry g s).talk = s.talk ∧
    (recoveryExpiry g s).ctl = s.ctl ∧ (recoveryExpiry g s).store = s.store ∧
    (recoveryExpiry g s).free = s.free ∧ (recoveryExpiry g s).pending = s.pending := by
  unfold recoveryExpiry; (repeat' split) <;> simp

@[simp] theorem install_frame (c : Loaded) (s : State) :
    (install c s).salvos = s.salvos ∧ (install c s).links = s.links ∧
    (install c s).ctl = s.ctl ∧ (install c s).store = s.store ∧
    (install c s).free = s.free ∧ (install c s).pending = s.pending := by
  simp [install]

@[simp] theorem armBlock_frame (g : Nat) (s : State) :
    ((armBlock g s).1).timing = s.timing ∧ ((armBlock g s).1).defs = s.defs ∧
    ((armBlock g s).1).routes = s.routes ∧ ((armBlock g s).1).salvos = s.salvos ∧
    ((armBlock g s).1).take = s.take ∧ ((armBlock g s).1).tally = s.tally ∧
    ((armBlock g s).1).talk = s.talk ∧ ((armBlock g s).1).lines = s.lines ∧
    ((armBlock g s).1).links = s.links ∧ ((armBlock g s).1).ctl = s.ctl ∧
    ((armBlock g s).1).store = s.store ∧ ((armBlock g s).1).free = s.free ∧
    ((armBlock g s).1).pending = s.pending := by
  unfold armBlock refuseWith okWith; dsimp only; (repeat' split) <;> simp

@[simp] theorem armAtStart_frame (s : State) :
    (armAtStart s).timing = s.timing ∧ (armAtStart s).defs = s.defs ∧
    (armAtStart s).routes = s.routes ∧ (armAtStart s).salvos = s.salvos ∧
    (armAtStart s).take = s.take ∧ (armAtStart s).tally = s.tally ∧
    (armAtStart s).talk = s.talk ∧ (armAtStart s).lines = s.lines ∧
    (armAtStart s).links = s.links ∧ (armAtStart s).ctl = s.ctl ∧
    (armAtStart s).store = s.store ∧ (armAtStart s).free = s.free ∧
    (armAtStart s).pending = s.pending := by
  unfold armAtStart
  generalize fins 4 = gs
  induction gs generalizing s with
  | nil => simp
  | cons g gs ih =>
    rw [List.foldl_cons]
    split
    · have := ih (armBlock g.1 s).1; simpa using this
    · exact ih s

@[simp] theorem endLoad_frame (s : State) :
    (endLoad s).salvos = s.salvos ∧ (endLoad s).links = s.links ∧
    (endLoad s).free = s.free ∧ (endLoad s).pending = s.pending := by
  unfold endLoad enterReady; (repeat' split) <;> simp

end Sys2Proof.Machine
end

