-- ==== Sys2Proof/Laws/Memory.lean ====
section
/-! SUPPORT. The store memory: what a read gives after a write, and that every write keeps the canonical form. -/

namespace Sys2Proof.Machine

/-- An unlisted address reads as a blank word. -/
theorem memRead_nil (a : Nat) : memRead [] a = Config.blankWord := rfl

/-- A write keeps every lower bound of the addresses. -/
theorem memWrite_above (m : Memory) (a b : Nat) (v : Word) (hb : b < a)
    (hm : m.all (fun c => b < c.1) = true) : (memWrite m a v).all (fun c => b < c.1) = true := by
  induction m with
  | nil => simp only [memWrite]; split <;> simp [hb]
  | cons c rest ih =>
    obtain ⟨x, w⟩ := c
    simp only [List.all_cons, Bool.and_eq_true, decide_eq_true_eq] at hm
    have hr := ih hm.2
    simp only [memWrite]
    repeat' split
    all_goals try simp only [List.all_cons, Bool.and_eq_true, decide_eq_true_eq]
    all_goals first
      | exact hm
      | exact hm.2
      | exact ⟨hb, hm⟩
      | exact ⟨hb, hm.2⟩
      | exact ⟨hm.1, hr⟩

/-- A write keeps the canonical form. -/
theorem memWrite_wf (m : Memory) (a : Nat) (v : Word) (hm : Memory.wf m = true) :
    Memory.wf (memWrite m a v) = true := by
  induction m with
  | nil => simp only [memWrite]; split <;> simp_all [Memory.wf]
  | cons c rest ih =>
    obtain ⟨b, w⟩ := c
    simp only [Memory.wf, Bool.and_eq_true] at hm
    obtain ⟨⟨hw, hb⟩, hr⟩ := hm
    simp only [memWrite]
    split
    · rename_i hab
      split
      · simp [Memory.wf, hw, hb, hr]
      · rename_i hv
        simp only [Memory.wf, List.all_cons, Bool.and_eq_true, decide_eq_true_eq, bne_iff_ne, ne_eq]
        refine ⟨⟨hv, hab, ?_⟩, ⟨by simpa using hw, hb⟩, hr⟩
        rw [List.all_eq_true] at hb ⊢
        intro c hc
        have := hb c hc
        simp only [decide_eq_true_eq] at this ⊢
        omega
    · split
      · split
        · exact hr
        · rename_i hab hv
          subst hab
          simp [Memory.wf, hv, hb, hr]
      · rename_i h1 h2
        simp only [Memory.wf, Bool.and_eq_true]
        exact ⟨⟨hw, memWrite_above rest a b v (by omega) hb⟩, ih hr⟩

/-- Below all the listed addresses a memory is blank. -/
theorem memRead_below (m : Memory) (a : Nat) (hm : m.all (fun c => a < c.1) = true) :
    memRead m a = Config.blankWord := by
  induction m with
  | nil => rfl
  | cons c rest ih =>
    obtain ⟨b, w⟩ := c
    simp only [List.all_cons, Bool.and_eq_true, decide_eq_true_eq] at hm
    rw [memRead, if_neg (by omega), ih hm.2]

/-- After a write the address reads as the word written, and every other address as before. -/
theorem memRead_memWrite (m : Memory) (a b : Nat) (v : Word) (hm : Memory.wf m = true) :
    memRead (memWrite m a v) b = if b = a then v else memRead m b := by
  induction m with
  | nil =>
    by_cases hv : v = Config.blankWord <;> by_cases hab : b = a <;> simp [memWrite, memRead, hv, hab]
  | cons c rest ih =>
    obtain ⟨x, w⟩ := c
    simp only [Memory.wf, Bool.and_eq_true] at hm
    obtain ⟨⟨hw, hx⟩, hr⟩ := hm
    have below : ∀ y, y ≤ x → memRead rest y = Config.blankWord := by
      intro y hy
      apply memRead_below
      rw [List.all_eq_true] at hx ⊢
      intro c hc
      have := hx c hc
      simp only [decide_eq_true_eq] at this ⊢
      omega
    simp only [memWrite]
    split
    · rename_i hax
      split
      · rename_i hv
        by_cases hb : b = a
        · subst hb
          rw [if_pos rfl, memRead, if_neg (by omega), below b (by omega), hv]
        · rw [if_neg hb]
      · by_cases hb : b = a <;> simp [memRead, hb]
    · split
      · rename_i h1 h2
        subst h2
        split
        · rename_i hv
          by_cases hb : b = a
          · subst hb; rw [if_pos rfl, below b (le_refl _), hv]
          · simp [memRead, hb]
        · by_cases hb : b = a <;> simp [memRead, hb]
      · rename_i h1 h2
        have := ih hr
        by_cases hb : b = x
        · subst hb
          rw [if_neg (by omega), memRead, if_pos rfl, memRead, if_pos rfl]
        · rw [memRead, if_neg hb, this, memRead, if_neg hb]

/-- The memory right after POWER is in canonical form. -/
theorem reset_memory_wf : Memory.wf State.reset.store.mem = true := rfl

end Sys2Proof.Machine
end

