-- ==== Sys2Proof/Laws/Operands.lean ====
section
/-! SUPPORT. Numbers of things, optional fields and lists of operands, read one way and the other. -/

namespace Sys2Proof.Machine

theorem finOf_lt {n x : Nat} (h : x < n) : finOf n x = some ⟨x, h⟩ := by simp [finOf, h]
theorem finOf_ge {n x : Nat} (h : ¬x < n) : finOf n x = none := by simp [finOf, h]
theorem finOf_val {n : Nat} (i : Fin n) : finOf n i.1 = some i := by simp [finOf]
theorem finOf_eq_some {n x : Nat} {i : Fin n} : finOf n x = some i ↔ x = i.1 := by
  unfold finOf
  split
  next h => simp [Fin.ext_iff]
  next h => simp only [reduceCtorEq, false_iff]; have := i.2; omega

/-- An optional field that names a thing, and one that is absent. -/
theorem optOf_val {n : Nat} (hn : n ≤ 255) (x : Option (Fin n)) :
    optOf n ((x.map Fin.val).getD 255) = some x := by
  cases x with
  | none => simp [optOf]
  | some i =>
    have := i.2
    have h : i.1 ≠ 255 := by omega
    simp [optOf, h, finOf_val]

theorem optOf_eq_some {n x : Nat} {y : Option (Fin n)} (h : optOf n x = some y) : x = (y.map Fin.val).getD 255 := by
  unfold optOf at h
  split at h
  next hx => cases h; simp [hx]
  next hx =>
    cases hf : finOf n x with
    | none => simp [hf] at h
    | some i => simp [hf] at h; subst h; simp [finOf_eq_some.mp hf]

theorem pairOf_val (p : Dst × Src) : pairOf (p.1.1, p.2.1) = some p := by simp [pairOf, finOf_val]

/-- Converting a list that was written from things in range gives the things back. -/
theorem allOf_map {α β : Type} {f : α → Option β} {g : β → α} (h : ∀ b, f (g b) = some b) (l : List β) :
    allOf f (l.map g) = some l := by
  induction l with
  | nil => rfl
  | cons b l ih => simp [allOf, h, ih]

theorem allOf_none {α β : Type} {f : α → Option β} {l : List α} (h : ∃ a ∈ l, f a = none) : allOf f l = none := by
  induction l with
  | nil => simp at h
  | cons a l ih =>
    obtain ⟨b, hb, hf⟩ := h
    rcases List.mem_cons.mp hb with rfl | hb
    · simp [allOf, hf]
    · have := ih ⟨b, hb, hf⟩
      unfold allOf; rw [this]
      split <;> simp_all

/-- The model's test for repetition is that nothing stands twice. -/
theorem distinct_iff {α : Type} [DecidableEq α] (l : List α) : distinct l = true ↔ l.Nodup := by
  induction l with
  | nil => simp [distinct]
  | cons a l ih => simp [distinct, ih]

theorem lockedAgainst_iff (e : Entry) (o : Origin) : e.lockedAgainst o = true ↔ LockedTo e o := by
  unfold Entry.lockedAgainst LockedTo
  cases e.lock <;> simp

/-- A class comes back from its code and its optional index. -/
theorem classOf_val (c : DestClass) :
    (optOf 24 ((c.input.map Fin.val).getD 255)).bind (DestClass.of? c.code) = some c := by
  rw [optOf_val (by omega)]
  cases c <;> rfl

theorem classOf_eq_some {cls index : Nat} {c : DestClass} (h : (optOf 24 index).bind (DestClass.of? cls) = some c) :
    cls = c.code ∧ index = (c.input.map Fin.val).getD 255 := by
  obtain ⟨y, hy, hc⟩ := Option.bind_eq_some_iff.mp h
  have := optOf_eq_some hy
  subst this
  unfold DestClass.of? at hc
  split at hc <;> simp at hc <;> subst hc <;> simp [DestClass.code, DestClass.input]

theorem classCode_lt (c : DestClass) : c.code < 6 := by cases c <;> simp [DestClass.code]

theorem marked_iff (e : Entry) : e.marked = true ↔ e.mark.isSome = true := Iff.rfl

theorem bitsOf_at (n x : Nat) (i : Fin n) : (bitsOf n x).at i = x.testBit i.1 := by simp [bitsOf]

end Sys2Proof.Machine
end

