-- ==== Sys2Proof/Laws/Outputs.lean ====
section
/-! SUPPORT. Lamps and driven lines: computing them again changes nothing, and a refreshed state follows its inputs. -/

namespace Sys2Proof.Machine

theorem conditions_recompute (s : State) (x : Src) : conditions (recompute s) x = conditions s x := rfl

theorem lit_lit (s : State) (c : Channel) : lit s (lit s c) = lit s c := by
  cases h : c.mapped <;> simp [lit, h]

theorem recompute_recompute (s : State) : recompute (recompute s) = recompute s := by
  have h : ∀ c, lit (recompute s) ((recompute s).channel c) = lit s (s.channel c) := fun c => by
    have e : (recompute s).channel c = lit s (s.channel c) := by simp [recompute, State.channel]
    rw [e]; exact lit_lit s _
  unfold recompute at h ⊢
  simp only [h]

theorem driveLines_driveLines (s : State) : driveLines (driveLines s) = driveLines s := by
  have h : ∀ l, drivenLine (driveLines s) l = drivenLine s l := fun l => by
    have e : (driveLines s).line l = drivenLine s l := by simp [driveLines, State.line]
    unfold drivenLine
    rw [e]
    unfold drivenLine
    cases hl : s.line l <;> rfl
  have e : drivenLine (driveLines s) = drivenLine s := funext h
  show { driveLines s with lines := { s.lines with recs := tabOf (drivenLine (driveLines s)) } } = driveLines s
  rw [e]; rfl

/-- A refreshed state's lamps and driven lines follow its inputs (R73, R145). -/
theorem refresh_follows (s : State) : OutputsFollow (refresh s) := by
  refine ⟨?_, driveLines_driveLines _⟩
  have h := recompute_recompute s
  have e : recompute (driveLines (recompute s)) = { driveLines (recompute s) with tally := (recompute (recompute s)).tally } := rfl
  show recompute (driveLines (recompute s)) = driveLines (recompute s)
  rw [e, h]; rfl

/-- A state whose lamps and driven lines follow its inputs is left as it is by a refresh. -/
theorem refresh_of_follows {s : State} (h : OutputsFollow s) : refresh s = s := by rw [refresh, h.1, h.2]

theorem refresh_refresh (s : State) : refresh (refresh s) = refresh s := refresh_of_follows (refresh_follows s)

end Sys2Proof.Machine
end

