-- ==== Sys2Proof/Laws/Salvos.lean ====
section
/-! SUPPORT. The salvo unit: what its checks mean, and what staging a salvo whole leaves. -/

namespace Sys2Proof.Machine

theorem tagInUse_iff (s : State) (o : Origin) (tag : Byte) :
    tagInUse s o tag = true ↔
      ((∃ d, (s.entry d).inSalvo o tag = true) ∨ ∃ x ∈ s.salvos, x.orig = o ∧ x.tag = tag) := by
  simp [tagInUse]

theorem anyMarked_iff (s : State) (ps : List (Dst × Src)) :
    anyMarked s ps = true ↔ ∃ p ∈ ps, (s.entry p.1).mark.isSome = true := by simp [anyMarked, Entry.marked]

theorem anyHeld_iff (s : State) (ps : List (Dst × Src)) :
    anyHeld s ps = true ↔ ∃ p ∈ ps, (s.entry p.1).hold.isSome = true := by simp [anyHeld]

theorem firstLocked_none (s : State) (o : Origin) (ps : List (Dst × Src))
    (h : ∀ p ∈ ps, ¬LockedTo (s.entry p.1) o) : firstLocked s o ps = none := by
  simp only [firstLocked, List.findIdx?_eq_none_iff]
  intro p hp
  have := h p hp
  rw [← lockedAgainst_iff] at this
  simpa using this

theorem firstLocked_some (s : State) (o : Origin) (ps : List (Dst × Src)) (i : Nat) (hi : i < ps.length)
    (h : LockedTo (s.entry ps[i].1) o)
    (before : ∀ (j : Nat) (hj : j < ps.length), j < i → ¬LockedTo (s.entry ps[j].1) o) :
    firstLocked s o ps = some i := by
  simp only [firstLocked, List.findIdx?_eq_some_iff_getElem]
  refine ⟨hi, (lockedAgainst_iff _ _).mpr h, fun j hj => ?_⟩
  have := before j (by omega) hj
  rw [← lockedAgainst_iff] at this
  simpa using this

theorem allOf_pairOf (ps : List (Dst × Src)) : allOf pairOf (ps.map fun p => (p.1.1, p.2.1)) = some ps :=
  allOf_map pairOf_val ps

theorem pairOf_none {p : Nat × Nat} (h : ¬(p.1 < 48 ∧ p.2 < 64)) : pairOf p = none := by
  unfold pairOf
  by_cases a : p.1 < 48
  · by_cases b : p.2 < 64
    · exact absurd ⟨a, b⟩ h
    · simp [finOf_ge b]
  · simp [finOf_ge a]

/-- The checks of R25 on pairs that are in range. -/
theorem judgeSalvo_pairs (s : State) (o : Origin) (tag : Byte) (ps : List (Dst × Src)) (hne : ps ≠ [])
    (hlen : ps.length ≤ 16) :
    judgeSalvo s o tag (ps.map fun p => (p.1.1, p.2.1)) =
      if (!distinct (ps.map Prod.fst) || tagInUse s o tag) = true then .refuse .repeated none
      else
        match firstLocked s o ps with
        | some i => .refuse .locked (some i)
        | none =>
          if anyMarked s ps then .refuse .staged none else if anyHeld s ps then .wait ps else .stage ps := by
  unfold judgeSalvo
  have : ((ps.map fun p => (p.1.1, p.2.1)).length = 0 || 16 < (ps.map fun p => (p.1.1, p.2.1)).length) = false := by
    simp; exact ⟨hne, hlen⟩
  rw [this, allOf_pairOf]
  rfl

/-- Staging the pairs from number `i` on: a destination not named keeps its entry and its place in the dirty set. -/
theorem stagePairs_other (o : Origin) (tag : Byte) (r : Bool) (ps : List (Dst × Src)) (d : Dst)
    (h : d ∉ ps.map Prod.fst) (i : Nat) (s : State) :
    (stagePairs o tag r i ps s).entry d = s.entry d ∧
      (stagePairs o tag r i ps s).take.dirty.at d = s.take.dirty.at d := by
  induction ps generalizing s i with
  | nil => simp [stagePairs]
  | cons p ps ih =>
    simp only [List.map_cons, List.mem_cons, not_or] at h
    have := ih h.2 (i + 1) (stageOn p.1 (.salvo p.2 ⟨o, tag, i, r⟩) s)
    rw [stagePairs, this.1, this.2]
    simp [stageOn, State.markDirty, State.setEntry, State.entry, Ne.symm h.1]

/-- Staging the pairs from number `i` on: pair `j` is staged with the mark and its number, and is dirty. -/
theorem stagePairs_at (o : Origin) (tag : Byte) (r : Bool) (ps : List (Dst × Src)) (hn : (ps.map Prod.fst).Nodup)
    (j : Nat) (hj : j < ps.length) (i : Nat) (s : State) :
    (stagePairs o tag r i ps s).entry ps[j].1 =
        { s.entry ps[j].1 with staged := some (.salvo ps[j].2 ⟨o, tag, i + j, r⟩) } ∧
      (stagePairs o tag r i ps s).take.dirty.at ps[j].1 = true := by
  induction ps generalizing s i j with
  | nil => simp at hj
  | cons p ps ih =>
    simp only [List.map_cons, List.nodup_cons] at hn
    rw [stagePairs]
    cases j with
    | zero =>
      simp only [List.getElem_cons_zero]
      have := stagePairs_other o tag r ps p.1 hn.1 (i + 1) (stageOn p.1 (.salvo p.2 ⟨o, tag, i, r⟩) s)
      rw [this.1, this.2]
      simp [stageOn, State.markDirty, State.setEntry, State.entry]
    | succ j =>
      simp only [List.getElem_cons_succ]
      have hj' : j < ps.length := by simpa using hj
      have := ih hn.2 j hj' (i + 1) (stageOn p.1 (.salvo p.2 ⟨o, tag, i, r⟩) s)
      have hne : p.1 ≠ ps[j].1 := fun he => hn.1 (he ▸ List.mem_map_of_mem (List.getElem_mem hj'))
      rw [this.1, this.2]
      have e : i + 1 + j = i + (j + 1) := by omega
      simp [stageOn, State.markDirty, State.setEntry, State.entry, hne, e]

/-- A salvo staged whole changes the staged changes and the dirty set alone. -/
theorem stageSalvo_eq (o : Origin) (tag : Byte) (r : Bool) (ps : List (Dst × Src)) (s : State) :
    stageSalvo o tag r ps s = { s with
      routes := (stageSalvo o tag r ps s).routes
      take := { s.take with dirty := (stageSalvo o tag r ps s).take.dirty } } := by
  have key : ∀ (i : Nat) (s : State), stagePairs o tag r i ps s = { s with
      routes := (stagePairs o tag r i ps s).routes
      take := { s.take with dirty := (stagePairs o tag r i ps s).take.dirty } } := by
    induction ps with
    | nil => intro i s; rfl
    | cons p ps ih => intro i s; exact ih (i + 1) (stageOn p.1 (.salvo p.2 ⟨o, tag, i, r⟩) s)
  exact key 0 s

theorem stageSalvo_at (o : Origin) (tag : Byte) (r : Bool) (ps : List (Dst × Src)) (hn : (ps.map Prod.fst).Nodup)
    (s : State) (j : Nat) (hj : j < ps.length) :
    (stageSalvo o tag r ps s).entry ps[j].1 =
        { s.entry ps[j].1 with staged := some (.salvo ps[j].2 ⟨o, tag, j, r⟩) } ∧
      (stageSalvo o tag r ps s).take.dirty.at ps[j].1 = true := by
  have := stagePairs_at o tag r ps hn j hj 0 s
  simpa [stageSalvo] using this

theorem stageSalvo_other (o : Origin) (tag : Byte) (r : Bool) (ps : List (Dst × Src)) (s : State) (d : Dst)
    (h : d ∉ ps.map Prod.fst) :
    (stageSalvo o tag r ps s).entry d = s.entry d ∧
      (stageSalvo o tag r ps s).take.dirty.at d = s.take.dirty.at d :=
  stagePairs_other o tag r ps d h 0 s

end Sys2Proof.Machine
end

