-- ==== Sys2Proof/Tests/Slice0.lean ====
section
/-! SUPPORT. Tests: ill-formed commands, request bodies written out from R192, one step of every command on a small
state, and for every statement with hypotheses a state and operands that meet them. -/

namespace Sys2Proof.Tests

open Sys2Proof.Machine

set_option Elab.async false

/-! ### Well-formedness: each check refuses an ill-formed command -/

theorem test_wf_one_byte : (Instr.route .ctl 0 256 0).wellFormed = false ∧ (Instr.route .ctl 0 255 0).wellFormed = true := by
  decide
theorem test_wf_two_bytes :
    (Instr.hold (.panel 0) 0 65536).wellFormed = false ∧ (Instr.hold (.panel 0) 0 65535).wellFormed = true := by decide
theorem test_wf_input_set :
    (Instr.busTally (.panel 0) 0 16777216 0).wellFormed = false ∧
      (Instr.busTally (.panel 0) 0 16777215 0).wellFormed = true := by decide
theorem test_wf_panel_body :
    (Instr.salvo (.panel 0) 0 (List.replicate 30 (0, 0))).wellFormed = false ∧
      (Instr.salvo (.panel 0) 0 (List.replicate 29 (0, 0))).wellFormed = true := by decide
theorem test_wf_control_body :
    (Instr.rawWrite .ctl 0 0 (List.replicate 30 0)).wellFormed = false ∧
      (Instr.rawWrite .ctl 0 0 (List.replicate 29 0)).wellFormed = true := by decide
theorem test_wf_save_body : (Instr.savePreset (.panel 0) 0 0 (List.replicate 59 0)).wellFormed = false := by decide
theorem test_wf_guard_body :
    (Instr.defineGuard .ctl 0 0 0 0 1 0 0 (List.replicate 26 (0, 0)) 0 0).wellFormed = false := by decide
theorem test_wf_status_code :
    (Instr.status 1 0).wellFormed = false ∧ (Instr.status 2 0).wellFormed = false ∧
      (Instr.status 3 0).wellFormed = false ∧ (Instr.status 0 0).wellFormed = true := by decide
theorem test_transaction_codes :
    transactionOf [0x01, 2, 0x48, 7] = some (.writeRequest [2, 0x48, 7]) ∧
      transactionOf [0x02, 0, 0] = some (.readResponse 2) ∧ transactionOf [0x03, 1, 0x4C] = some (.writeUrgent [1, 0x4C]) ∧
      transactionOf [0x00, 0] = some (.status 0 1) ∧ transactionOf [0x80] = some (.status 0x80 0) := by decide
theorem test_wf_report_word :
    (Instr.feedReport 0x4000).wellFormed = false ∧ (Instr.feedReport 0x0040).wellFormed = false ∧
      (Instr.feedReport 0x2F3F).wellFormed = true := by decide

/-! ### Request bodies, byte by byte from R190 and R192 -/

theorem test_body_session :
    decodeBody (.panel 2) [0x01, 0x11] = some (.hello (.panel 2) 0x11) ∧
      decodeBody (.panel 2) [0x04, 0x12, 0x07] = some (.subscribe (.panel 2) 0x12 7) ∧
      decodeBody (.panel 2) [0x05, 0x13, 0x03, 0xE8] = some (.hold (.panel 2) 0x13 1000) := by decide
theorem test_body_routes :
    decodeBody (.panel 7) [0x10, 0x01, 0x2F, 0x3F] = some (.route (.panel 7) 0x01 47 63) ∧
      decodeBody .ctl [0x16, 0x02, 0x07] = some (.forceUnlock .ctl 0x02 7) ∧
      decodeBody .ctl [0x30, 0x03, 0x05, 0x04, 0x17, 0x3F] = some (.defineDestination .ctl 3 5 4 23 63) := by decide
theorem test_body_salvos :
    decodeBody .ctl [0x11, 0x09, 0x02, 0x00, 0x01, 0x02, 0x03] = some (.salvo .ctl 0x09 [(0, 1), (2, 3)]) ∧
      decodeBody .ctl [0x11, 0x09, 0x02, 0x00, 0x01, 0x02] = none ∧
      decodeBody .ctl [0x17, 0x0A, 0x3F, 0x02, 0x05, 0x06] = some (.savePreset .ctl 0x0A 63 [5, 6]) := by decide
theorem test_body_tally :
    decodeBody (.panel 1) [0x2A, 0x0B, 0x01, 0x02, 0x80, 0x00, 0x00, 0x01]
        = some (.busTally (.panel 1) 0x0B (1 + 2 * 256 + 128 * 65536) 65536) ∧
      decodeBody .ctl [0x37, 0x0C, 0xFF, 0x05] = some (.setSwitcher .ctl 0x0C 255 5) := by decide
theorem test_body_talk :
    decodeBody .ctl [0x34, 0x0D, 0x35, 0x01, 0x02, 0x01, 0x07, 0x00] = some (.defineKey .ctl 0x0D 53 1 2 1 7 0) ∧
      decodeBody (.panel 3) [0x28, 0x0E, 0x0F] = some (.keyDown (.panel 3) 0x0E 15) := by decide
theorem test_body_guards_and_lines :
    decodeBody .ctl [0x35, 0x0F, 0x03, 0x0F, 0x01, 0x03, 0xE8, 0x01, 0x00, 0x01, 0x05, 0x06, 0x00, 0x02, 0x00, 0x02]
        = some (.defineGuard .ctl 0x0F 3 15 1 1000 1 0 [(5, 6)] 2 2) ∧
      decodeBody .ctl [0x3C, 0x10, 0x80, 0x01, 0x00, 0x01] = some (.lineSet .ctl 0x10 0x8001 1) := by decide
theorem test_body_control :
    decodeBody .ctl [0x38, 0x11, 0x03, 0x01, 0x5E, 0x0F, 0x01, 0xF4] = some (.setTiming .ctl 0x11 3 350 15 500) ∧
      decodeBody .ctl [0x45, 0x12, 0x0F, 0xFF, 0x01, 0x12, 0x34] = some (.rawWrite .ctl 0x12 4095 [0x1234]) ∧
      decodeUrgent [0x4C] = some .allTalkOff ∧ decodeUrgent [0x4D, 0x03] = some (.tripGuard 3) ∧
      decodeBody .ctl [0x47, 0x00] = none := by decide

/-! ### Small states -/

/-- What a command leaves. -/
def after (c : Instr) (s : State) : State :=
  match exec c s with
  | .next t => t
  | .fault _ => s
  | .refused _ => s

/-- The factory configuration in force and READY set. -/
def base : State :=
  { State.reset with
    ctl := { State.reset.ctl with ready := true }
    store := { State.reset.store with engine := .idle, port := [] } }

def withState (x : LinkState) (p : Pnl) (s : State) : State :=
  s.setLink p { s.link p with state := x, supervision := some 500000 }

/-- P0 is UP. -/
def up : State := withState .up 0 base
/-- P0 is QUIESCING. -/
def closing : State := withState .quiescing 0 base

def withEngine (e : Engine) (s : State) : State := s.setEngine e
def permitted (s : State) : State := { s with store := { s.store with permit := true } }
def withStaged (d : Dst) (x : Staged) (s : State) : State := s.setEntry d { s.entry d with staged := some x }
def withLock (d : Dst) (o : Origin) (k : LockKind) (s : State) : State := s.setEntry d { s.entry d with lock := some ⟨o, k⟩ }
def withHold (d : Dst) (g : Gid) (s : State) : State := s.setEntry d { s.entry d with hold := some g }
def withList (d : Dst) (ks : List KeyId) (s : State) : State := s.setEntry d { s.entry d with interrupters := ks }
def withSalvos (xs : List PendingSalvo) (s : State) : State := { s with salvos := xs }
def withQueue (ops : List StoreOp) (s : State) : State := { s with store := { s.store with queue := ops } }
def withClass (d : Dst) (c : DestClass) (s : State) : State := { s with defs := s.defs.put d ⟨c, (s.defs.at d).home⟩ }
def withKey (k : KeyId) (m : KeyMode) (t : KeyTarget) (x : KeyState) (s : State) : State := s.setKey k ⟨some ⟨m, t⟩, x⟩
def withMic (p : Pnl) (x : Src) (s : State) : State :=
  { s with talk := { s.talk with mics := s.talk.mics.put p (some x) } }
def withSwitcher (p : Pnl) (s : State) : State := { s with tally := { s.tally with switcher := some p } }
def withBurst (b : Burst) (s : State) : State := { s with take := { s.take with burst := some b } }
def withConfirmation (d : Dst) (x : Confirmation) (s : State) : State :=
  s.setEntry d { s.entry d with confirmation := some x }
def withMemory (m : Memory) (s : State) : State := { s with store := { s.store with mem := m } }

/-- A guard definition: it watches L1 for HIGH, falls D5 back to S6, forces L2 on. -/
def watch : GuardDef := ⟨1, true, 20, true, [(5, 6)], tabOf fun l => if l = 2 then some true else none, false⟩

def withGuard (g : Gid) (f : GuardDef) (x : GuardState) (s : State) : State := s.setGuard g ⟨f, x⟩

/-- L2 is OUT with a manual latch, off. -/
def lineOut (s : State) : State := s.setLine 2 (.output .manual false false)

/-- An operation of P0, and one of the control link, on preset 3. -/
def panelOp (w : StoreWork) : StoreOp := ⟨w, .panel 0, 9, 3⟩
def ctlOp (w : StoreWork) : StoreOp := ⟨w, .ctl, 9, 3⟩

/-- The body of the reply on link `p`, when the transmitter has just begun it. -/
def sent (p : Pnl) (body : List Byte) (s : State) : Bool := (s.link p).sending.map Sending.frame = some (frame body)

/-! ### One step of every command -/

-- starts
theorem test_power_on : (after .powerOn up).ctl.startCause = .power ∧ (after .powerOn up).links.at 0 = Link.start := by
  decide +kernel
theorem test_line_reset :
    (after .lineReset up).ctl.startCause = .line ∧
      (after .lineReset up).store.port = [.writeDisable, .read 0 321] := by decide +kernel
theorem test_load_complete :
    (after .loadComplete State.reset).ctl.ready = true ∧
      (after .loadComplete State.reset).ctl.attention.at 8 = true ∧
      (after .loadComplete State.reset).store.engine = .idle := by decide +kernel

-- control-link transactions
theorem test_status : (after (.status 0 1) base).ctl.out = [0xD0, 0xD0] := by decide +kernel
theorem test_write_request :
    (after (.writeRequest [2, 0x48, 7]) base).ctl.request = some ⟨[0x48, 7], true⟩ ∧
      (after (.writeRequest [2, 0x48, 7]) base).ctl.reqFree = false := by decide +kernel
-- the request row takes the request that waits, and leaves the others
theorem test_request_taken :
    (after (.readStatus .ctl 7) (after (.writeRequest [2, 0x48, 7]) base)).ctl.request = some ⟨[0x48, 7], false⟩ ∧
      (after (.readStatus .ctl 8) (after (.writeRequest [2, 0x48, 7]) base)).ctl.request = some ⟨[0x48, 7], true⟩ := by
  decide +kernel
theorem test_write_request_discarded : (after (.writeRequest [3, 0x48, 7]) base).ctl.discard = true := by decide +kernel
theorem test_read_response :
    (after (.readResponse 4) (placeResponse 0x03 7 .ok [] base)).ctl.out = [0xF0, 3, 0x83, 7, 0] ∧
      (after (.readResponse 4) (placeResponse 0x03 7 .ok [] base)).ctl.response = none ∧
      (after (.readResponse 3) (placeResponse 0x03 7 .ok [] base)).ctl.response = some [0x83, 7, 0] := by decide +kernel
/-- Section 10.8 before its urgent stop: P3 is QUIESCING with its response owed, and K50 is HELD on Y2. -/
def urgentStop : State :=
  withKey 50 .momentary (.party 2 false) .held
    ((withState .quiescing 3 base).setLink 3 { (withState .quiescing 3 base).link 3 with quiesceOwed := some 5 })
-- section 10.8: ALL TALK OFF is taken in its own transaction
theorem test_write_urgent :
    ((after (.writeUrgent [1, 0x4C]) urgentStop).key 50).state = .idle ∧
      ((after (.writeUrgent [1, 0x4C]) urgentStop).link 3).state = .quiesced ∧
      (after (.writeUrgent [1, 0x4C]) urgentStop).ctl.response = some [0xBD, 5, 0x00, 3] ∧
      statusByte (after (.writeUrgent [1, 0x4C]) urgentStop) = 0xF0 := by decide +kernel
theorem test_write_urgent_results :
    (after (.writeUrgent [1, 0x4B]) base).ctl.urgResult = .range ∧
      (after (.writeUrgent [2, 0x4D, 3]) base).ctl.urgResult = .notArmed := by decide +kernel

-- panel links
theorem test_frame_received :
    ((after (.frameReceived 0 (frame [0x03, 5])) up).link 0).held = some ⟨[0x03, 5], true⟩ ∧
      ((after (.frameReceived 0 [0xA5, 2, 3, 5, 0]) up).link 0).held = none := by decide +kernel
theorem test_inter_byte_timeout :
    ((after (.interByteTimeout 0) (setAssembling 0 [0xA5, 2] up)).link 0).assembling = [] := by decide +kernel
theorem test_frame_sent :
    ((after (.frameSent 0) (up.setLink 0 { up.link 0 with held := some ⟨[3, 5], false⟩, sending := some ⟨[], true⟩ })).link
      0).held = none := by decide +kernel
theorem test_hello :
    ((after (.hello (.panel 1) 4) base).link 1).state = .up ∧
      sent 1 [0x81, 4, 0x0F, 1, 1, 0xF4, 0] (after (.hello (.panel 1) 4) base) = true := by decide +kernel
theorem test_bye :
    ((after (.bye (.panel 0) 4) up).link 0).state = .quiesced ∧
      ((after (.bye (.panel 0) 4) (withKey 3 .momentary (.party 4 false) .held up)).link 0).state = .quiescing := by
  decide +kernel
theorem test_ping : sent 0 [0x83, 6, 0] (after (.ping (.panel 0) 6) up) = true := by decide +kernel
theorem test_subscribe :
    ((after (.subscribe (.panel 0) 1 4) up).link 0).changes = (fins 16).map .key := by decide +kernel
theorem test_hold :
    ((after (.hold (.panel 0) 1 1000) up).link 0).hold = some 1000000 ∧
      ((after (.hold (.panel 0) 1 1001) up).link 0).hold = none := by decide +kernel
theorem test_resume : ((after (.resume (.panel 0) 1) (setHoldTimer 0 (some 5) up)).link 0).hold = none := by decide +kernel
theorem test_hold_timer_expiry :
    ((after (.holdTimerExpiry 0) (setHoldTimer 0 (some 0) up)).link 0).hold = none := by decide +kernel
theorem test_supervision_expiry :
    ((after (.supervisionExpiry 0) up).link 0).state = .down ∧
      (after (.supervisionExpiry 0) up).ctl.attention.at 5 = true := by decide +kernel

-- route table
theorem test_route :
    ((after (.route (.panel 0) 7 47 63) up).entry 47).staged = some (.routed 63 (.panel 0)) ∧
      sent 0 [0x90, 7, 1] (after (.route (.panel 0) 7 47 63) up) = true := by decide +kernel
theorem test_route_locked :
    sent 0 [0x90, 7, 0x0B] (after (.route (.panel 0) 7 5 6) (withLock 5 .ctl .protect up)) = true := by decide +kernel
theorem test_lock : ((after (.lock (.panel 0) 7 5) up).entry 5).lock = some ⟨.panel 0, .lock⟩ := by decide +kernel
theorem test_protect : ((after (.protect .ctl 7 5) base).entry 5).lock = some ⟨.ctl, .protect⟩ := by decide +kernel
theorem test_unlock :
    ((after (.unlock .ctl 7 5) (withLock 5 .ctl .lock base)).entry 5).lock = none ∧
      (after (.unlock .ctl 7 5) (withLock 5 (.panel 0) .lock base)).ctl.response = some [0x95, 7, 0x0C] := by decide +kernel
theorem test_force_unlock :
    ((after (.forceUnlock .ctl 7 5) (withLock 5 (.panel 3) .lock base)).entry 5).lock = none := by decide +kernel
theorem test_define_destination :
    (after (.defineDestination .ctl 7 5 4 23 63) base).defs.at 5 = ⟨.swin 23, 63⟩ ∧
      (after (.defineDestination .ctl 7 6 4 23 63) (withClass 5 (.swin 23) base)).ctl.response = some [0xB0, 7, 9] := by
  decide +kernel
theorem test_query_route :
    (after (.queryRoute .ctl 7 5) base).ctl.response
      = some [0xA0, 7, 0, 0, 255, 5, 5, 255, 255, 255, 255, 255, 255, 0, 255, 255, 0, 255, 255, 255, 255] := by decide +kernel

-- salvos and presets
theorem test_salvo :
    ((after (.salvo (.panel 0) 7 [(3, 4), (5, 6)]) up).entry 5).staged = some (.salvo 6 ⟨.panel 0, 7, 1, false⟩) ∧
      sent 0 [0x91, 7, 0x0B, 1] (after (.salvo (.panel 0) 7 [(3, 4), (5, 6)]) (withLock 5 .ctl .lock up)) = true := by
  decide +kernel
theorem test_salvo_queued :
    (after (.salvo .ctl 7 [(3, 4), (5, 6)]) (withHold 5 0 base)).salvos = [⟨.ctl, 7, [(3, 4), (5, 6)], false⟩] := by
  decide +kernel
theorem test_cancel_salvo :
    (after (.cancelSalvo .ctl 1 7) (withSalvos [⟨.ctl, 7, [(3, 4)], false⟩] base)).salvos = [] ∧
      (after (.cancelSalvo .ctl 1 8) (withSalvos [⟨.ctl, 7, [(3, 4)], false⟩] base)).ctl.response = some [0x92, 1, 6] := by
  decide +kernel
theorem test_query_salvos :
    (after (.querySalvos .ctl 1 0) (withHold 3 2 (withSalvos [⟨.ctl, 7, [(3, 4)], true⟩] base))).ctl.response
      = some [0xA1, 1, 0, 1, 8, 7, 1, 1, 3, 4, 2] := by decide +kernel
theorem test_save_preset :
    (after (.savePreset .ctl 1 3 [5]) (permitted base)).store.engine
      = .busy (.write ⟨.save [(5, 5)], .ctl, 1, 3⟩ (1075, 0) [(1076, 0x0505), (1075, 0x5601)] false) none := by decide +kernel
theorem test_clear_preset : (after (.clearPreset .ctl 1 3) base).ctl.response = some [0x98, 1, 0x11] := by decide +kernel
theorem test_recall :
    (after (.recallPreset (.panel 0) 1 3) up).store.port = [.read 1075 1] ∧
      sent 0 [0x99, 1, 1] (after (.recallPreset (.panel 0) 1 3) up) = true := by decide +kernel
theorem test_store_word_ready :
    (after .storeWordReady (withEngine (.busy (.write (panelOp .clear) (1075, 0) [] false) none)
        (withMemory [(1075, 0x5601)] up))).store.mem = [] ∧
      sent 0 [0x70, 9, 0x18, 0, 1, 3]
        (after .storeWordReady (withEngine (.busy (.write (panelOp .clear) (1075, 0) [] false) none) up)) = true := by
  decide +kernel
theorem test_recall_read_complete :
    ((after .recallReadComplete (withEngine (.busy (.read (panelOp .recallPreset) false) none)
        (withMemory [(1075, 0x5601), (1076, 0x0506)] up))).entry 5).staged = some (.salvo 6 ⟨.panel 0, 9, 0, true⟩) ∧
      sent 0 [0x70, 9, 0x19, 5, 1, 3]
        (after .recallReadComplete (withEngine (.busy (.read (panelOp .recallPreset) false) none) up)) = true := by
  decide +kernel

-- takes
theorem test_reference_pulse :
    (after .referencePulse (withStaged 5 (.routed 6 .ctl) base)).take.reference = .ok ∧
      ((after .referencePulse (base.setEntry 5 { base.entry 5 with staged := some (.routed 6 .ctl) })).entry 5).current
        = 6 := by decide +kernel
theorem test_internal_frame_timer_expiry :
    (after .internalFrameTimerExpiry { base with take := { base.take with reference := .ok, missed := 2 } }).take.reference
      = .lost := by decide +kernel
theorem test_command_word :
    (after .commandWord (withBurst ⟨[(5, 6)], 1⟩ base)).take.feedWord = some 0x0506 ∧
      (after .commandWord (withBurst ⟨[(5, 6)], 1⟩ base)).take.burst = none ∧
      ((after .commandWord (withBurst ⟨[(5, 6)], 1⟩ base)).entry 5).confirmation = some (.awaiting 40000) := by decide +kernel
theorem test_burst_abandon :
    ((after .burstAbandon (withBurst ⟨[(5, 6)], 1⟩ base)).entry 5).confirmation = some .unconfirmed ∧
      (after .burstAbandon (withBurst ⟨[(5, 6)], 1⟩ base)).ctl.attention.at 4 = true := by decide +kernel
theorem test_feed_report :
    ((after (.feedReport 0x0506) (base.setEntry 5 { base.entry 5 with commanded := some 6 })).entry 5).confirmation
      = some .settled ∧ ((after (.feedReport 0x0507) base).entry 5).confirmation = some .mismatch := by decide +kernel
theorem test_confirmation_timer_expiry :
    ((after (.confirmationTimerExpiry 5) (withConfirmation 5 (.awaiting 0) base)).entry 5).confirmation
      = some .unconfirmed := by decide +kernel
theorem test_matrix_refresh :
    (after (.matrixRefresh .ctl 1) { base with take := { base.take with dirty := tabOf fun _ => false } }).take.dirty.at 47
      = true := by decide +kernel

-- tally
theorem test_flash_timer_expiry :
    (after .flashTimerExpiry base).tally.flashLit = false ∧ (after .flashTimerExpiry base).tally.flashTimer = 250000 := by
  decide +kernel
theorem test_bus_tally :
    (after (.busTally (.panel 0) 1 0x800000 1) (withSwitcher 0 up)).tally.program.at 23 = true ∧
      sent 0 [0xAA, 1, 0x12] (after (.busTally (.panel 0) 1 0x800000 1) up) = true := by decide +kernel
theorem test_set_switcher :
    (after (.setSwitcher .ctl 1 0 63) base).tally.switcher = some 0 ∧
      (after (.setSwitcher .ctl 1 0 63) base).tally.fresh = false := by decide +kernel
theorem test_clear_switcher_tally :
    (after (.clearSwitcherTally .ctl 1) { base with tally := { base.tally with fresh := false } }).tally.fresh = true := by
  decide +kernel
theorem test_define_tally_channel :
    ((after (.defineTallyChannel .ctl 1 31 63) base).channel 31).mapped = some 63 := by decide +kernel
theorem test_query_tally : (after (.queryTally .ctl 1 2 0) base).ctl.response
    = some [0xA2, 1, 0, 255, 255, 1, 0, 0, 0, 0, 0, 0, 0] := by decide +kernel

-- talk
theorem test_define_station : (after (.defineStation .ctl 1 7 63) base).talk.mics.at 7 = some 63 := by decide +kernel
theorem test_define_party : (after (.defineParty .ctl 1 31 31) base).talk.parties.at 31 = some 31 := by decide +kernel
theorem test_define_key :
    (after (.defineKey .ctl 1 127 1 2 0 31 1) base).key 127 = ⟨some ⟨.latch, .party 31 true⟩, .idle⟩ ∧
      (after (.defineKey .ctl 1 127 1 2 1 5 0) base).ctl.response = some [0xB4, 1, 8] := by decide +kernel
theorem test_key_down :
    (after (.keyDown (.panel 0) 1 3) (withKey 3 .auto (.party 4 false) .idle up)).talk.sendList = [(0, 4)] ∧
      ((after (.keyDown (.panel 0) 1 3) (withKey 3 .auto (.party 4 false) .idle up)).key 3).state
        = .timing (some 350000) := by decide +kernel
theorem test_key_up :
    ((after (.keyUp (.panel 0) 1 3) (withKey 3 .auto (.party 4 false) (.timing (some 1)) up)).key 3).state
      = .latched (some 900000000) := by decide +kernel
theorem test_threshold_expiry :
    ((after (.thresholdExpiry 3) (withKey 3 .auto (.party 4 false) (.timing (some 0)) up)).key 3).state = .held := by
  decide +kernel
theorem test_latch_limit_expiry :
    ((after (.latchLimitExpiry 3) (withKey 3 .auto (.party 4 false) (.latched (some 0)) up)).key 3).state = .idle := by
  decide +kernel
theorem test_talk_port_send :
    (after .talkPortSend { base with talk := { base.talk with sendList := [(7, 31)] } }).talk.talkWord = 0x00FF := by
  decide +kernel
theorem test_all_talk_off :
    ((after .allTalkOff (withList 5 [3] (withKey 3 .momentary (.ifb 5) .held up))).key 3).state = .clearing ∧
      ((after .allTalkOff (withList 5 [3] (withKey 3 .momentary (.ifb 5) .held up))).entry 5).interrupters = [] := by
  decide +kernel
theorem test_query_key : (after (.queryKey .ctl 1 0 3) base).ctl.response
    = some [0xA3, 1, 0, 0, 255, 255, 255, 255, 0, 255, 255, 255, 255] := by decide +kernel

-- guards
theorem test_arm_guard :
    ((after (.armGuard .ctl 1 3) (withGuard 3 watch .disabled base)).guard 3).state = .armed ∧
      (after (.armGuard .ctl 1 3) base).ctl.response = some [0xB9, 1, 9] := by decide +kernel
theorem test_disarm_guard :
    ((after (.disarmGuard .ctl 1 3) (withGuard 3 watch .armed base)).guard 3).state = .disabled := by decide +kernel
theorem test_debounce_expiry :
    ((after (.debounceExpiry 3) (lineOut (withGuard 3 watch (.debouncing 0) base))).entry 5).staged
        = some (.guarded 6 3) ∧
      (after (.debounceExpiry 3) (lineOut (withGuard 3 watch (.debouncing 0) base))).line 2
        = .output .manual false true := by decide +kernel
theorem test_trip_guard :
    ((after (.tripGuard 3) (withGuard 3 watch .armed base)).guard 3).state = .tripped [5] ∧
      (after (.tripGuard 3) base).ctl.urgResult = .notArmed := by decide +kernel
theorem test_recovery_expiry :
    ((after (.recoveryExpiry 3) (withHold 5 3 (withGuard 3 watch (.recovering 0 [9]) base))).entry 5).staged
      = some (.guarded 9 3) := by decide +kernel
theorem test_restore_guard :
    ((after (.restoreGuard .ctl 1 3) (withHold 5 3 (withGuard 3 watch (.tripped [9]) base))).entry 5).hold = none ∧
      (after (.restoreGuard .ctl 1 3) ((withGuard 3 watch (.tripped [9]) base).setLine 1 (.input true))).ctl.response
        = some [0xBB, 1, 0x14] := by decide +kernel
theorem test_define_guard :
    ((after (.defineGuard .ctl 1 3 1 1 20 1 0 [(5, 6)] 4 4) (lineOut base)).guard 3).defn = watch := by decide +kernel
theorem test_query_guard : (after (.queryGuard .ctl 1 3) (withGuard 3 watch (.tripped [9]) base)).ctl.response
    = some [0xA4, 1, 0, 1, 1, 0, 20, 1, 1, 5, 6, 0, 4, 0, 4, 0, 3, 255, 255, 9, 0] := by decide +kernel

-- signal lines
theorem test_input_sample_change :
    ((after (.inputSampleChange 1 true) (withGuard 3 watch .armed base)).guard 3).state = .debouncing 20000 := by
  decide +kernel
theorem test_line_set :
    (after (.lineSet .ctl 1 4 4) (lineOut base)).line 2 = .output .manual true true ∧
      (after (.lineSet .ctl 1 6 6) (lineOut base)).ctl.response = some [0xBC, 1, 9] := by decide +kernel
theorem test_define_line :
    (after (.defineLine .ctl 1 15 1 2 31 0) base).line 15 = .output (.talk 31) false false := by decide +kernel
theorem test_query_line : (after (.queryLine .ctl 1 255) (lineOut base)).ctl.response
    = some [0xA5, 1, 0, 0, 4, 0, 0] := by decide +kernel

-- control-only requests
theorem test_quiesce_link :
    (after (.quiesceLink .ctl 1 0) up).ctl.response = some [0xBD, 1, 0, 3] ∧
      (after (.quiesceLink .ctl 1 1) up).ctl.response = some [0xBD, 1, 0, 0] := by decide +kernel
theorem test_set_timing :
    (after (.setTiming .ctl 1 3 1000 120 2000) base).timing = ⟨.r5994, 1000, 120, 2000⟩ := by decide +kernel
theorem test_read_status : (after (.readStatus .ctl 1) up).ctl.response
    = some [0xC8, 1, 0, 0, 0, 1, 2, 1, 0, 0, 0, 1, 0, 0, 0, 0, 0, 0, 0] := by decide +kernel
theorem test_read_attention :
    (after (.readAttention .ctl 1) (raise .configDefaulted (raise (.guardTrip 3) base))).ctl.response
      = some [0xC9, 1, 0, 1, 8] := by decide +kernel
theorem test_set_attention_mask :
    (after (.setAttentionMask .ctl 1 0x100) base).ctl.mask.at 8 = true ∧
      (after (.setAttentionMask .ctl 1 0x100) base).ctl.mask.at 7 = false := by decide +kernel
theorem test_restart :
    ((after (.restart .ctl 1) up).link 0).state = .down ∧ (after (.restart .ctl 1) up).ctl.response = some [0xCB, 1, 0] ∧
      (after (.restart .ctl 1) up).ctl.preserved = true := by decide +kernel

-- store access
theorem test_store_enable : (after (.storeEnable .ctl 1) base).store.permit = true := by decide +kernel
theorem test_store_disable : (after (.storeDisable .ctl 1) (permitted base)).store.permit = false := by decide +kernel
theorem test_store_grant :
    (after (.storeGrant .ctl 1) base).store.engine = .granted none ∧
      (after (.storeGrant .ctl 1) (withEngine (.busy (.read (panelOp .recallPreset) false) none) base)).ctl.response
        = none := by decide +kernel
theorem test_store_release :
    (after (.storeRelease .ctl 1) (withQueue [ctlOp .recallPreset] (withEngine (.granted none) base))).store.engine
      = .busy (.read (ctlOp .recallPreset) false) none := by decide +kernel
theorem test_raw_read :
    (after (.rawRead .ctl 1 4094 2) (withMemory [(4095, 0x1234)] (withEngine (.granted none) base))).ctl.response
      = some [0xC4, 1, 0, 2, 0, 0, 0x12, 0x34] := by decide +kernel
theorem test_raw_write :
    (after (.rawWrite .ctl 1 4095 [0x1234]) (permitted (withEngine (.granted none) base))).store.port
        = [.writeEnable, .writeWord 4095 0x1234] ∧
      (after (.rawWrite .ctl 1 4095 [0x1234, 0]) (permitted (withEngine (.granted none) base))).ctl.response
        = some [0xC5, 1, 6] := by decide +kernel

/-! ### States and operands that meet the statements' hypotheses, clause by clause -/

theorem admits_of_up {s : State} {p : Pnl} {k : ReqKind} (h : (s.link p).state = .up) (hk : k.controlOnly = false)
    (hb : k = .busTally → s.tally.switcher = some p) : Admits s (.panel p) k := ⟨hk, hb, .inl h⟩

theorem admits_of_quiescing {s : State} {p : Pnl} {k : ReqKind} (h : (s.link p).state = .quiescing)
    (hk : k.controlOnly = false) (hb : k = .busTally → s.tally.switcher = some p) (ht : k.takenQuiescing = true) :
    Admits s (.panel p) k := ⟨hk, hb, .inr ⟨h, ht⟩⟩

theorem admits_of_ready {s : State} {k : ReqKind} (h : s.ctl.ready = true) (hu : k.urgent = false)
    (hp : k.panelOnly = false) : Admits s .ctl k := ⟨hu, hp, .inl h⟩

theorem not_lockedTo {e : Entry} {o : Origin} (h : e.lockedAgainst o = false) : ¬LockedTo e o := by
  rw [← lockedAgainst_iff, h]; simp

theorem lockedTo {e : Entry} {o : Origin} (h : e.lockedAgainst o = true) : LockedTo e o := (lockedAgainst_iff e o).mp h

theorem test_hyps_StepRunsTheFrontCommand :
    ({ base with pending := [.talkPortSend] } : State).pending = [.talkPortSend] ∧
      waitingRequest { base with ctl := { base.ctl with request := some ⟨[0x48, 7], true⟩ } }
        = some (.readStatus .ctl 7) ∧
      base.pending = [] ∧ waitingRequest base = none ∧
      (((base.setLink 7 { base.link 7 with held := some ⟨[0x01, 7], true⟩ }).link 7).held = some ⟨[0x01, 7], true⟩ ∧
        decodeBody (.panel 7) [0x01, 7] = some (.hello (.panel 7) 7) ∧ ∀ q, (base.link q).held = none) ∧
      ((withConfirmation 47 (.awaiting 0) base).entry 47).confirmation = some (.awaiting 0) ∧
      (base.entry 47).confirmation = none ∧ (base.key 127).state = .idle ∧ (base.guard 3).state = .disabled ∧
      ((withKey 127 .auto (.ifb 47) (.timing (some 0)) base).key 127).state = .timing (some 0) ∧
      ((withKey 127 .auto (.ifb 47) (.latched (some 0)) base).key 127).state = .latched (some 0) ∧
      ((withGuard 3 watch (.debouncing 0) base).guard 3).state = .debouncing 0 ∧
      ((withGuard 3 watch (.recovering 0 [5]) base).guard 3).state = .recovering 0 [5] := by decide +kernel

theorem test_hyps_EveryCommandLeavesANextState :
    base.store.engine ≠ .loading ∧ base.store.engine.inFlight = none ∧ base.store.engine = .idle ∧
    base.take.burst = none ∧ base.talk.sendList = [] ∧ (base.entry 47).confirmation = none ∧
    (base.key 127).state = .idle ∧ (base.guard 3).state = .disabled ∧ (base.link 7).state.session = false ∧
    (base.link 7).supervision = none := by decide +kernel

theorem test_hyps_LinksRefuseByTheirChecks_panel :
    (requestHead (.defineDestination (.panel 0) 1 0 6 255 0) = some (.defineDestination, .panel 0, 1) ∧
      (up.link 0).state.session = true ∧ codesOk (.defineDestination (.panel 0) 1 0 6 255 0) = false) ∧
    (requestHead (.restart (.panel 0) 1) = some (.restart, .panel 0, 1) ∧ codesOk (.restart (.panel 0) 1) = true ∧
      ReqKind.restart.controlOnly = true) ∧
    (requestHead (.busTally (.panel 0) 1 0 0) = some (.busTally, .panel 0, 1) ∧ up.tally.switcher ≠ some 0) ∧
    (requestHead (.keyDown (.panel 0) 1 3) = some (.keyDown, .panel 0, 1) ∧ (closing.link 0).state = .quiescing ∧
      ReqKind.keyDown.takenQuiescing = false ∧ ReqKind.keyDown.controlOnly = false) ∧
    (requestHead (.ping (.panel 0) 1) = some (.ping, .panel 0, 1) ∧ (base.link 0).state.session = false) := by
  decide +kernel

theorem test_hyps_LinksRefuseByTheirChecks_control :
    (requestHead (.queryKey .ctl 1 3 0) = some (.queryKey, .ctl, 1) ∧ codesOk (.queryKey .ctl 1 3 0) = false) ∧
    (requestHead (.ping .ctl 1) = some (.ping, .ctl, 1) ∧ codesOk (.ping .ctl 1) = true ∧
      State.reset.ctl.ready = false ∧ ReqKind.ping ≠ .readStatus) ∧
    (requestHead (.hello .ctl 1) = some (.hello, .ctl, 1) ∧ base.ctl.ready = true ∧ ReqKind.hello.panelOnly = true) := by
  decide +kernel

theorem test_hyps_RouteIsCheckedThenStaged :
    (Admits up (.panel 0) .route ∧ Admits base .ctl .route) ∧ ¬(48 < 48 ∧ 63 < 64) ∧ ¬(47 < 48 ∧ 64 < 64) ∧
    (∃ s, Admits s (.panel 0) .route ∧ (s.entry 47).hold.isSome = true) ∧
    (∃ s, Admits s (.panel 0) .route ∧ (s.entry 47).hold = none ∧ LockedTo (s.entry 47) (.panel 0)) ∧
    (∃ s, Admits s (.panel 0) .route ∧ (s.entry 47).hold = none ∧ ¬LockedTo (s.entry 47) (.panel 0) ∧
      (s.entry 47).mark.isSome = true) ∧
    ∃ s, Admits s (.panel 0) .route ∧ (s.entry 47).hold = none ∧ ¬LockedTo (s.entry 47) (.panel 0) ∧
      (s.entry 47).mark = none :=
  have a : ∀ s, (s.link 0).state = .up → Admits s (.panel 0) .route := fun _ h => admits_of_up h rfl nofun
  ⟨⟨a up (by decide +kernel), admits_of_ready rfl rfl rfl⟩, by decide, by decide,
    ⟨withHold 47 3 up, a _ (by decide +kernel), by decide +kernel⟩,
    ⟨withLock 47 .ctl .protect up, a _ (by decide +kernel), by decide +kernel, lockedTo (by decide +kernel)⟩,
    ⟨withStaged 47 (.salvo 1 ⟨.ctl, 2, 0, false⟩) up, a _ (by decide +kernel), by decide +kernel,
      not_lockedTo (by decide +kernel), by decide +kernel⟩,
    ⟨withStaged 47 (.routed 1 .ctl) (withLock 47 (.panel 0) .protect up), a _ (by decide +kernel), by decide +kernel,
      not_lockedTo (by decide +kernel), by decide +kernel⟩⟩

theorem test_hyps_LocksAreSetAndReleased :
    (Admits up (.panel 0) .lock ∧ Admits up (.panel 0) .protect ∧ Admits base .ctl .unlock ∧ base.ctl.ready = true) ∧
    ¬48 < 48 ∧
    ((withLock 47 .ctl .protect up).entry 47).lock = some ⟨.ctl, .protect⟩ ∧ Origin.ctl ≠ .panel 0 ∧
    (((withStaged 47 (.guarded 1 0) up).entry 47).lock = none ∧
      ((withStaged 47 (.guarded 1 0) up).entry 47).staged = some (.guarded 1 0) ∧
      (Staged.guarded 1 0).requester ≠ some (.panel 0)) ∧
    (((withStaged 47 (.routed 1 (.panel 0)) up).entry 47).lock = none ∧
      ((withStaged 47 (.routed 1 (.panel 0)) up).entry 47).staged = some (.routed 1 (.panel 0)) ∧
      (Staged.routed 1 (.panel 0)).requester = some (.panel 0)) ∧
    (up.entry 47).lock = none ∧ (up.entry 47).staged = none ∧
    ((withLock 47 (.panel 0) .lock up).entry 47).lock = some ⟨.panel 0, .lock⟩ :=
  ⟨⟨admits_of_up (by decide +kernel) rfl (by decide), admits_of_up (by decide +kernel) rfl (by decide),
    admits_of_ready rfl rfl rfl, rfl⟩, by decide +kernel⟩

theorem test_hyps_DefineDestinationIsCheckedThenTakesEffect :
    base.ctl.ready = true ∧ ¬48 < 48 ∧
    ((withHold 47 3 base).entry 47).hold.isSome = true ∧
    ((withKey 127 .auto (.ifb 47) .idle (withClass 47 .ifb base)).key 127).targetsIfb 47 = true ∧
    (47 : Dst) ∈ ((withGuard 3 { watch with fallback := [(47, 6)] } .disabled base).guard 3).defn.fallback.map Prod.fst ∧
    ((withClass 46 (.swin 23) base).defs.at 46).cls = .swin 23 ∧
    (base.entry 47).hold = none ∧ (base.defs.at 47).cls ≠ .ifb := by decide +kernel

theorem test_hyps_QueriesAnswerAndChangeNothing :
    (Admits up (.panel 0) .ping ∧ Admits closing (.panel 0) .queryRoute ∧ Admits up (.panel 0) .querySalvos ∧
      Admits base .ctl .queryTally ∧ Admits base .ctl .queryKey ∧ Admits closing (.panel 0) .queryGuard ∧
      Admits base .ctl .queryLine) ∧
    (¬48 < 48 ∧ 3 < 4 ∧ ¬4 < 4 ∧ ¬32 < 32 ∧ ¬64 < 64 ∧ ¬3 < 3 ∧ ¬128 < 128 ∧ ¬8 < 8 ∧ ¬16 < 16 ∧ 16 ≠ 255) ∧
    (∀ p, base.holdCount p 31 = 0) ∧ 0 < (base.setHold 7 31 1).holdCount 7 31 ∧ base.line 15 = .input false ∧
    (lineOut base).line 2 = .output .manual false false :=
  ⟨⟨admits_of_up (by decide +kernel) rfl (by decide), admits_of_quiescing (by decide +kernel) rfl (by decide) rfl,
    admits_of_up (by decide +kernel) rfl (by decide), admits_of_ready rfl rfl rfl, admits_of_ready rfl rfl rfl,
    admits_of_quiescing (by decide +kernel) rfl (by decide) rfl, admits_of_ready rfl rfl rfl⟩, by decide, by decide +kernel⟩

/-- Four queued salvos, of P0 and of the control link, one a recall. -/
def fourSalvos : List PendingSalvo :=
  [⟨.panel 0, 1, [(5, 6)], false⟩, ⟨.ctl, 1, [(5, 6)], false⟩, ⟨.panel 0, 2, [(5, 6)], true⟩, ⟨.ctl, 2, [(5, 6)], false⟩]

/-- The salvo of P0 with tag 9 and the pairs (D4, S6), (D5, S6) is not a repeat. -/
def newName (s : State) : Prop :=
  ([(4, 6), (5, 6)].map Prod.fst : List Dst).Nodup ∧ (∀ d, (s.entry d).inSalvo (.panel 0) 9 = false) ∧
    ∀ x ∈ s.salvos, ¬(x.orig = .panel 0 ∧ x.tag = 9)

theorem test_hyps_SalvosAreCheckedStagedQueuedAndCancelled :
    (Admits up (.panel 0) .salvo ∧ Admits base .ctl .cancelSalvo) ∧ 16 < (List.replicate 17 (0, 0)).length ∧
    ¬((5, 64).1 < 48 ∧ (5, 64).2 < 64) ∧
    (¬([(5, 6), (5, 7)].map Prod.fst : List Dst).Nodup ∧
      ((withStaged 5 (.salvo 6 ⟨.panel 0, 9, 15, false⟩) up).entry 5).inSalvo (.panel 0) 9 = true ∧
      (⟨.panel 0, 2, [(5, 6)], true⟩ : PendingSalvo) ∈ (withSalvos fourSalvos up).salvos) ∧
    (∃ s, newName s ∧ LockedTo (s.entry 5) (.panel 0) ∧ ¬LockedTo (s.entry 4) (.panel 0)) ∧
    (∃ s, newName s ∧ ¬LockedTo (s.entry 4) (.panel 0) ∧ ¬LockedTo (s.entry 5) (.panel 0) ∧
      (s.entry 5).mark.isSome = true) ∧
    (∃ s, newName s ∧ ¬LockedTo (s.entry 4) (.panel 0) ∧ ¬LockedTo (s.entry 5) (.panel 0) ∧
      (s.entry 4).mark = none ∧ (s.entry 5).mark = none ∧ (s.entry 5).hold.isSome = true ∧ 4 ≤ s.salvos.length) ∧
    (∃ s, newName s ∧ ¬LockedTo (s.entry 4) (.panel 0) ∧ ¬LockedTo (s.entry 5) (.panel 0) ∧
      (s.entry 4).mark = none ∧ (s.entry 5).mark = none ∧ (s.entry 5).hold.isSome = true ∧ s.salvos.length = 3) ∧
    ∃ s, newName s ∧ ¬LockedTo (s.entry 4) (.panel 0) ∧ ¬LockedTo (s.entry 5) (.panel 0) ∧
      (s.entry 4).mark = none ∧ (s.entry 5).mark = none ∧ (s.entry 4).hold = none ∧ (s.entry 5).hold = none :=
  ⟨⟨admits_of_up (by decide +kernel) rfl (by decide), admits_of_ready rfl rfl rfl⟩, by decide, by decide,
    by decide +kernel,
    ⟨withLock 5 .ctl .lock up, by unfold newName; decide +kernel, lockedTo (by decide +kernel),
      not_lockedTo (by decide +kernel)⟩,
    ⟨withStaged 5 (.salvo 6 ⟨.ctl, 9, 15, false⟩) up, by unfold newName; decide +kernel, not_lockedTo (by decide +kernel),
      not_lockedTo (by decide +kernel), by decide +kernel⟩,
    ⟨withSalvos fourSalvos (withHold 5 3 up), by unfold newName; decide +kernel, not_lockedTo (by decide +kernel),
      not_lockedTo (by decide +kernel), by decide +kernel⟩,
    ⟨withSalvos (fourSalvos.take 3) (withHold 5 3 up), by unfold newName; decide +kernel, not_lockedTo (by decide +kernel),
      not_lockedTo (by decide +kernel), by decide +kernel⟩,
    ⟨up, by unfold newName; decide +kernel, not_lockedTo (by decide +kernel), not_lockedTo (by decide +kernel),
      by decide +kernel⟩⟩

theorem test_hyps_StoreRequestsAreCheckedThenJoin :
    (Admits up (.panel 0) .savePreset ∧ Admits base .ctl .clearPreset ∧ Admits up (.panel 0) .recallPreset) ∧
    ¬64 < 64 ∧ 16 < (List.replicate 17 0).length ∧ ¬48 < 48 ∧ ¬([5, 5] : List Dst).Nodup ∧
    (([5, 6] : List Dst).Nodup ∧ up.store.permit = false) ∧
    ((permitted (withQueue (List.replicate 4 (panelOp .clear)) up)).store.permit = true ∧
      4 ≤ (permitted (withQueue (List.replicate 4 (panelOp .clear)) up)).store.queue.length) ∧
    ((permitted (withEngine (.granted none) base)).store.permit = true ∧
      (permitted (withEngine (.granted none) base)).store.engine = .granted none) ∧
    ((permitted (withQueue (List.replicate 3 (panelOp .clear)) (withEngine (.granted none) up))).store.permit = true ∧
      ¬(4 ≤ (permitted (withQueue (List.replicate 3 (panelOp .clear)) (withEngine (.granted none) up))).store.queue.length)) ∧
    ((permitted base).store.permit = true ∧ (permitted base).store.queue = [] ∧
      (permitted base).store.engine = .idle) :=
  ⟨⟨admits_of_up (by decide +kernel) rfl (by decide), admits_of_ready rfl rfl rfl,
    admits_of_up (by decide +kernel) rfl (by decide)⟩, by decide +kernel⟩

theorem test_hyps_StoreOperationsRunInTurn :
    (withEngine (.granted none) base).store.engine ≠ .idle ∧ up.store.engine = .idle ∧ up.store.queue = [] ∧
    (panelOp .recallPreset).work = .recallPreset ∧ (panelOp .clear).work ≠ .recallPreset ∧
    (permitted up).store.permit = true ∧ up.store.permit = false ∧ (ctlOp .clear).orig = .ctl ∧
    (panelOp .clear).orig = .panel 0 ∧ (up.link 0).state.session = true ∧ (base.link 0).state.session = false ∧
    (headerCount (memRead [(1075, 0x5610)] (panelOp .recallPreset).base) = some 16 ∧ 1 ≤ 16 ∧ 16 ≤ 16) ∧
    headerCount (memRead [(1075, 0x5611)] (panelOp .recallPreset).base) = some 17 ∧ ¬17 ≤ 16 ∧
    headerCount (memRead [(1075, 0x5600)] (panelOp .recallPreset).base) = some 0 ∧ ¬1 ≤ 0 ∧
    headerCount (memRead [(1075, 0x0010)] (panelOp .recallPreset).base) = none := by decide +kernel

theorem test_hyps_SaveReadsEmptyUntilItsLastWord :
    Memory.wf [(1075, 0x5601), (1076, 0x0506)] = true ∧ (panelOp .clear).work = .clear ∧
    (panelOp (.save [(5, 6)])).work = .save [(5, 6)] ∧
    ([(5, 6)] : List (Dst × Src)).length ≤ 16 ∧ (List.replicate 16 ((47, 63) : Dst × Src)).length ≤ 16 := by decide +kernel

theorem test_hyps_WordReadyLandsOneWord :
    up.store.engine.inFlight = none ∧
    (Engine.busy (.write (panelOp .clear) (1075, 0) [(1076, 1)] true) none).inFlight = some (1075, 0) ∧
    (Engine.busy (.write (panelOp .clear) (1075, 0) [] false) (some 1)).inFlight = some (1075, 0) ∧
    (Engine.busy (.write (panelOp .clear) (1075, 0) [] true) none).inFlight = some (1075, 0) ∧
    (Engine.busy (.drain (4095, 1) 2) none).inFlight = some (4095, 1) ∧
    (Engine.granted (some ⟨1, (4095, 1), [(0, 1)]⟩)).inFlight = some (4095, 1) ∧
    (Engine.granted (some ⟨1, (4095, 1), []⟩)).inFlight = some (4095, 1) := by decide +kernel

/-- A RECALL of preset 3 by P0 is being read from a memory whose preset has header `h` and the pair (D5, S6). -/
def reading (h : Word) (s : State) : State :=
  withEngine (.busy (.read (panelOp .recallPreset) false) none) (withMemory [(1075, h), (1076, 0x0506)] s)

theorem test_hyps_RecallReadSubmitsItsSalvo :
    (reading 0x5601 up).store.engine = .busy (.read (panelOp .recallPreset) false) none ∧
    headerCount (memRead (reading 0x1234 up).store.mem 1075) = none ∧
    headerCount (memRead (reading 0x5600 up).store.mem 1075) = some 0 ∧
    headerCount (memRead (reading 0x5611 up).store.mem 1075) = some 17 ∧
    headerCount (memRead (reading 0x5601 up).store.mem 1075) = some 1 ∧
    headerCount (memRead (reading 0x5610 up).store.mem 1075) = some 16 ∧
    judgeSalvo (openPort (reading 0x5601 (withLock 5 .ctl .lock up))) (.panel 0) 9
      (presetPairs (reading 0x5601 up).store.mem 1075 1) = .refuse .locked (some 0) ∧
    judgeSalvo (openPort (reading 0x5601 up)) (.panel 0) 9
      (presetPairs (reading 0x5601 up).store.mem 1075 1) = .stage [(5, 6)] ∧
    judgeSalvo (openPort (reading 0x5601 (withHold 5 3 up))) (.panel 0) 9
      (presetPairs (reading 0x5601 up).store.mem 1075 1) = .wait [(5, 6)] ∧
    4 ≤ (withSalvos fourSalvos up).salvos.length ∧ (closing.link 0).state = .quiescing ∧
    (up.link 0).state ≠ .quiescing ∧ (panelOp .recallPreset).orig = .panel 0 := by decide +kernel

/-- The checks of a recall salvo meet the same states as those of a SALVO. -/
theorem test_hyps_RecallReadSubmitsItsSalvo_checks :
    (¬([(5, 6), (5, 7)].map Prod.fst : List Dst).Nodup ∧
      ((withStaged 5 (.salvo 6 ⟨.panel 0, 9, 15, false⟩) up).entry 5).inSalvo (.panel 0) 9 = true ∧
      (⟨.panel 0, 2, [(5, 6)], true⟩ : PendingSalvo) ∈ (withSalvos fourSalvos up).salvos) ∧
    (∃ s, newName s ∧ LockedTo (s.entry 5) (.panel 0) ∧ ¬LockedTo (s.entry 4) (.panel 0)) ∧
    (∃ s, newName s ∧ ¬LockedTo (s.entry 4) (.panel 0) ∧ ¬LockedTo (s.entry 5) (.panel 0) ∧
      (s.entry 5).mark.isSome = true) ∧
    (∃ s, newName s ∧ ¬LockedTo (s.entry 4) (.panel 0) ∧ ¬LockedTo (s.entry 5) (.panel 0) ∧
      (s.entry 4).mark = none ∧ (s.entry 5).mark = none ∧ (s.entry 5).hold.isSome = true) ∧
    ∃ s, newName s ∧ ¬LockedTo (s.entry 4) (.panel 0) ∧ ¬LockedTo (s.entry 5) (.panel 0) ∧
      (s.entry 4).mark = none ∧ (s.entry 5).mark = none ∧ (s.entry 4).hold = none ∧ (s.entry 5).hold = none :=
  have ⟨_, _, _, r, l, m, ⟨s, a, b, c, d, e, h, _⟩, _, f⟩ := test_hyps_SalvosAreCheckedStagedQueuedAndCancelled
  ⟨r, l, m, ⟨s, a, b, c, d, e, h⟩, f⟩

theorem test_hyps_PermissionGrantAndRawAccess :
    base.ctl.ready = true ∧ base.store.engine = .idle ∧
    (withEngine (.busy (.read (panelOp .recallPreset) false) none) base).store.engine
      = .busy (.read (panelOp .recallPreset) false) none ∧
    (withEngine (.granted none) base).store.engine = .granted none ∧
    (32 < 33 ∧ 4096 < 4065 + 32) ∧ (1 ≤ 32 ∧ 32 ≤ 32 ∧ 4064 + 32 ≤ 4096) ∧
    (16 < (List.replicate 17 (0 : Word)).length ∧ 4096 < 4096 + ([1] : List Word).length) ∧
    (4095 + ([1] : List Word).length ≤ 4096 ∧ (permitted base).store.permit = true ∧ base.store.permit = false) := by
  decide +kernel

def lockedOn (s : State) : State := { s with take := { s.take with reference := .ok } }
def since (n : Nat) (s : State) : State := { s with take := { s.take with sinceTake := some n } }

theorem test_hyps_PulsesAndExpiriesAreTakeEvents :
    State.reset.ctl.ready = false ∧ base.ctl.ready = true ∧ (lockedOn base).take.reference = .ok ∧
    base.take.reference = .lost ∧ ((since 4999 base).take.sinceTake = some 4999 ∧ 4999 < Config.quarterPeriod .r50) ∧
    ((since 5000 base).take.sinceTake = some 5000 ∧ Config.quarterPeriod .r50 ≤ 5000) ∧ base.take.sinceTake = none ∧
    (lockedOn base).take.missed ≠ 2 ∧
    ({ (lockedOn base).take with missed := 2 } : TakeEngine).missed = 2 := by decide +kernel

def clean (s : State) : State := { s with take := { s.take with dirty := tabOf fun _ => false } }

theorem test_hyps_TakeEventTakesTheDirtySet :
    (withBurst ⟨[(5, 6)], 1⟩ base).take.burst.isSome = true ∧ base.take.burst = none ∧
    (∀ d, (clean base).take.dirty.at d = false) ∧ (base.take.dirty.at 47 = true ∧
      ((withStaged 47 (.routed 63 .ctl) base).entry 47).staged = some (.routed 63 .ctl) ∧ (base.entry 47).staged = none) ∧
    ((withList 47 [8, 16] (withMic 1 63 base)).entry 47).interrupters.getLast? = some 16 ∧
    (withMic 1 63 base).talk.mics.at (stationOf 16) = some 63 ∧ (base.entry 47).interrupters = [] := by decide +kernel

theorem test_hyps_BurstsCommandOrGoBack :
    base.take.burst = none ∧ (withBurst ⟨[(47, 63)], 1⟩ base).take.burst = some ⟨[(47, 63)], 1⟩ ∧
    (withBurst ⟨[(0, 1), (47, 63)], 1⟩ base).take.burst = some ⟨[(0, 1), (47, 63)], 1⟩ := by decide +kernel

theorem test_hyps_ReportsAndExpiriesConfirm :
    (Instr.feedReport 0x3000).wellFormed = true ∧ (Instr.feedReport 0x2F3F).wellFormed = true ∧
    ¬(0x3000 : Word).toNat / 256 % 64 < 48 ∧ (0x2F3F : Word).toNat / 256 % 64 = 47 ∧ (0x2F3F : Word).toNat % 64 = 63 ∧
    ((base.setEntry 47 { base.entry 47 with commanded := some 63 }).entry 47).commanded = some 63 ∧
    (base.entry 47).commanded ≠ some 63 ∧
    ((withConfirmation 47 (.awaiting 0) base).entry 47).confirmation = some (.awaiting 0) ∧
    (∀ n, n < 3 → (base.entry 47).confirmation ≠ some (.awaiting n)) := by decide +kernel

theorem test_hyps_ConditionsAndLampsFollowTheirTables :
    (base.channel 31).mapped = none ∧
    ((base.setChannel 31 { base.channel 31 with mapped := some 63 }).channel 31).mapped = some 63 ∧
    ((base.setEntry 47 { base.entry 47 with reported := some 63 }).entry 47).reported = some 63 ∧
    (base.entry 47).reported = none := by decide +kernel

theorem test_hyps_SwitcherRecordAndSettings :
    ((withSwitcher 0 up).link 0).state = .up ∧ (withSwitcher 0 up).tally.switcher = some 0 ∧
    (up.link 0).state.session = true ∧ up.tally.switcher ≠ some 0 ∧
    (((withSwitcher 0 closing).link 0).state = .quiescing ∧ (withSwitcher 0 closing).tally.switcher = some 0) ∧
    base.ctl.ready = true ∧ none = base.tally.switcher ∧ some 7 ≠ base.tally.switcher ∧
    ¬(8 = 255 ∨ 8 < 8) ∧ ¬(64 = 255 ∨ 64 < 64) := by decide +kernel

theorem test_hyps_ChannelMappingAndFlash :
    base.ctl.ready = true ∧ ¬32 < 32 ∧ ¬(64 = 255 ∨ 64 < 64) ∧ ¬(254 = 255 ∨ 254 < 64) := by decide +kernel

/-- P7 owns K127, an IFB key to D47 in state `x`; D47 is IFB and P7 has a mic source. -/
def ifbKey (x : KeyState) (s : State) : State := withKey 127 .momentary (.ifb 47) x (withMic 7 63 (withClass 47 .ifb s))

theorem test_hyps_StationsAndPartiesAreCheckedThenSet :
    base.ctl.ready = true ∧
    (stationOf 127 = 7 ∧ ((ifbKey .held base).key 127).isIfb = true ∧ ((ifbKey .held base).key 127).state.talking = true) ∧
    (((ifbKey .idle base).key 127).isIfb = true ∧
      ∀ k, stationOf k = 7 → ¬(((ifbKey .idle base).key k).isIfb = true ∧ ((ifbKey .idle base).key k).state.talking = true)) ∧
    (∀ k, stationOf k = 7 → (base.key k).isIfb = false) ∧ ¬8 < 8 ∧ ¬(64 = 255 ∨ 64 < 64) ∧
    (((withKey 127 .auto (.party 31 true) .held base).key 127).defn = some ⟨.auto, .party 31 true⟩ ∧
      ((withKey 127 .auto (.party 31 true) .held base).key 127).state.talking = true) ∧
    (∀ k, (base.key k).defn = none) ∧ ¬32 < 32 ∧ ¬(32 = 255 ∨ 32 < 32) := by decide +kernel

theorem test_hyps_DefineKeyIsCheckedThenReplaced :
    base.ctl.ready = true ∧ (1 < 2 ∧ 2 < 3 ∧ ¬128 < 128) ∧ ((ifbKey .clearing base).key 127).state ≠ .idle ∧
    (base.key 127).state = .idle ∧ ¬3 < 3 ∧ ¬2 < 2 ∧ ¬32 < 32 ∧ ¬48 < 48 ∧ (base.defs.at 47).cls ≠ .ifb ∧
    (((withClass 47 .ifb base).key 127).state = .idle ∧ ((withClass 47 .ifb base).defs.at 47).cls = .ifb ∧
      (withClass 47 .ifb base).talk.mics.at (stationOf 127) = none) ∧
    (((ifbKey .idle base).key 127).state = .idle ∧ ((ifbKey .idle base).defs.at 47).cls = .ifb ∧
      (ifbKey .idle base).talk.mics.at (stationOf 127) ≠ none) := by decide +kernel

/-- P0 is UP and owns K15, an AUTO key to IFB D47 in state `x`, and D47 lists `n` other keys. -/
def pressable (m : KeyMode) (x : KeyState) (n : Nat) : State :=
  withList 47 ((fins 128).drop 16 |>.take n) (withKey 15 m (.ifb 47) x (withMic 0 63 (withClass 47 .ifb up)))

theorem test_hyps_KeyDownFollowsTheStateTable :
    (up.link 0).state = .up ∧ ¬16 < 16 ∧ (up.key (keyOf 0 15)).defn = none ∧
    (((pressable .auto .idle 8).link 0).state = .up ∧
      ((pressable .auto .idle 8).key (keyOf 0 15)) = ⟨some ⟨.auto, .ifb 47⟩, .idle⟩ ∧
      8 ≤ ((pressable .auto .idle 8).entry 47).interrupters.length) ∧
    (((pressable .auto .idle 7).link 0).state = .up ∧
      ((pressable .auto .idle 7).key (keyOf 0 15)) = ⟨some ⟨.auto, .ifb 47⟩, .idle⟩ ∧
      ¬8 ≤ ((pressable .auto .idle 7).entry 47).interrupters.length) ∧
    (pressable .momentary .idle 7).key (keyOf 0 15) = ⟨some ⟨.momentary, .ifb 47⟩, .idle⟩ ∧
    (pressable .latch .idle 7).key (keyOf 0 15) = ⟨some ⟨.latch, .ifb 47⟩, .idle⟩ ∧
    ((pressable .auto (.latched none) 0).key (keyOf 0 15)).state = .latched none ∧
    ((pressable .auto (.timing (some 0)) 0).key (keyOf 0 15)).state = .timing (some 0) ∧
    ((pressable .auto .held 0).key (keyOf 0 15)).state = .held ∧
    ((pressable .auto .clearing 0).key (keyOf 0 15)).state = .clearing := by decide +kernel

def limitless (s : State) : State := { s with timing := { s.timing with limit := 0 } }

theorem test_hyps_KeyUpFollowsTheStateTable :
    (Admits up (.panel 0) .keyUp ∧ Admits closing (.panel 0) .keyUp) ∧ ¬16 < 16 ∧ (up.key (keyOf 0 15)).defn = none ∧
    (((limitless (pressable .auto (.timing (some 0)) 0)).key 15).state = .timing (some 0) ∧
      ((limitless (pressable .auto (.timing (some 0)) 0)).link 0).state = .up ∧
      (limitless (pressable .auto (.timing (some 0)) 0)).timing.limit = 0) ∧
    ((pressable .auto (.timing (some 0)) 0).key 15).state = .timing (some 0) ∧
    (pressable .auto (.timing (some 0)) 0).timing.limit ≠ 0 ∧
    (((withState .quiescing 0 (pressable .auto (.timing none) 0)).key 15).state = .timing none ∧
      ((withState .quiescing 0 (pressable .auto (.timing none) 0)).link 0).state = .quiescing) ∧
    ((pressable .auto .held 0).key 15).state = .held ∧ ((pressable .auto .clearing 0).key 15).state = .clearing ∧
    ((pressable .auto .idle 0).key 15).state = .idle ∧
    ((pressable .auto (.latched none) 0).key 15).state = .latched none :=
  ⟨⟨admits_of_up (by decide +kernel) rfl (by decide), admits_of_quiescing (by decide +kernel) rfl (by decide) rfl⟩,
    by decide +kernel⟩

theorem test_hyps_TalkTransitionsMoveTheirCounts :
    ((pressable .auto .idle 0).key 15).defn = some ⟨.auto, .ifb 47⟩ ∧
    ((pressable .auto .idle 0).key 15).state.talking ≠ KeyState.held.talking ∧
    ((pressable .auto .idle 0).key 15).state.talking = KeyState.clearing.talking ∧
    ((pressable .auto .held 0).key 15).state.talking ≠ KeyState.idle.talking ∧
    ((withKey 127 .auto (.party 31 true) .idle base).key 127).defn = some ⟨.auto, .party 31 true⟩ := by decide +kernel

theorem test_hyps_KeyTimersAndTheTalkPort :
    ((pressable .auto (.timing (some 0)) 0).key 15).state = .timing (some 0) ∧
    (∀ n, n < 3 → ((pressable .latch (.timing none) 0).key 15).state ≠ .timing (some n)) ∧
    ((pressable .auto (.latched (some 0)) 0).key 15).state = .latched (some 0) ∧
    (∀ n, n < 3 → ((pressable .auto (.latched none) 0).key 15).state ≠ .latched (some n)) ∧
    ({ base with talk := { base.talk with sendList := [(7, 31)] } } : State).talk.sendList = [(7, 31)] ∧
    base.talk.sendList = [] := by decide +kernel

/-- K15 of P0 is HELD to IFB D47, which lists it. -/
def oneTalks : State := withList 47 [15] (withKey 15 .momentary (.ifb 47) .held (withMic 0 63 (withClass 47 .ifb up)))

theorem oneTalks_holds : HoldCountsExact oneTalks := by
  unfold HoldCountsExact
  decide +kernel

theorem oneTalks_lists : InterruptersExact oneTalks := by
  unfold InterruptersExact
  decide +kernel

theorem test_hyps_AllTalkOffSilencesEveryKey :
    (oneTalks.ctl.ready = true ∧ HoldCountsExact oneTalks ∧ InterruptersExact oneTalks) ∧
    State.reset.ctl.ready = false ∧ (oneTalks.key 15).state = .held ∧ (oneTalks.key 14).state = .idle ∧
    ((closing.link 0).state = .quiescing ∧ closing.store.queue = [] ∧ closing.store.engine.owner ≠ some (.panel 0)) ∧
    ((urgentStop.link 3).state = .quiescing ∧ (urgentStop.link 3).quiesceOwed = some 5 ∧
      ∀ q, q ≠ 3 → (urgentStop.link q).state ≠ .quiescing) ∧ (withSwitcher 0 closing).tally.switcher = some 0 :=
  ⟨⟨by decide +kernel, oneTalks_holds, oneTalks_lists⟩, by decide +kernel⟩

theorem test_hyps_ArmAndDisarmByState :
    base.ctl.ready = true ∧ ((withGuard 3 watch .armed base).guard 3).state ≠ .disabled ∧
    ((base.guard 3).state = .disabled ∧ (base.guard 3).defn.fallback = []) ∧
    (((withGuard 3 { watch with line := 2 } .disabled (lineOut base)).guard 3).state = .disabled ∧
      ((lineOut base).line 2).isOut = true) ∧
    (((withGuard 3 watch .disabled base).guard 3).state = .disabled ∧ watch.fallback ≠ [] ∧
      base.line watch.line = .input false ∧ false ≠ watch.high) ∧
    ((base.setLine 1 (.input true)).line watch.line = .input true ∧ true = watch.high) ∧
    ((withGuard 3 watch (.tripped [5]) base).guard 3).state.holding = true ∧
    ((withGuard 3 watch (.debouncing 0) base).guard 3).state.holding = false ∧ ¬4 < 4 := by decide +kernel

theorem test_hyps_GuardsTripByExpiryOrRequest :
    ((withGuard 3 watch (.debouncing 0) base).guard 3).state = .debouncing 0 ∧
    (∀ n, n < 3 → ((withGuard 3 watch .armed base).guard 3).state ≠ .debouncing n) ∧
    State.reset.ctl.ready = false ∧ base.ctl.ready = true ∧ ¬4 < 4 ∧ (base.guard 3).state = .disabled ∧
    ((withGuard 3 watch .armed base).guard 3).state = .armed ∧
    ((withGuard 3 watch (.tripped [5]) base).guard 3).state = .tripped [5] ∧
    ((withGuard 3 watch (.recovering 0 [5]) base).guard 3).state = .recovering 0 [5] := by decide +kernel

/-- G3 is ARMED; a salvo of P0 is staged on D5, which G3 falls back, and on D9; L2 is OUT. -/
def aboutToTrip : State :=
  withStaged 9 (.salvo 7 ⟨.panel 0, 1, 1, false⟩) (withStaged 5 (.salvo 7 ⟨.panel 0, 1, 0, false⟩)
    (lineOut (withGuard 3 watch .armed up)))

theorem test_hyps_TripActionHoldsAndForces :
    ((aboutToTrip.guard 3).defn.fallback.map Prod.fst).Nodup ∧ (5, 6) ∈ (aboutToTrip.guard 3).defn.fallback ∧
    (9 ∉ watch.fallback.map Prod.fst ∧ (aboutToTrip.entry 9).mark = some ⟨.panel 0, 1, 1, false⟩ ∧
      (aboutToTrip.entry 5).inSalvo (.panel 0) 1 = true) ∧
    (10 ∉ watch.fallback.map Prod.fst ∧ (aboutToTrip.entry 10).mark = none) ∧
    (aboutToTrip.line 2 = .output .manual false false ∧ watch.action.at 2 = some true ∧
      ∀ h, h ≠ 3 → (aboutToTrip.guard h).state.holding = false) ∧ aboutToTrip.line 1 = .input false ∧
    (driveLines aboutToTrip = aboutToTrip ∧ watch.action.at 15 = none) := by decide +kernel

/-- The one salvo that the trip of G3 takes is that on D5. -/
theorem test_hyps_UnstagedSalvosRejoinTheQueue_order :
    ([5] : List Dst).Pairwise (· < ·) ∧ ∀ d, d ∈ ([5] : List Dst) ↔
      (d ∈ (aboutToTrip.guard 3).defn.fallback.map Prod.fst ∧ ∃ m, (aboutToTrip.entry d).mark = some m ∧
        ∀ e ∈ (aboutToTrip.guard 3).defn.fallback.map Prod.fst,
          (aboutToTrip.entry e).inSalvo m.orig m.tag = true → d ≤ e) := by
  have fb : (aboutToTrip.guard 3).defn.fallback.map Prod.fst = [5] := by decide +kernel
  rw [fb]
  refine ⟨by decide, fun d => ⟨fun h => ?_, fun h => h.1⟩⟩
  rw [List.mem_singleton] at h
  subst h
  refine ⟨by decide, ⟨.panel 0, 1, 0, false⟩, by decide +kernel, fun e he _ => ?_⟩
  rw [List.mem_singleton] at he
  exact he ▸ Fin.le_refl _

/-- The salvo of P0 stands whole on D5 and D9. -/
theorem test_hyps_UnstagedSalvosRejoinTheQueue_rebuild : SalvosLawful aboutToTrip := by
  have mark : ∀ d, (aboutToTrip.entry d).mark =
      if d = 5 then some ⟨.panel 0, 1, 0, false⟩ else if d = 9 then some ⟨.panel 0, 1, 1, false⟩ else none := by
    decide +kernel
  refine ⟨fun d m h => ?_, fun d e m n h k _ _ hp => ?_, by decide +kernel, fun x h => absurd h List.not_mem_nil⟩
  · rw [mark] at h
    split at h
    · cases h; decide
    · split at h
      · cases h; decide
      · cases h
  · rw [mark] at h k
    split at h <;> split at k
    all_goals (try split at h) <;> (try split at k) <;> cases h <;> cases k <;> simp_all

theorem test_hyps_UnstagedSalvosRejoinTheQueue :
    (([(5, 6), (47, 63)].map Prod.fst : List Dst).Nodup ∧ ∀ d, (base.entry d).inSalvo .ctl 1 = false) ∧
    ((up.link 0).state = .up ∧ (withSalvos (fourSalvos.take 3) up).salvos.length < 4 ∧
      4 ≤ (withSalvos fourSalvos up).salvos.length) ∧
    (closing.link 0).state = .quiescing ∧ (base.link 0).state.session = false := by decide +kernel

theorem test_hyps_GuardsRestoreByExpiryOrRequest :
    ((withGuard 3 watch (.recovering 0 [5]) base).guard 3).state = .recovering 0 [5] ∧
    ((withGuard 3 watch (.tripped [5]) base).guard 3).state.timer = none ∧
    base.ctl.ready = true ∧ (base.guard 3).state = .disabled ∧ ((withGuard 3 watch .armed base).guard 3).state = .armed ∧
    ((withGuard 3 watch (.debouncing 1) base).guard 3).state = .debouncing 1 ∧
    (((withGuard 3 watch (.tripped [5]) (base.setLine 1 (.input true))).guard 3).state = .tripped [5] ∧
      (withGuard 3 watch (.tripped [5]) (base.setLine 1 (.input true))).line 1 = .input true) ∧
    (((withGuard 3 watch (.tripped [5]) base).guard 3).state = .tripped [5] ∧
      (withGuard 3 watch (.tripped [5]) base).line 1 ≠ .input true) ∧ ¬4 < 4 := by decide +kernel

theorem test_hyps_RestoreActionReleasesAndExamines :
    ((((withGuard 3 watch (.tripped [5]) base).guard 3).defn.fallback.map Prod.fst).Nodup ∧
      ([5] : List Src).length = (watch.fallback.map Prod.fst).length ∧
      ((5, 5) : Dst × Src) ∈ (watch.fallback.map Prod.fst).zip [5] ∧ 6 ∉ watch.fallback.map Prod.fst) ∧
    (∃ x : PendingSalvo, ∃ s : State, x.pairs = [(5, 6)] ∧ 5 ∈ x.pairs.map Prod.fst ∧ (s.entry 5).hold.isSome = true) ∧
    (∃ s : State, (s.entry 5).hold = none ∧ LockedTo (s.entry 5) .ctl) ∧
    (∃ s : State, (s.entry 5).hold = none ∧ ¬LockedTo (s.entry 5) .ctl ∧ (s.entry 5).mark.isSome = true) ∧
    (∃ s : State, (s.entry 5).hold = none ∧ ¬LockedTo (s.entry 5) .ctl ∧ (s.entry 5).mark = none) ∧
    (([(5, 6), (47, 63)].map Prod.fst : List Dst).Nodup ∧ (base.link 0).state.session = false ∧
      (closing.link 0).state.session = true) :=
  ⟨by decide +kernel, ⟨⟨.ctl, 1, [(5, 6)], false⟩, withHold 5 3 base, by decide +kernel⟩,
    ⟨withLock 5 (.panel 0) .lock base, by decide +kernel, lockedTo (by decide +kernel)⟩,
    ⟨withStaged 5 (.salvo 7 ⟨.panel 0, 1, 0, false⟩) base, by decide +kernel, not_lockedTo (by decide +kernel),
      by decide +kernel⟩,
    ⟨base, by decide +kernel, not_lockedTo (by decide +kernel), by decide +kernel⟩, by decide +kernel⟩

theorem test_hyps_DefineGuardIsCheckedThenReplaced :
    base.ctl.ready = true ∧ (¬4 < 4 ∧ ¬16 < 16 ∧ ¬2 < 2 ∧ 1000 < 1001 ∧ 8 < (List.replicate 9 (0, 0)).length ∧
      ¬((48, 0).1 < 48 ∧ (48, 0).2 < 64)) ∧
    (1 ≤ 1 ∧ 1000 ≤ 1000 ∧ ([(5, 6)] : List (Dst × Src)) ≠ [] ∧ ([(5, 6)] : List (Dst × Src)).length ≤ 8) ∧
    ¬([(5, 6), (5, 7)].map Prod.fst : List Dst).Nodup ∧
    ((withGuard 3 watch .armed base).guard 3).state ≠ .disabled ∧ ((withClass 5 .ifb base).defs.at 5).cls = .ifb ∧
    (5 ∈ ((withGuard 0 watch .disabled base).guard 0).defn.fallback.map Prod.fst ∧ (0 : Gid) ≠ 3) ∧
    (((withGuard 0 watch .disabled base).guard 0).defn.action.at 2 = some (!false)) ∧
    ((lineOut base).line 2).isOut = true ∧ (base.line 2).isOut = false ∧
    ((∀ h, (base.guard h).defn.fallback = []) ∧ (∀ h l, (base.guard h).defn.action.at l = none) ∧
      (base.guard 3).state = .disabled ∧ (base.defs.at 5).cls ≠ .ifb ∧ ((lineOut base).line 1).isOut = false) := by
  decide +kernel

theorem test_hyps_SampleChangesReachTheGuards :
    ((lineOut base).line 2).isOut = true ∧ base.line 1 = .input false ∧ base.line 1 = .input (!true) ∧
    (((withGuard 3 watch .armed base).guard 3).state = .armed ∧
      ((withGuard 3 watch .armed base).guard 3).defn.line = 1 ∧
      ((withGuard 3 watch .armed base).guard 3).defn.high = true) ∧
    ((withGuard 3 watch (.recovering 0 [5]) base).guard 3).state = .recovering 0 [5] ∧
    ((withGuard 3 watch (.debouncing 0) (base.setLine 1 (.input true))).guard 3).state = .debouncing 0 ∧
    (((withGuard 3 watch (.tripped [5]) (base.setLine 1 (.input true))).guard 3).state = .tripped [5] ∧
      watch.auto = true ∧ watch.high ≠ false) ∧
    ((withGuard 3 { watch with auto := false } (.tripped [5]) base).guard 3).defn.auto = false ∧
    (base.guard 3).defn.line ≠ 1 := by decide +kernel

theorem test_hyps_DrivenValuesFollowTheirTable :
    base.line 1 = .input false ∧ (lineOut base).line 2 = .output .manual false false ∧
    (((withGuard 3 watch (.tripped [5]) (lineOut base)).guard 3).state.holding = true ∧
      ((withGuard 3 watch (.tripped [5]) (lineOut base)).guard 3).defn.action.at 2 = some true) ∧
    (∀ g, ((lineOut base).guard g).state.holding = false) ∧
    (base.setLine 15 (.output (.tally 63) false false)).line 15 = .output (.tally 63) false false ∧
    (base.setLine 15 (.output (.talk 31) false false)).line 15 = .output (.talk 31) false false := by decide +kernel

theorem test_hyps_LineRequestsAreCheckedThenTakeEffect :
    base.ctl.ready = true ∧ ((0x8000).testBit 15 = true ∧ base.line 15 = .input false) ∧
    ((4).testBit 2 = true ∧ (lineOut base).line 2 = .output .manual false false ∧
      (∀ l : Lid, l ≠ 2 → (4).testBit l.1 = false)) ∧
    (¬16 < 16 ∧ ¬2 < 2 ∧ ¬3 < 3 ∧ (0 = 0 ∧ 254 ≠ 255) ∧ ¬64 < 64 ∧ ¬32 < 32) ∧
    (((withGuard 3 watch .armed base).guard 3).defn.line = 1 ∧ ((withGuard 3 watch .armed base).guard 3).state ≠ .disabled ∧
      (((withGuard 3 watch .disabled base).guard 3).defn.action.at 2).isSome = true) ∧
    (∀ g, ((base.guard g).defn.action.at 15).isSome = false ∧ (base.guard g).defn.line ≠ 15) ∧
    (base.line 15 = .input false ∧
      ((base.setLine 15 (.output .manual true true)).line 15).isOut = true) := by decide +kernel

theorem test_hyps_FramesAreAssembledAndHeld :
    ([0x03, 5] : List Byte).length ≤ 62 ∧ (0x11 :: 1 :: List.replicate 60 0 : List Byte).length ≤ 62 ∧
    (up.link 0).assembling = [] ∧
    ((up.setLink 0 { up.link 0 with held := some ⟨[3, 5], true⟩ }).link 0).held = some ⟨[3, 5], true⟩ ∧
    ((up.link 0).held = none ∧ (up.link 0).busy = none ∧ (up.link 0).state.session = true) ∧
    (base.link 0).state.session = false ∧ decodeBody (.panel 0) [0x03, 5, 0] = none ∧
    (decodeBody (.panel 0) [0x03, 5] = some (.ping (.panel 0) 5) ∧ ReqKind.ofCode? 0x03 = some .ping ∧
      panelGate base 0 .ping true = .drop ∧ panelGate up 0 .ping true = .pass) ∧
    panelGate up 0 .restart true = .refuse .notPermitted ∧ (∀ b ∈ ([0, 0xA4] : List Byte), b ≠ 0xA5) ∧
    ((1 : Byte).toNat < 2 ∧ 62 < (63 : Byte).toNat) ∧
    (2 ≤ (2 : Byte).toNat ∧ (62 : Byte).toNat ≤ 62 ∧ sum8 (2 :: [3, 5] ++ [0]) ≠ 0) ∧
    ([3, 5] : List Byte).length ≤ (2 : Byte).toNat := by decide +kernel

/-- A frame received in two rows. -/
theorem test_hyps_FramesAreAssembledAndHeld_rows :
    IdleHasNothingToSend up ∧ exec (.frameReceived 0 [0xA5, 2]) up = .next (after (.frameReceived 0 [0xA5, 2]) up) :=
  ⟨by unfold IdleHasNothingToSend; decide +kernel, rfl⟩

/-- P0's transmitter has a frame to end; a BUSY, a reply and a reference wait. -/
def sending (b : Option (Byte × Byte)) (is : List Item) (rs : List Ref) : State :=
  up.setLink 0 { up.link 0 with sending := some ⟨[1], true⟩, busy := b, replies := is, changes := rs }

theorem test_hyps_TransmitterPicksTheNextFrame :
    ((sending none [] []).link 0).sending = some ⟨[1], true⟩ ∧
    ((sending (some (3, 5)) [] []).link 0).busy = some (3, 5) ∧
    (((sending none [.reply 3 5 .ok [] true] []).link 0).busy = none ∧
      ((sending none [.reply 3 5 .ok [] true] []).link 0).replies = [.reply 3 5 .ok [] true]) ∧
    (((sending none [] [.route 47]).link 0).replies = [] ∧ ((sending none [] [.route 47]).link 0).changes = [.route 47] ∧
      ((sending none [] [.route 47]).link 0).state.session = true ∧ ((sending none [] [.route 47]).link 0).hold = none) ∧
    ((sending none [] []).link 0).changes = [] ∧
    ((setHoldTimer 0 (some 1) (sending none [] [.route 47])).link 0).hold ≠ none := by decide +kernel

theorem test_hyps_AFrameRunsItsRequest :
    (Instr.route (.panel 0) 7 47 63).wellFormed = true ∧
    requestHead (.route (.panel 0) 7 47 63) = some (.route, .panel 0, 7) ∧
    encodeBody (.route (.panel 0) 7 47 63) = some [0x10, 7, 47, 63] ∧ panelGate up 0 .route true = .pass ∧
    codesOk (.route (.panel 0) 7 47 63) = true ∧ (up.link 0).assembling = [] ∧ (up.link 0).held = none ∧
    up.pending = [] ∧ waitingRequest up = none ∧ up.ctl.request = none ∧
    ((Instr.route .ctl 7 47 63).wellFormed = true ∧ requestHead (.route .ctl 7 47 63) = some (.route, .ctl, 7) ∧
      encodeBody (.route .ctl 7 47 63) = some [0x10, 7, 47, 63] ∧ controlGate up .route true = .pass ∧
      up.ctl.reqFree = true) ∧ up.ctl.urgFree = true ∧ 255 < 256 := by decide +kernel

theorem test_hyps_SessionsOpenAndStartToClose :
    ((State.reset.link 7).state ≠ .quiescing ∧ State.reset.ctl.ready = false ∧ (State.reset.link 7).state ≠ .up) ∧
    ((base.link 7).state ≠ .quiescing ∧ base.ctl.ready = true) ∧ (up.link 0).state = .up ∧
    (closing.link 0).state = .quiescing ∧ ((withState .quiesced 0 base).link 0).state = .quiesced ∧
    (base.link 0).state = .down ∧ ¬8 < 8 := by decide +kernel

theorem test_hyps_QuiesceEndsWhenNothingIsLeft :
    quiesceDone up 0 = false ∧ quiesceDone closing 0 = true ∧ (up.link 0).state = .up ∧
    ((closing.setLink 0 { closing.link 0 with quiesceOwed := some 1 }).link 0).quiesceOwed = some 1 ∧
    ((withSwitcher 0 closing).tally.switcher = some 0 ∧ closing.tally.switcher ≠ some 0) ∧
    ((pressable .auto (.latched none) 0).key 15).state.isLatched = true ∧
    ((pressable .auto .held 0).key 15).state.isLatched = false := by decide +kernel

theorem test_hyps_QuiesceEndsWhenNothingIsLeft_exact :
    (oneTalks.link 0).state = .up ∧ InterruptersExact oneTalks ∧ HoldCountsExact oneTalks :=
  ⟨by decide +kernel, oneTalks_lists, oneTalks_holds⟩

theorem test_hyps_SubscriptionsAndHolds :
    (closing.link 0).state = .quiescing ∧ (up.link 0).state = .up ∧ ¬8 < 8 ∧ 7 < 8 ∧ (up.link 0).changes.Nodup ∧ (0 = 0 ∧ 1000 < 1001) ∧
    (1 ≤ 1 ∧ 1000 ≤ 1000) := by decide +kernel

theorem test_hyps_LinkLossClearsTheSession :
    (base.link 0).state.session = false ∧ (oneTalks.link 0).state.session = true ∧
    (oneTalks.link 0).supervision.isSome = true ∧ (oneTalks.link 0).quiesceOwed = none ∧
    ((closing.setLink 0 { closing.link 0 with quiesceOwed := some 1 }).link 0).quiesceOwed = some 1 ∧
    (withSwitcher 0 up).tally.switcher = some 0 ∧ up.tally.switcher ≠ some 0 := by decide +kernel

theorem test_hyps_LinkLossClearsTheSession_exact : InterruptersExact oneTalks ∧ HoldCountsExact oneTalks :=
  ⟨oneTalks_lists, oneTalks_holds⟩

theorem test_hyps_StatusAndResponsesAreClockedOut :
    ((0x01 : Byte) ≠ 0x02 ∧ (0x80 : Byte) ≠ 0x01 ∧ (0x80 : Byte) ≠ 0x02 ∧ (0x80 : Byte) ≠ 0x03) ∧
    base.ctl.response = none ∧ (placeResponse 3 5 .ok [] base).ctl.response = some [0x83, 5, 0] ∧
    3 ≤ ([0x83, 5, 0] : List Byte).length ∧ ([0x83, 5, 0] : List Byte).length < 4 := by decide +kernel

theorem test_hyps_WritesAreAcceptedOrDiscarded :
    (acceptRequest [3] true base).ctl.reqFree = false ∧ base.ctl.reqFree = true ∧
    (1 ≤ ([0x48, 7] : List Byte).length ∧ ([0x48, 7] : List Byte).length ≤ 64) ∧
    (decodeBody .ctl [0x48, 7] = some (.readStatus .ctl 7) ∧
      ([0x48, 7] : List Byte).head?.bind ReqKind.ofCode? = some .readStatus ∧ controlGate base .readStatus true = .pass) ∧
    decodeBody .ctl [0x48, 7, 0] = none ∧
    (decodeBody .ctl [0x01, 7] = some (.hello .ctl 7) ∧ ReqKind.ofCode? 0x01 = some .hello ∧
      controlGate base .hello true = .refuse .notPermitted) ∧
    ((acceptUrgent [0x4C] base).ctl.urgFree = false ∧ base.ctl.urgFree = true ∧
      ([0x4D, 3] : List Byte).length ≤ 8) ∧ State.reset.ctl.ready = false ∧ base.ctl.ready = true ∧
    (¬(4 : Byte).toNat < 4 ∧ (3 : Byte).toNat < 4 ∧ (base.guard 3).state = .disabled ∧
      ((withGuard 3 watch .armed base).guard 3).state ≠ .disabled) ∧
    ([0x4D] : List Byte) ≠ [0x4C] ∧ (∀ g : Fin 4, ([0x4D] : List Byte) ≠ [0x4D, byte g.1]) := by decide +kernel

theorem test_hyps_TimingAndAttention :
    base.ctl.ready = true ∧ (100 ≤ 100 ∧ 100 ≤ 1000 ∧ 120 ≤ 120 ∧ 2000 ≤ 2000) ∧ ¬(100 ≤ 99 ∧ 99 ≤ 1000) ∧ ¬4 < 4 := by
  decide +kernel

theorem test_hyps_RestartClearsSessionsAndKeepsRoutes :
    base.ctl.ready = true ∧ base.store.engine.inFlight = none ∧
    (Engine.granted (some ⟨1, (4095, 1), []⟩)).inFlight = some (4095, 1) ∧
    ((withStaged 47 (.guarded 63 3) base).entry 47).staged = some (.guarded 63 3) ∧
    ((withStaged 47 (.routed 63 .ctl) base).entry 47).staged = some (.routed 63 .ctl) ∧
    ((withConfirmation 47 (.awaiting 0) base).entry 47).confirmation = some (.awaiting 0) ∧
    (base.entry 47).confirmation = none ∧ (base.guard 3).state = .disabled ∧ base.line 15 = .input false ∧
    (lineOut base).line 2 = .output .manual false false ∧
    (((withGuard 3 watch (.debouncing 1) (base.setLine 1 (.input true))).guard 3).state = .debouncing 1 ∧
      (base.setLine 1 (.input true)).line watch.line = .input watch.high) ∧
    (((withGuard 3 watch (.recovering 1 [5]) base).guard 3).state = .recovering 1 [5] ∧ watch.auto = true ∧
      base.line watch.line ≠ .input watch.high) := by decide +kernel

theorem test_hyps_StartsLeaveTheStartValues :
    base.store.engine.inFlight = none ∧
    (withEngine (.busy (.write (panelOp .clear) (1075, 0) [] false) none) up).store.engine.inFlight = some (1075, 0) := by
  decide +kernel

theorem reset_quiet : QuietUntilReady State.reset := by
  refine ⟨by decide +kernel, fun _ => ?_⟩
  decide +kernel

theorem test_hyps_LoadPutsTheConfigurationInForce :
    (base.store.engine ≠ .loading ∧ State.reset.store.engine = .loading ∧ storedConfig State.reset.store.mem = none ∧
      State.reset.take.reference = .lost) ∧ QuietUntilReady State.reset :=
  ⟨by decide +kernel, reset_quiet⟩

/-- The factory configuration in the words of table 12.6, with its check word. -/
def factoryWords : Memory :=
  [(0, 0x574E), (1, 0x0001)] ++ ((List.range 48).map fun d => (2 + d, BitVec.ofNat 16 (0x1F00 + d)))
    ++ [(250, 0x0800), (251, 1), (262, 0x0800), (263, 1), (274, 0x0800), (275, 1), (286, 0x0800), (287, 1)]
    ++ [(314, 0xFFFF), (315, 0xFFFF), (316, 2), (317, 350), (318, 15), (319, 500)]
    ++ [(320, 0xB0E4)]
theorem test_stored_factory : storedConfig factoryWords = some Loaded.factory := by decide +kernel

theorem test_hyps_EveryVisibleChangeIsMarked :
    exec (.lock (.panel 0) 1 47) (up.setLink 0 { up.link 0 with subs := ⟨true, true, true⟩ })
        = .next (after (.lock (.panel 0) 1 47) (up.setLink 0 { up.link 0 with subs := ⟨true, true, true⟩ })) ∧
    ((after (.lock (.panel 0) 1 47) (up.setLink 0 { up.link 0 with subs := ⟨true, true, true⟩ })).link 0).state.session
        = true ∧
    ((after (.lock (.panel 0) 1 47) (up.setLink 0 { up.link 0 with subs := ⟨true, true, true⟩ })).link 0).changes
        = [.route 47] := ⟨rfl, by decide +kernel⟩

theorem test_hyps_RequestsSurviveTheirBytes :
    (Instr.setTiming .ctl 255 3 65535 255 65535).wellFormed = true ∧
    requestHead (.setTiming .ctl 255 3 65535 255 65535) = some (.setTiming, .ctl, 255) ∧
    encodeBody (.setTiming .ctl 255 3 65535 255 65535) = some [0x38, 255, 3, 255, 255, 255, 255, 255] ∧ 255 < 256 := by
  decide +kernel

theorem test_hyps_NothingRunsBeforeReady :
    QuietUntilReady State.reset ∧ step State.reset = .next (tick State.reset) := ⟨reset_quiet, rfl⟩

theorem base_quiet : QuietUntilReady base := by
  refine ⟨by decide +kernel, fun h => ?_⟩
  exact absurd h (by decide +kernel)

theorem test_hyps_OutputsAlwaysFollow : OutputsFollow base ∧ step base = .next (tick base) :=
  ⟨⟨by decide +kernel, by decide +kernel⟩, rfl⟩

theorem test_hyps_TalkCountsStayExact :
    QuietUntilReady base ∧ HoldCountsExact base ∧ CallCountsExact base ∧ InterruptersExact base ∧ KeysWellDefined base ∧
      step base = .next (tick base) := by
  refine ⟨base_quiet, ?_, ?_, ?_, ?_, rfl⟩
  · unfold HoldCountsExact; decide +kernel
  · unfold CallCountsExact; decide +kernel
  · unfold InterruptersExact; decide +kernel
  · unfold KeysWellDefined; decide +kernel

theorem test_hyps_GuardsAndSalvosStayLawful :
    QuietUntilReady base ∧ HoldsMatchGuards base ∧ SalvosLawful base ∧ StagedIsDirty base ∧ LocksLawful base ∧
      step base = .next (tick base) := by
  have hold : ∀ d, (base.entry d).hold = none := by decide +kernel
  have mark : ∀ d, (base.entry d).mark = none := by decide +kernel
  have lock : ∀ d, (base.entry d).lock = none := by decide +kernel
  refine ⟨base_quiet, ⟨by decide +kernel, by decide +kernel, by decide +kernel, fun d g h => ?_⟩,
    ⟨fun d m h => ?_, fun d e m n h => ?_, by decide +kernel, fun x h => absurd h List.not_mem_nil⟩, ?_,
    fun d l x h => ?_, rfl⟩
  · rw [hold d] at h; cases h
  · rw [mark d] at h; cases h
  · rw [mark d] at h; cases h
  · unfold StagedIsDirty; decide +kernel
  · rw [lock d] at h; cases h

/-- P0 has protected D5 and staged S6 on it; the take that applies it changes its current source. -/
def ownersRoute : State :=
  (withLock 5 (.panel 0) .protect (withStaged 5 (.routed 6 (.panel 0)) { up with pending := [.internalFrameTimerExpiry] })).markDirty 5
theorem test_hyps_GuardsAndSalvosStayLawful_lock :
    (ownersRoute.entry 5).lock = some ⟨.panel 0, .protect⟩ ∧
      step ownersRoute = .next (after .internalFrameTimerExpiry { ownersRoute with pending := [] }) ∧
      ((after .internalFrameTimerExpiry { ownersRoute with pending := [] }).entry 5).lock.isSome = true ∧
      ((after .internalFrameTimerExpiry { ownersRoute with pending := [] }).entry 5).current ≠ (ownersRoute.entry 5).current ∧
      (ownersRoute.entry 5).staged = some (.routed 6 (.panel 0)) := ⟨rfl, rfl, by decide +kernel⟩

theorem test_hyps_LinkRecordsStayLawful :
    SessionsWatched base ∧ TalkOnlyInSession base ∧ ChangeSetsLawful base ∧ IdleHasNothingToSend base ∧
      step base = .next (tick base) := by
  refine ⟨?_, ?_, ?_, ?_, rfl⟩
  · unfold SessionsWatched; decide +kernel
  · unfold TalkOnlyInSession; decide +kernel
  · unfold ChangeSetsLawful; decide +kernel
  · unfold IdleHasNothingToSend; decide +kernel

theorem test_hyps_StoresQueuesAndConfirmationsStayLawful :
    QuietUntilReady base ∧ MemoryCanonical base ∧ StoreLawful base ∧ WithinCapacity base ∧ ConfirmationsLawful base ∧
      UrgentSlotFree base ∧ step base = .next (tick base) := by
  have none : ∀ d, (base.entry d).confirmation = Option.none ∧ (base.entry d).commanded = Option.none ∧
      (base.entry d).reported = Option.none := by decide +kernel
  refine ⟨base_quiet, rfl, ?_, ?_, fun d => ?_, ⟨rfl, rfl⟩, rfl⟩
  · unfold StoreLawful; decide +kernel
  · unfold WithinCapacity; decide +kernel
  · rw [ConfirmationLawful, (none d).1]; exact ⟨(none d).2.1, (none d).2.2⟩

end Sys2Proof.Tests
end

section
/-! SUPPORT. The route table's requests: what the blocks of ROUTE, LOCK, PROTECT, UNLOCK, FORCE UNLOCK and DEFINE
DESTINATION answer, check by check, and from that the obligations O4, O5 and O6. -/

namespace Sys2Proof.Machine

/-! ### ROUTE (R6, R7) -/

theorem routeBlock_range {d x : Nat} (h : ¬(d < 48 ∧ x < 64)) (o : Origin) (s : State) :
    routeBlock o d x s = refuseWith .range s := by
  unfold routeBlock
  split
  next hd hx =>
    obtain rfl := finOf_eq_some.mp hd
    obtain rfl := finOf_eq_some.mp hx
    exact absurd ⟨Fin.isLt _, Fin.isLt _⟩ h
  · rfl

/-- The checks of R6 on a destination and a source in range, in their order. -/
theorem routeBlock_inRange (o : Origin) (d : Dst) (x : Src) (s : State) :
    routeBlock o d.1 x.1 s =
      if (s.entry d).hold.isSome then refuseWith .guarded s
      else if (s.entry d).lockedAgainst o then refuseWith .locked s
      else if (s.entry d).marked then refuseWith .staged s
      else (stageOn d (.routed x o) s, .now .accepted []) := by
  simp only [routeBlock, finOf_val]

theorem routeBlock_guarded {s : State} {d : Dst} (hold : (s.entry d).hold.isSome = true) (o : Origin) (x : Src) :
    routeBlock o d.1 x.1 s = refuseWith .guarded s := by
  rw [routeBlock_inRange, if_pos hold]

theorem routeBlock_locked {s : State} {d : Dst} {o : Origin} (hold : (s.entry d).hold = none)
    (lock : LockedTo (s.entry d) o) (x : Src) : routeBlock o d.1 x.1 s = refuseWith .locked s := by
  rw [← lockedAgainst_iff] at lock
  simp [routeBlock_inRange, hold, lock]

theorem routeBlock_marked {s : State} {d : Dst} {o : Origin} (hold : (s.entry d).hold = none)
    (lock : ¬LockedTo (s.entry d) o) (mark : (s.entry d).mark.isSome = true) (x : Src) :
    routeBlock o d.1 x.1 s = refuseWith .staged s := by
  rw [← lockedAgainst_iff] at lock
  rw [← marked_iff] at mark
  simp [routeBlock_inRange, hold, lock, mark]

theorem routeBlock_accepted {s : State} {d : Dst} {o : Origin} (hold : (s.entry d).hold = none)
    (lock : ¬LockedTo (s.entry d) o) (mark : (s.entry d).mark = none) (x : Src) :
    routeBlock o d.1 x.1 s = (stageOn d (.routed x o) s, .now .accepted []) := by
  rw [← lockedAgainst_iff] at lock
  simp [routeBlock_inRange, hold, lock, Entry.marked, mark]

/-- Settles O4: the block's answer after each check, placed by the link that admits the request. -/
theorem routeIsCheckedThenStaged : Obligations.RouteIsCheckedThenStaged := by
  unfold Obligations.RouteIsCheckedThenStaged
  intro s o tag d x admitted
  refine ⟨fun h => answers_of_block rfl admitted (routeBlock_range h o s), ?_⟩
  rintro hd hx _ rfl
  refine ⟨fun hold => ?_, fun hold lock => ?_, fun hold lock mark => ?_, fun hold lock mark => ?_⟩
  · exact answers_of_block rfl admitted (routeBlock_guarded hold o ⟨x, hx⟩)
  · exact answers_of_block rfl admitted (routeBlock_locked hold lock ⟨x, hx⟩)
  · exact answers_of_block rfl admitted (routeBlock_marked hold lock mark ⟨x, hx⟩)
  · exact answers_of_block rfl admitted (routeBlock_accepted hold lock mark ⟨x, hx⟩)

/-! ### LOCK and PROTECT (R12) -/

theorem ownedByOther_iff (e : Entry) (o : Origin) :
    e.ownedByOther o = true ↔ ∃ l, e.lock = some l ∧ l.owner ≠ o := by
  unfold Entry.ownedByOther
  cases e.lock <;> simp

theorem ownedByOther_eq_false {e : Entry} {o : Origin} (h : ∀ l, e.lock = some l → l.owner = o) :
    e.ownedByOther o = false := by
  rw [← Bool.not_eq_true, ownedByOther_iff]
  rintro ⟨l, hl, hne⟩
  exact hne (h l hl)

theorem forbidsLock_iff (o : Origin) (kind : LockKind) (e : Entry) :
    forbidsLock o kind e = true ↔ ∃ x, e.staged = some x ∧ (kind = .lock ∨ x.requester ≠ some o) := by
  unfold forbidsLock
  cases e.staged <;> simp

theorem forbidsLock_eq_false {o : Origin} {kind : LockKind} {e : Entry}
    (h : ∀ x, e.staged = some x → kind = .protect ∧ x.requester = some o) : forbidsLock o kind e = false := by
  rw [← Bool.not_eq_true, forbidsLock_iff]
  rintro ⟨x, hx, refused⟩
  obtain ⟨hkind, howner⟩ := h x hx
  simp [hkind, howner] at refused

theorem lockBlock_range {d : Nat} (h : ¬d < 48) (o : Origin) (kind : LockKind) (s : State) :
    lockBlock o kind d s = refuseWith .range s := by
  simp only [lockBlock, finOf_ge h]

/-- The checks of R12 on a destination in range, in their order. -/
theorem lockBlock_inRange (o : Origin) (kind : LockKind) (d : Dst) (s : State) :
    lockBlock o kind d.1 s =
      if (s.entry d).ownedByOther o then refuseWith .locked s
      else if forbidsLock o kind (s.entry d) then refuseWith .staged s
      else okWith (s.setEntry d { s.entry d with lock := some ⟨o, kind⟩ }) := by
  simp only [lockBlock, finOf_val]

theorem lockBlock_locked {s : State} {d : Dst} {o : Origin} (other : ∃ l, (s.entry d).lock = some l ∧ l.owner ≠ o)
    (kind : LockKind) : lockBlock o kind d.1 s = refuseWith .locked s := by
  rw [lockBlock_inRange, if_pos ((ownedByOther_iff _ _).mpr other)]

theorem lockBlock_staged {s : State} {d : Dst} {o : Origin} {kind : LockKind}
    (own : ∀ l, (s.entry d).lock = some l → l.owner = o)
    (staged : ∃ x, (s.entry d).staged = some x ∧ (kind = .lock ∨ x.requester ≠ some o)) :
    lockBlock o kind d.1 s = refuseWith .staged s := by
  simp [lockBlock_inRange, ownedByOther_eq_false own, (forbidsLock_iff _ _ _).mpr staged]

theorem lockBlock_ok {s : State} {d : Dst} {o : Origin} {kind : LockKind}
    (own : ∀ l, (s.entry d).lock = some l → l.owner = o)
    (staged : ∀ x, (s.entry d).staged = some x → kind = .protect ∧ x.requester = some o) :
    lockBlock o kind d.1 s = okWith (s.setEntry d { s.entry d with lock := some ⟨o, kind⟩ }) := by
  simp [lockBlock_inRange, ownedByOther_eq_false own, forbidsLock_eq_false staged]

/-- LOCK and PROTECT run one block, each with its own kind. -/
theorem exec_lock_or_protect {o : Origin} {tag : Byte} {d : Nat} {kind : LockKind} {c : Instr} {k : ReqKind}
    (h : kind = .lock ∧ c = .lock o tag d ∧ k = .lock ∨ kind = .protect ∧ c = .protect o tag d ∧ k = .protect)
    (s : State) : exec c s = serve k o tag true (lockBlock o kind d) s := by
  rcases h with ⟨rfl, rfl, rfl⟩ | ⟨rfl, rfl, rfl⟩
  · rfl
  · rfl

/-! ### UNLOCK and FORCE UNLOCK (R14, R15) -/

theorem unlockBlock_range {d : Nat} (h : ¬d < 48) (o : Origin) (s : State) :
    unlockBlock o d s = refuseWith .range s := by
  simp only [unlockBlock, finOf_ge h]

theorem unlockBlock_of_unlocked {s : State} {d : Dst} (h : (s.entry d).lock = none) (o : Origin) :
    unlockBlock o d.1 s = okWith s := by
  simp only [unlockBlock, finOf_val, h]

theorem unlockBlock_of_locked {s : State} {d : Dst} {l : Lock} (h : (s.entry d).lock = some l) (o : Origin) :
    unlockBlock o d.1 s =
      if l.owner = o then okWith (s.setEntry d { s.entry d with lock := none }) else refuseWith .notOwner s := by
  simp only [unlockBlock, finOf_val, h]

theorem forceUnlockBlock_range {d : Nat} (h : ¬d < 48) (s : State) :
    forceUnlockBlock d s = refuseWith .range s := by
  simp only [forceUnlockBlock, finOf_ge h]

theorem forceUnlockBlock_inRange (d : Dst) (s : State) :
    forceUnlockBlock d.1 s = okWith (s.setEntry d { s.entry d with lock := none }) := by
  simp only [forceUnlockBlock, finOf_val]

/-- Settles O5: LOCK with PROTECT, UNLOCK and FORCE UNLOCK, each by its block's answers. -/
theorem locksAreSetAndReleased : Obligations.LocksAreSetAndReleased := by
  unfold Obligations.LocksAreSetAndReleased
  refine ⟨?locking, ?unlocking, ?forcing, ?control⟩
  case locking =>
    intro s o tag d kind c k hc admitted
    have run := exec_lock_or_protect hc s
    refine ⟨fun h => answers_of_block run admitted (lockBlock_range h o kind s), ?_⟩
    rintro hd _ rfl
    refine ⟨fun other => ?_, fun own staged => ?_, fun own staged => ?_⟩
    · exact answers_of_block run admitted (lockBlock_locked (d := ⟨d, hd⟩) other kind)
    · exact answers_of_block run admitted (lockBlock_staged (d := ⟨d, hd⟩) own staged)
    · exact answers_of_block run admitted (lockBlock_ok (d := ⟨d, hd⟩) own staged)
  case unlocking =>
    intro s o tag d admitted
    refine ⟨fun h => answers_of_block rfl admitted (unlockBlock_range h o s), ?_⟩
    rintro hd _ rfl
    refine ⟨fun free => ?_, fun l locked other => ?_, fun l locked own => ?_⟩
    · exact answers_of_block rfl admitted (unlockBlock_of_unlocked free o)
    · exact answers_of_block rfl admitted ((unlockBlock_of_locked locked o).trans (if_neg other))
    · exact answers_of_block rfl admitted ((unlockBlock_of_locked locked o).trans (if_pos own))
  case forcing =>
    intro s tag d ready
    have admitted : Admits s .ctl .forceUnlock := admits_ctl rfl rfl ready
    exact ⟨fun h => answers_of_block rfl admitted (forceUnlockBlock_range h s),
      fun hd => answers_of_block rfl admitted (forceUnlockBlock_inRange ⟨d, hd⟩ s)⟩
  case control =>
    exact fun d => onlyFromControl_of_head rfl rfl (by decide) fun _ _ => rfl

/-! ### DEFINE DESTINATION (R19) -/

theorem input_eq_some_iff (c : DestClass) (w : Fin 24) : c.input = some w ↔ c = .swin w := by
  cases c <;> simp [DestClass.input]

theorem ifbInUse_iff (s : State) (d : Dst) :
    ifbInUse s d = true ↔ (∃ k, (s.key k).targetsIfb d = true) ∨ (s.entry d).interrupters ≠ [] := by
  simp [ifbInUse]

theorem inFallback_iff (s : State) (d : Dst) :
    inFallback s d = true ↔ ∃ g, d ∈ (s.guard g).defn.fallback.map Prod.fst := by
  simp [inFallback]

theorem inputTaken_iff (s : State) (d : Dst) (c : DestClass) :
    inputTaken s d c = true ↔ ∃ w d', c = .swin w ∧ d' ≠ d ∧ (s.defs.at d').cls = .swin w := by
  cases c with
  | swin w =>
    have carried : (DestClass.swin w).input = some w := rfl
    simp [inputTaken, carried, input_eq_some_iff]
  | _ => simp [inputTaken, DestClass.input]

/-- A number out of its range, or a class code whose index does not belong to it. -/
theorem defineDestinationBlock_range {d cls index home : Nat}
    (h : ¬(d < 48 ∧ home < 64 ∧ ∃ c : DestClass, cls = c.code ∧ index = (c.input.map Fin.val).getD 255)) (s : State) :
    defineDestinationBlock d cls index home s = refuseWith .range s := by
  unfold defineDestinationBlock
  split
  next c _ hd hc hx =>
    obtain rfl := finOf_eq_some.mp hd
    obtain rfl := finOf_eq_some.mp hx
    exact absurd ⟨Fin.isLt _, Fin.isLt _, c, classOf_eq_some hc⟩ h
  · rfl

/-- The checks of R19 on operands in range, in their order, with the two causes of IN_USE joined. -/
theorem defineDestinationBlock_inRange (d : Dst) (c : DestClass) (x : Src) (s : State) :
    defineDestinationBlock d.1 c.code ((c.input.map Fin.val).getD 255) x.1 s =
      if (s.entry d).hold.isSome || ((s.defs.at d).cls = .ifb && c != .ifb && ifbInUse s d) then refuseWith .inUse s
      else if c = .ifb && inFallback s d then refuseWith .cls s
      else if inputTaken s d c then refuseWith .config s
      else okWith (redefine d ⟨c, x⟩ s) := by
  simp only [defineDestinationBlock, finOf_val, classOf_val]
  cases (s.entry d).hold.isSome with
  | true => rfl
  | false => simp only [Bool.false_or, Bool.false_eq_true, if_false]

/-- DEFINE DESTINATION with operands in range passes the check of its class code. -/
theorem exec_defineDestination_inRange (o : Origin) (tag : Byte) (d : Nat) (c : DestClass) (index home : Nat)
    (s : State) : exec (.defineDestination o tag d c.code index home) s =
      serve .defineDestination o tag true (defineDestinationBlock d c.code index home) s := by
  have codes : codesOk (.defineDestination o tag d c.code index home) = true := decide_eq_true (classCode_lt c)
  show serve _ _ _ (codesOk _) _ _ = _
  rw [codes]

/-- Settles O6: the tests of the block are the three conditions of R19, asked in that order. -/
theorem defineDestinationIsCheckedThenTakesEffect : Obligations.DefineDestinationIsCheckedThenTakesEffect := by
  unfold Obligations.DefineDestinationIsCheckedThenTakesEffect
  refine ⟨?range, ?inRange, ?control⟩
  case range =>
    intro s tag d cls index home ready h
    exact answers_range (admits_ctl rfl rfl ready) rfl fun _ => defineDestinationBlock_range h s
  case inRange =>
    rintro s tag d c x ready _ rfl inUse isFallback taken hInUse hFallback hTaken
    have admitted : Admits s .ctl .defineDestination := admits_ctl rfl rfl ready
    have run := exec_defineDestination_inRange .ctl tag d.1 c ((c.input.map Fin.val).getD 255) x.1 s
    have block := defineDestinationBlock_inRange d c x s
    have testInUse : ((s.entry d).hold.isSome ||
        ((s.defs.at d).cls = .ifb && c != .ifb && ifbInUse s d)) = true ↔ inUse := by
      simp [hInUse, ifbInUse_iff, and_assoc]
    have testFallback : (c = .ifb && inFallback s d) = true ↔ isFallback := by
      simp [hFallback, inFallback_iff]
    have testTaken : inputTaken s d c = true ↔ taken := by rw [inputTaken_iff, hTaken]
    rw [← testInUse, ← testFallback, ← testTaken]
    refine ⟨fun used => ?_, fun free fallback => ?_, fun free other carried => ?_, fun free other single => ?_⟩
    · exact answers_of_block run admitted (by rw [block, if_pos used]; rfl)
    · exact answers_of_block run admitted (by rw [block, if_neg free, if_pos fallback]; rfl)
    · exact answers_of_block run admitted (by rw [block, if_neg free, if_neg other, if_pos carried]; rfl)
    · exact answers_of_block run admitted (by rw [block, if_neg free, if_neg other, if_neg single]; rfl)
  case control =>
    exact fun d cls index home => onlyFromControl_of_head rfl rfl (by decide) fun _ _ => rfl

end Sys2Proof.Machine
end

section
/-! SUPPORT. The salvo requests: the verdict on a submitted salvo after each check of R25 and R26, the answers of the
blocks of SALVO and CANCEL SALVO, and from that the obligation O8. -/

namespace Sys2Proof.Machine

/-! ### The verdict on a submitted salvo (R25, R26) -/

/-- A salvo that R25's second check refuses: it names a destination twice, or its originator already has a staged or a
queued salvo of its tag. -/
def IsRepeat (s : State) (o : Origin) (tag : Byte) (ps : List (Dst × Src)) : Prop :=
  ¬(ps.map Prod.fst).Nodup ∨ (∃ d, (s.entry d).inSalvo o tag = true) ∨ ∃ x ∈ s.salvos, x.orig = o ∧ x.tag = tag

theorem isRepeat_iff (s : State) (o : Origin) (tag : Byte) (ps : List (Dst × Src)) :
    (!distinct (ps.map Prod.fst) || tagInUse s o tag) = true ↔ IsRepeat s o tag ps := by
  rw [Bool.or_eq_true, Bool.not_eq_true', ← Bool.not_eq_true, distinct_iff, tagInUse_iff, IsRepeat]

theorem judgeSalvo_range {raw : List (Nat × Nat)}
    (h : raw = [] ∨ 16 < raw.length ∨ ∃ p ∈ raw, ¬(p.1 < 48 ∧ p.2 < 64)) (s : State) (o : Origin) (tag : Byte) :
    judgeSalvo s o tag raw = .refuse .range none := by
  unfold judgeSalvo
  rcases h with rfl | long | ⟨p, hp, outside⟩
  · rfl
  · simp [long]
  · rw [allOf_none ⟨p, hp, pairOf_none outside⟩]
    exact ite_self _

section
variable {s : State} {o : Origin} {tag : Byte} {ps : List (Dst × Src)}

theorem judgeSalvo_repeated (hne : ps ≠ []) (hlen : ps.length ≤ 16) (again : IsRepeat s o tag ps) :
    judgeSalvo s o tag (ps.map fun p => (p.1.1, p.2.1)) = .refuse .repeated none := by
  rw [judgeSalvo_pairs s o tag ps hne hlen, if_pos ((isRepeat_iff s o tag ps).mpr again)]

theorem judgeSalvo_locked (hne : ps ≠ []) (hlen : ps.length ≤ 16) (fresh : ¬IsRepeat s o tag ps)
    {i : Nat} (hi : i < ps.length) (lock : LockedTo (s.entry ps[i].1) o)
    (before : ∀ (j : Nat) (hj : j < ps.length), j < i → ¬LockedTo (s.entry ps[j].1) o) :
    judgeSalvo s o tag (ps.map fun p => (p.1.1, p.2.1)) = .refuse .locked (some i) := by
  rw [judgeSalvo_pairs s o tag ps hne hlen, if_neg (mt (isRepeat_iff s o tag ps).mp fresh),
    firstLocked_some s o ps i hi lock before]

/-- A salvo that is not a repeat and meets no lock is judged by its marks, then its holds. -/
theorem judgeSalvo_unlocked (hne : ps ≠ []) (hlen : ps.length ≤ 16) (fresh : ¬IsRepeat s o tag ps)
    (unlocked : ∀ p ∈ ps, ¬LockedTo (s.entry p.1) o) :
    judgeSalvo s o tag (ps.map fun p => (p.1.1, p.2.1)) =
      if anyMarked s ps then .refuse .staged none else if anyHeld s ps then .wait ps else .stage ps := by
  rw [judgeSalvo_pairs s o tag ps hne hlen, if_neg (mt (isRepeat_iff s o tag ps).mp fresh),
    firstLocked_none s o ps unlocked]

end

/-! ### SALVO (R25 to R27) -/

theorem salvosFull_iff (s : State) : salvosFull s = true ↔ 4 ≤ s.salvos.length := decide_eq_true_iff

section
variable {s : State} {o : Origin} {tag : Byte} {raw : List (Nat × Nat)} {ps : List (Dst × Src)}

theorem salvoBlock_refuse {code : Result} {pair : Option Nat} (h : judgeSalvo s o tag raw = .refuse code pair) :
    salvoBlock o tag raw s = (s, .now code (pairParam pair)) := by
  simp only [salvoBlock, h]

theorem salvoBlock_full (h : judgeSalvo s o tag raw = .wait ps) (full : 4 ≤ s.salvos.length) :
    salvoBlock o tag raw s = refuseWith .full s := by
  simp only [salvoBlock, h, (salvosFull_iff s).mpr full, if_true]

theorem salvoBlock_queued (h : judgeSalvo s o tag raw = .wait ps) (room : s.salvos.length < 4) :
    salvoBlock o tag raw s = (joinSalvos ⟨o, tag, ps, false⟩ s, .now .queued []) := by
  simp only [salvoBlock, h]
  rw [if_neg (mt (salvosFull_iff s).mp (Nat.not_le.mpr room))]

theorem salvoBlock_accepted (h : judgeSalvo s o tag raw = .stage ps) :
    salvoBlock o tag raw s = (stageSalvo o tag false ps s, .now .accepted []) := by
  simp only [salvoBlock, h]

end

/-! ### CANCEL SALVO (R32) -/

theorem cancelSalvoBlock_range {s : State} {o : Origin} {salvoTag : Byte}
    (absent : ∀ x ∈ s.salvos, ¬(x.orig = o ∧ x.tag = salvoTag)) :
    cancelSalvoBlock o salvoTag s = refuseWith .range s := by
  have missing : (s.salvos.any fun x => x.orig = o && x.tag = salvoTag) = false := by simpa using absent
  simp only [cancelSalvoBlock, missing, Bool.false_eq_true, if_false]

theorem cancelSalvoBlock_ok {s : State} {o : Origin} {salvoTag : Byte}
    (own : ∃ x ∈ s.salvos, x.orig = o ∧ x.tag = salvoTag) :
    cancelSalvoBlock o salvoTag s =
      okWith { s with salvos := s.salvos.filter fun x => decide ¬(x.orig = o ∧ x.tag = salvoTag) } := by
  have found : (s.salvos.any fun x => x.orig = o && x.tag = salvoTag) = true := by simpa using own
  simp only [cancelSalvoBlock, found, if_true, Bool.decide_and, decide_not]

/-- Settles O8: SALVO by its verdict after each check, and CANCEL SALVO by the requester's entry in the queue. -/
theorem salvosAreCheckedStagedQueuedAndCancelled : Obligations.SalvosAreCheckedStagedQueuedAndCancelled := by
  unfold Obligations.SalvosAreCheckedStagedQueuedAndCancelled
  refine ⟨?submitting, ?cancelling⟩
  case submitting =>
    intro s o tag admitted
    refine ⟨fun raw h => answers_of_block rfl admitted (salvoBlock_refuse (judgeSalvo_range h s o tag)), ?_⟩
    rintro ps hne hlen _ rfl repeated marked held hRepeated hMarked hHeld
    replace hRepeated : repeated ↔ IsRepeat s o tag ps := hRepeated
    rw [← anyMarked_iff] at hMarked
    rw [← anyHeld_iff] at hHeld
    rw [hRepeated, hMarked, hHeld]
    refine ⟨fun again => ?_, fun fresh i hi lock before => ?_, fun fresh unlocked => ?_⟩
    · exact answers_of_block rfl admitted (salvoBlock_refuse (judgeSalvo_repeated hne hlen again))
    · exact answers_of_block rfl admitted (salvoBlock_refuse (judgeSalvo_locked hne hlen fresh hi lock before))
    have verdict := judgeSalvo_unlocked hne hlen fresh unlocked
    refine ⟨fun mark => ?_, fun mark hold full => ?_, fun mark hold room => ?_, fun mark hold => ?_⟩
    · exact answers_of_block rfl admitted (salvoBlock_refuse (verdict.trans (if_pos mark)))
    · rw [if_neg mark, if_pos hold] at verdict
      exact answers_of_block rfl admitted (salvoBlock_full verdict full)
    · rw [if_neg mark, if_pos hold] at verdict
      exact answers_of_block rfl admitted (salvoBlock_queued verdict room)
    · rw [if_neg mark, if_neg hold] at verdict
      have single : (ps.map Prod.fst).Nodup := not_not.mp fun twice => fresh (.inl twice)
      exact ⟨stageSalvo o tag false ps s, answers_of_block rfl admitted (salvoBlock_accepted verdict),
        stageSalvo_at o tag false ps single s, stageSalvo_other o tag false ps s, stageSalvo_eq o tag false ps s⟩
  case cancelling =>
    intro s o tag salvoTag admitted
    exact ⟨fun absent => answers_of_block rfl admitted (cancelSalvoBlock_range absent),
      fun own => answers_of_block rfl admitted (cancelSalvoBlock_ok own)⟩

end Sys2Proof.Machine
end

section
/-! SUPPORT. The feed matrix port's reports and expiries: what a report word names, what a report and an expiry of the
confirmation timer do to their destination, and from that the obligation O18. -/

namespace Sys2Proof.Machine

/-! ### FEED_REPORT (R53 to R57) -/

theorem exec_feedReport_discarded {w : Word} (h : ¬reportDest w < 48) (s : State) :
    exec (.feedReport w) s = finish s s := by
  show execFeedReport w s = finish s s
  simp only [execFeedReport, finOf_ge h]

theorem exec_feedReport_named {w : Word} {d : Dst} {x : Src} (hd : d.1 = reportDest w) (hx : x.1 = w.toNat % 64)
    (s : State) : exec (.feedReport w) s = finish s (report d x s) := by
  have source : reportSource w = x := Fin.ext hx.symm
  show execFeedReport w s = finish s (report d x s)
  simp only [execFeedReport, ← hd, finOf_val, source]

/-- A report of the commanded source settles its destination (R54). -/
theorem report_settled {s : State} {d : Dst} {x : Src} (h : (s.entry d).commanded = some x) :
    report d x s =
      refresh (s.setEntry d { s.entry d with reported := some x, confirmation := some .settled }) := if_pos h

/-- A report of another source, or one for a destination with none commanded, is a mismatch and raises its cause
(R55, R57). -/
theorem report_mismatch {s : State} {d : Dst} {x : Src} (h : (s.entry d).commanded ≠ some x) :
    report d x s =
      refresh (raise .mismatch
        (s.setEntry d { s.entry d with reported := some x, confirmation := some .mismatch })) := if_neg h

/-! ### CONFIRMATION_TIMER_EXPIRY (R56) -/

theorem confirmExpiry_awaiting {s : State} {d : Dst} {n : Nat} (h : (s.entry d).confirmation = some (.awaiting n)) :
    confirmExpiry d s =
      raise .mismatch (s.setEntry d { s.entry d with confirmation := some .unconfirmed }) := by
  simp only [confirmExpiry, h]

/-- Settles O18: a report by the destination its word names and the source commanded there, an expiry by the timer it
ends, and MATRIX REFRESH by its block. -/
theorem reportsAndExpiriesConfirm : Obligations.ReportsAndExpiriesConfirm := by
  unfold Obligations.ReportsAndExpiriesConfirm
  refine ⟨?reporting, ?expiring, ?refreshing, ?control⟩
  case reporting =>
    rintro s w _ _ rfl
    refine ⟨fun outside => becomes_of_finish (exec_feedReport_discarded outside s), ?_⟩
    rintro inside _ x rfl hx
    have run := exec_feedReport_named (d := ⟨_, inside⟩) rfl hx s
    refine ⟨fun same => ?_, fun other => ?_⟩
    · exact becomes_of_finish (run.trans (congrArg (finish s) (report_settled same)))
    · exact becomes_of_finish (run.trans (congrArg (finish s) (report_mismatch other)))
  case expiring =>
    intro s d n awaiting
    have run : exec (.confirmationTimerExpiry d) s = finish s (confirmExpiry d s) := rfl
    exact becomes_of_finish (run.trans (congrArg (finish s) (confirmExpiry_awaiting awaiting)))
  case refreshing =>
    intro s tag ready
    have admitted : Admits s .ctl .matrixRefresh := admits_ctl rfl rfl ready
    have block : refreshMatrix s =
        okWith { s with take := { s.take with dirty := tabOf fun _ => true } } := rfl
    exact answers_of_block rfl admitted block
  case control =>
    exact onlyFromControl_of_head rfl rfl (by decide) fun _ _ => rfl

end Sys2Proof.Machine
end

section
/-! SUPPORT. The tally unit: what each condition of a source means over the destinations, when each lamp is ON and when
it is FLASH, what the blocks of the tally requests answer, and from that the obligations O19, O20 and O21. -/

namespace Sys2Proof.Machine

/-! ### The conditions of a source (R62 to R66) -/

/-- Some destination of class `c` has tally source `x`. -/
def GivenByClass (s : State) (x : Src) (c : DestClass) : Prop :=
  ∃ d, (s.defs.at d).cls = c ∧ (s.entry d).tallySource = some x

theorem givenBy_iff (s : State) (f : DestClass → Bool) (x : Src) :
    givenBy s f x = true ↔ ∃ d, f (s.defs.at d).cls = true ∧ (s.entry d).tallySource = some x := by
  simp [givenBy]

theorem givenBy_class_iff (s : State) (c : DestClass) (x : Src) :
    givenBy s (· = c) x = true ↔ GivenByClass s x c := by
  simp only [givenBy_iff, GivenByClass, decide_eq_true_eq]

/-- A source is carried when a SWIN destination gives it to one of the set's inputs (R63). -/
theorem carriedIn_iff (s : State) (set : Tab Bool 24) (x : Src) :
    carriedIn s set x = true ↔ ∃ w, set.at w = true ∧ GivenByClass s x (.swin w) := by
  rw [carriedIn, givenBy_iff]
  constructor
  · rintro ⟨d, inSet, hx⟩
    split at inSet
    next w hw => exact ⟨w, inSet, d, hw, hx⟩
    next => cases inSet
  · rintro ⟨w, inSet, d, hw, hx⟩
    exact ⟨d, by rw [hw]; exact inSet, hx⟩

theorem programGate_iff (s : State) :
    programGate s = true ↔ ∀ y, s.tally.programSource = some y → GivenByClass s y .tx := by
  unfold programGate
  cases s.tally.programSource with
  | none => simp
  | some y => simp [givenBy_class_iff]

theorem pgmSwitcher_iff (s : State) (x : Src) :
    (conditions s x).pgmSwitcher = true ↔
      programGate s = true ∧ ∃ w, s.tally.program.at w = true ∧ GivenByClass s x (.swin w) := by
  rw [← carriedIn_iff]
  exact Bool.and_eq_true_iff

theorem tallySource_of_reported {e : Entry} {x : Src} (h : e.reported = some x) : e.tallySource = some x := by
  simp only [Entry.tallySource, h]

theorem tallySource_of_unreported {e : Entry} (h : e.reported = none) : e.tallySource = e.commanded := by
  simp only [Entry.tallySource, h]

/-! ### The lamps (R67 to R70) -/

theorem pathLamp_on_iff (direct switcher fresh : Bool) :
    pathLamp direct switcher fresh = .on ↔ direct = true ∨ (switcher = true ∧ fresh = true) := by
  revert direct switcher fresh
  decide

theorem pathLamp_flash_iff (direct switcher fresh : Bool) :
    pathLamp direct switcher fresh = .flash ↔ direct = false ∧ switcher = true ∧ fresh = false := by
  revert direct switcher fresh
  decide

/-- The green lamp is lit in a state only while red is OFF, and then as its own path gives it. -/
theorem greenLamp_eq_iff {l : Lamp} (hl : l ≠ .off) (w : Conditions) (fresh : Bool) :
    greenLamp w fresh = l ↔ redLamp w fresh = .off ∧ pathLamp w.pvwDirect w.pvwSwitcher fresh = l := by
  unfold greenLamp
  split
  next dark => simp only [dark, true_and]
  next red => simp only [red, false_and, hl.symm]

theorem amberLamp_flash_iff (w : Conditions) (calls : Nat) : amberLamp w calls = .flash ↔ 0 < calls := by
  unfold amberLamp
  split
  next called => simp [called]
  next quiet => cases w.iso <;> simp [quiet]

theorem amberLamp_on_iff (w : Conditions) (calls : Nat) :
    amberLamp w calls = .on ↔ calls = 0 ∧ w.iso = true := by
  unfold amberLamp
  split
  next called => simp [called.ne']
  next quiet => cases w.iso <;> simp [Nat.eq_zero_of_not_pos quiet]

@[simp] theorem lit_mapped (s : State) (c : Channel) : (lit s c).mapped = c.mapped := by
  unfold lit
  split <;> rfl

@[simp] theorem lit_calls (s : State) (c : Channel) : (lit s c).calls = c.calls := by
  unfold lit
  split <;> rfl

theorem lit_of_unmapped {c : Channel} (h : c.mapped = none) (s : State) :
    lit s c = { c with red := .off, green := .off, amber := .off } := by
  simp only [lit, h]

theorem lit_of_mapped {c : Channel} {x : Src} (h : c.mapped = some x) (s : State) :
    lit s c = { c with
      red := redLamp (conditions s x) s.tally.fresh
      green := greenLamp (conditions s x) s.tally.fresh
      amber := amberLamp (conditions s x) c.calls } := by
  simp only [lit, h]

theorem channel_recompute (s : State) (c : Chn) : (recompute s).channel c = lit s (s.channel c) :=
  Tab.at_tabOf _ c

/-- Settles O19: the conditions by what they ask of the destinations, and each lamp by the value its mapped source's
conditions give it. -/
theorem conditionsAndLampsFollowTheirTables : Obligations.ConditionsAndLampsFollowTheirTables := by
  unfold Obligations.ConditionsAndLampsFollowTheirTables
  refine ⟨?conditions, ?lamps⟩
  case conditions =>
    intro s x given hgiven
    obtain rfl : given = GivenByClass s x := funext fun c => propext (hgiven c)
    exact ⟨givenBy_class_iff s .tx x, programGate_iff s, pgmSwitcher_iff s x, givenBy_class_iff s .pvw x,
      carriedIn_iff s s.tally.preview x, givenBy_class_iff s .iso x,
      fun d => ⟨fun _ => tallySource_of_reported, tallySource_of_unreported⟩⟩
  case lamps =>
    rintro s _ rfl
    refine ⟨rfl, rfl, fun c => ?_⟩
    rw [channel_recompute]
    refine ⟨lit_mapped s _, lit_calls s _, fun unmapped => ?_, ?_⟩
    · rw [lit_of_unmapped unmapped]
      exact ⟨rfl, rfl, rfl⟩
    · rintro x mapped w rfl
      rw [lit_of_mapped mapped]
      refine ⟨pathLamp_on_iff _ _ _, pathLamp_flash_iff _ _ _, ?_, ?_, amberLamp_flash_iff _ _, amberLamp_on_iff _ _⟩
      · exact (greenLamp_eq_iff (by decide) _ _).trans (and_congr_right' (pathLamp_on_iff _ _ _))
      · exact (greenLamp_eq_iff (by decide) _ _).trans (and_congr_right' (pathLamp_flash_iff _ _ _))

/-! ### The switcher record and its settings (R76, R78, R79) -/

/-- The configured switcher link is admitted for BUS TALLY while it is UP (R76, R157). -/
theorem admits_busTally {s : State} {p : Pnl} (up : (s.link p).state = .up) (switcher : s.tally.switcher = some p) :
    Admits s (.panel p) .busTally := ⟨rfl, fun _ => switcher, .inl up⟩

theorem gate_busTally_other {s : State} {p : Pnl} (session : (s.link p).state.session = true)
    (other : s.tally.switcher ≠ some p) : gate s (.panel p) .busTally true = .refuse .notPermitted := by
  simp [gate, panelGate, session, other, ReqKind.controlOnly]

theorem gate_busTally_quiescing {s : State} {p : Pnl} (closing : (s.link p).state = .quiescing)
    (switcher : s.tally.switcher = some p) : gate s (.panel p) .busTally true = .refuse .quiescing := by
  simp [gate, panelGate, closing, switcher, LinkState.session, ReqKind.controlOnly, ReqKind.takenQuiescing]

theorem gate_busTally_ctl {s : State} (ready : s.ctl.ready = true) :
    gate s .ctl .busTally true = .refuse .notPermitted := by
  simp [gate, controlGate, ready, ReqKind.urgent, ReqKind.panelOnly]

theorem setSwitcherBlock_inRange (l : Option Pnl) (x : Option Src) (s : State) :
    setSwitcherBlock ((l.map Fin.val).getD 255) ((x.map Fin.val).getD 255) s = okWith (setSwitcher l x s) := by
  simp only [setSwitcherBlock, optOf_val (show 8 ≤ 255 by decide), optOf_val (show 64 ≤ 255 by decide)]

/-- A number in neither reading of an optional field names nothing. -/
theorem optOf_none {n x : Nat} (h : ¬(x = 255 ∨ x < n)) : optOf n x = none := by
  obtain ⟨present, outside⟩ := not_or.mp h
  simp [optOf, present, finOf_ge outside]

theorem setSwitcherBlock_range {link source : Nat}
    (h : ¬(link = 255 ∨ link < 8) ∨ ¬(source = 255 ∨ source < 64)) (s : State) :
    setSwitcherBlock link source s = refuseWith .range s := by
  unfold setSwitcherBlock
  rcases h with link | source
  · rw [optOf_none link]
  · rw [optOf_none source]
    cases optOf 8 link <;> rfl

theorem setSwitcher_same {s : State} {l : Option Pnl} (h : l = s.tally.switcher) (x : Option Src) :
    setSwitcher l x s = refresh { s with tally := { s.tally with programSource := x } } := by
  subst h
  exact if_pos rfl

theorem setSwitcher_other {s : State} {l : Option Pnl} (h : l ≠ s.tally.switcher) (x : Option Src) :
    setSwitcher l x s =
      setRecord noInputs noInputs (decide (l = none))
        { s with tally := { s.tally with switcher := l, programSource := x } } := by
  have absent : l.isNone = decide (l = none) := by cases l <;> rfl
  rw [← absent]
  exact if_neg h

/-- Settles O20: BUS TALLY by the link it comes from, CLEAR SWITCHER TALLY by its block, and SET SWITCHER by whether it
changes the link. -/
theorem switcherRecordAndSettings : Obligations.SwitcherRecordAndSettings := by
  unfold Obligations.SwitcherRecordAndSettings
  refine ⟨⟨?fromSwitcher, ?fromOther, ?fromClosing, ?fromControl, ?clearing, ?clearControl⟩, ?setting, ?range, ?control⟩
  case fromSwitcher =>
    exact fun s p tag program preview up switcher => answers_of_block rfl (admits_busTally up switcher) rfl
  case fromOther =>
    exact fun s p tag program preview session other => answers_of_refused rfl (gate_busTally_other session other)
  case fromClosing =>
    exact fun s p tag program preview closing switcher =>
      answers_of_refused rfl (gate_busTally_quiescing closing switcher)
  case fromControl =>
    exact fun s tag program preview ready => answers_of_refused rfl (gate_busTally_ctl ready)
  case clearing =>
    exact fun s tag ready => answers_of_block rfl (admits_ctl rfl rfl ready) rfl
  case clearControl =>
    exact onlyFromControl_of_head rfl rfl (by decide) fun _ _ => rfl
  case setting =>
    rintro s tag l x ready _ rfl
    have admitted : Admits s .ctl .setSwitcher := admits_ctl rfl rfl ready
    have block := setSwitcherBlock_inRange l x s
    refine ⟨fun same => ?_, fun other => ?_⟩
    · exact answers_of_block rfl admitted (block.trans (congrArg okWith (setSwitcher_same same x)))
    · exact answers_of_block rfl admitted (block.trans (congrArg okWith (setSwitcher_other other x)))
  case range =>
    exact fun s tag link source ready h =>
      answers_of_block rfl (admits_ctl rfl rfl ready) (setSwitcherBlock_range h s)
  case control =>
    exact fun link source => onlyFromControl_of_head rfl rfl (by decide) fun _ _ => rfl

/-! ### Channel mapping and the flash (R71, R80) -/

theorem defineTallyChannelBlock_inRange (c : Chn) (x : Option Src) (s : State) :
    defineTallyChannelBlock c.1 ((x.map Fin.val).getD 255) s = okWith (mapChannel c x s) := by
  simp only [defineTallyChannelBlock, finOf_val, optOf_val (show 64 ≤ 255 by decide)]

theorem defineTallyChannelBlock_range {c x : Nat} (h : ¬c < 32 ∨ ¬(x = 255 ∨ x < 64)) (s : State) :
    defineTallyChannelBlock c x s = refuseWith .range s := by
  unfold defineTallyChannelBlock
  rcases h with channel | source
  · rw [finOf_ge channel]
  · rw [optOf_none source]
    cases finOf 32 c <;> rfl

theorem lampOutput_iff (s : State) (l : Lamp) :
    lampOutput s l = true ↔ l = .on ∨ (l = .flash ∧ s.tally.flashLit = true) := by
  cases l with
  | off => simp [lampOutput]
  | on => simp [lampOutput]
  | flash => simp [lampOutput]

/-- Settles O21: DEFINE TALLY CHANNEL by its block's answers, the flash by its expiry, a lamp's output by its state. -/
theorem channelMappingAndFlash : Obligations.ChannelMappingAndFlash := by
  unfold Obligations.ChannelMappingAndFlash
  refine ⟨?mapping, ?range, ?control, ?flash, lampOutput_iff⟩
  case mapping =>
    exact fun s tag c x ready =>
      answers_of_block rfl (admits_ctl rfl rfl ready) (defineTallyChannelBlock_inRange c x s)
  case range =>
    exact fun s tag c x ready h =>
      answers_of_block rfl (admits_ctl rfl rfl ready) (defineTallyChannelBlock_range h s)
  case control =>
    exact fun c x => onlyFromControl_of_head rfl rfl (by decide) fun _ _ => rfl
  case flash =>
    intro s
    have run : exec .flashTimerExpiry s = finish s (flashExpiry s) := rfl
    exact becomes_of_finish run

end Sys2Proof.Machine
end

section
/-! SUPPORT. Talk keys and their requests: what the blocks of DEFINE STATION, DEFINE PARTY, DEFINE KEY and KEY DOWN
answer, check by check, and from that the obligations O22, O23 and O24. -/

namespace Sys2Proof.Machine

/-! ### Keys and their stations (R86, R90) -/

theorem stationOf_keyOf (p : Pnl) (i : Fin 16) : stationOf (keyOf p i) = p := by
  apply Fin.ext
  simp only [stationOf, keyOf]
  omega

theorem keyOf_stationOf (k : KeyId) : keyOf (stationOf k) (keyNumber k) = k := by
  apply Fin.ext
  simp only [stationOf, keyOf, keyNumber]
  omega

@[simp] theorem mem_stationKeys {p : Pnl} {k : KeyId} : k ∈ stationKeys p ↔ stationOf k = p := by
  simp only [stationKeys, List.mem_map, mem_fins, true_and]
  constructor
  · rintro ⟨i, rfl⟩
    exact stationOf_keyOf p i
  · rintro rfl
    exact ⟨keyNumber k, keyOf_stationOf k⟩

theorem callsParty_iff (x : Key) (y : Pty) : x.callsParty y = true ↔ ∃ m, x.defn = some ⟨m, .party y true⟩ := by
  unfold Key.callsParty
  split
  next m y' called => simp [called]
  next other => simpa using fun m h => other m y h

@[simp] theorem setKey_key (s : State) (k : KeyId) : s.setKey k (s.key k) = s := by
  simp [State.setKey, State.key]

/-- A key that goes from a state to the same state changes nothing. -/
theorem moveKey_same (k : KeyId) (s : State) : moveKey k (s.key k).state s = s := by
  have kept : s.setKey k { s.key k with state := (s.key k).state } = s := setKey_key s k
  unfold moveKey
  simp only [kept]
  cases (s.key k).state.talking <;> cases (s.key k).defn <;> rfl

/-! ### DEFINE STATION (R88) -/

theorem stationInterrupts_iff (s : State) (p : Pnl) : stationInterrupts s p = true ↔
    ∃ k, stationOf k = p ∧ (s.key k).isIfb = true ∧ (s.key k).state.talking = true := by
  simp [stationInterrupts]

theorem stationOwnsIfb_iff (s : State) (p : Pnl) :
    stationOwnsIfb s p = true ↔ ∃ k, stationOf k = p ∧ (s.key k).isIfb = true := by
  simp [stationOwnsIfb]

/-- The checks of R88 on operands in range, in their order. -/
theorem defineStationBlock_inRange (p : Pnl) (x : Option Src) (s : State) :
    defineStationBlock p.1 ((x.map Fin.val).getD 255) s =
      if stationInterrupts s p then refuseWith .inUse s
      else if x.isNone && stationOwnsIfb s p then refuseWith .config s
      else okWith { s with talk := { s.talk with mics := s.talk.mics.put p x } } := by
  simp only [defineStationBlock, finOf_val, optOf_val (show 64 ≤ 255 by decide)]

theorem defineStationBlock_range {p x : Nat} (h : ¬p < 8 ∨ ¬(x = 255 ∨ x < 64)) (s : State) :
    defineStationBlock p x s = refuseWith .range s := by
  unfold defineStationBlock
  rcases h with station | mic
  · rw [finOf_ge station]
  · rw [optOf_none mic]
    cases finOf 8 p <;> rfl

/-! ### DEFINE PARTY (R89) -/

theorem partyCalled_iff (s : State) (y : Pty) : partyCalled s y = true ↔
    ∃ k m, (s.key k).defn = some ⟨m, .party y true⟩ ∧ (s.key k).state.talking = true := by
  simp [partyCalled, callsParty_iff]

/-- The check of R89 on operands in range. -/
theorem definePartyBlock_inRange (y : Pty) (c : Option Chn) (s : State) :
    definePartyBlock y.1 ((c.map Fin.val).getD 255) s =
      if partyCalled s y then refuseWith .inUse s
      else okWith { s with talk := { s.talk with parties := s.talk.parties.put y c } } := by
  simp only [definePartyBlock, finOf_val, optOf_val (show 32 ≤ 255 by decide)]

theorem definePartyBlock_range {y c : Nat} (h : ¬y < 32 ∨ ¬(c = 255 ∨ c < 32)) (s : State) :
    definePartyBlock y c s = refuseWith .range s := by
  unfold definePartyBlock
  rcases h with party | channel
  · rw [finOf_ge party]
  · rw [optOf_none channel]
    cases finOf 32 y <;> rfl

/-- Settles O22: the tests of the two blocks are the conditions of R88 and R89, asked in that order. -/
theorem stationsAndPartiesAreCheckedThenSet : Obligations.StationsAndPartiesAreCheckedThenSet := by
  unfold Obligations.StationsAndPartiesAreCheckedThenSet
  refine ⟨?station, ?stationRange, ?stationControl, ?party, ?partyRange, ?partyControl⟩
  case station =>
    rintro s tag p x ready _ rfl talks owns hTalks hOwns
    rw [← stationInterrupts_iff] at hTalks
    rw [← stationOwnsIfb_iff] at hOwns
    have admitted : Admits s .ctl .defineStation := admits_ctl rfl rfl ready
    have block := defineStationBlock_inRange p x s
    have testOwns : (x.isNone && stationOwnsIfb s p) = true ↔ x = none ∧ owns := by simp [hOwns]
    rw [hTalks]
    refine ⟨fun talking => ?_, fun silent absent owning => ?_, fun silent free => ?_⟩
    · exact answers_of_block rfl admitted (by rw [block, if_pos talking]; rfl)
    · have config := testOwns.mpr ⟨absent, owning⟩
      exact answers_of_block rfl admitted (by rw [block, if_neg silent, if_pos config]; rfl)
    · exact answers_of_block rfl admitted (by rw [block, if_neg silent, if_neg (mt testOwns.mp free)]; rfl)
  case stationRange =>
    exact fun s tag p x ready h => answers_of_block rfl (admits_ctl rfl rfl ready) (defineStationBlock_range h s)
  case stationControl =>
    exact fun p x => onlyFromControl_of_head rfl rfl (by decide) fun _ _ => rfl
  case party =>
    rintro s tag y c ready _ rfl called hCalled
    rw [← partyCalled_iff] at hCalled
    have admitted : Admits s .ctl .defineParty := admits_ctl rfl rfl ready
    have block := definePartyBlock_inRange y c s
    rw [hCalled]
    refine ⟨fun talking => ?_, fun silent => ?_⟩
    · exact answers_of_block rfl admitted (by rw [block, if_pos talking]; rfl)
    · exact answers_of_block rfl admitted (by rw [block, if_neg silent]; rfl)
  case partyRange =>
    exact fun s tag y c ready h => answers_of_block rfl (admits_ctl rfl rfl ready) (definePartyBlock_range h s)
  case partyControl =>
    exact fun y c => onlyFromControl_of_head rfl rfl (by decide) fun _ _ => rfl

/-! ### DEFINE KEY (R91, R92) -/

theorem keyMode_ofCode_code (m : KeyMode) : KeyMode.ofCode? m.code = some m := by cases m <;> rfl

theorem keyMode_code_lt (m : KeyMode) : m.code < 3 := by cases m <;> decide

theorem keyMode_ofCode_ge {m : Nat} (h : ¬m < 3) : KeyMode.ofCode? m = none := by
  match m, h with
  | 0, h | 1, h | 2, h => exact absurd (by decide) h
  | _ + 3, _ => rfl

theorem keyTarget_party (y : Pty) (call : Bool) : keyTarget? 0 y.1 call.toNat = some (.party y call) := by
  cases call <;> simp [keyTarget?, finOf_val]

theorem keyTarget_ifb (d : Dst) (call : Nat) : keyTarget? 1 d.1 call = some (.ifb d) := by
  simp [keyTarget?, finOf_val]

/-- A target kind of neither code, or a target number out of the range of its kind. -/
theorem keyTarget_range {kind target : Nat}
    (h : ¬kind < 2 ∨ (kind = 0 ∧ ¬target < 32) ∨ (kind = 1 ∧ ¬target < 48)) (call : Nat) :
    keyTarget? kind target call = none := by
  match kind, h with
  | 0, h => simp [keyTarget?, finOf_ge (show ¬target < 32 by omega)]
  | 1, h => simp [keyTarget?, finOf_ge (show ¬target < 48 by omega)]
  | _ + 2, _ => rfl

theorem defineKeyBlock_range {k : Nat} (h : ¬k < 128) (a m kind target call : Nat) (s : State) :
    defineKeyBlock k a m kind target call s = refuseWith .range s := by
  simp only [defineKeyBlock, finOf_ge h]

theorem defineKeyBlock_unassign (k : KeyId) (m kind target call : Nat) (s : State) :
    defineKeyBlock k.1 0 m kind target call s = unassignKey k s := by
  simp only [defineKeyBlock, finOf_val, if_pos]

theorem defineKeyBlock_assign (k : KeyId) (m kind target call : Nat) (s : State) :
    defineKeyBlock k.1 1 m kind target call s = assignKey k m kind target call s := by
  simp only [defineKeyBlock, finOf_val, one_ne_zero, if_false]

theorem assignKey_range {m kind target : Nat}
    (h : ¬m < 3 ∨ ¬kind < 2 ∨ (kind = 0 ∧ ¬target < 32) ∨ (kind = 1 ∧ ¬target < 48)) (k : KeyId) (call : Nat)
    (s : State) : assignKey k m kind target call s = refuseWith .range s := by
  unfold assignKey
  rcases h with mode | target
  · rw [keyMode_ofCode_ge mode]
  · rw [keyTarget_range target]
    cases KeyMode.ofCode? m <;> rfl

/-- The check of R91 on an assignment to a party. -/
theorem assignKey_party (k : KeyId) (m : KeyMode) (y : Pty) (call : Bool) (s : State) :
    assignKey k m.code 0 y.1 call.toNat s =
      if (s.key k).state != .idle then refuseWith .inUse s
      else okWith (setKeyDef k (some ⟨m, .party y call⟩) s) := by
  simp only [assignKey, keyMode_ofCode_code, keyTarget_party]

/-- The checks of R91 on an assignment to an IFB destination, in their order. -/
theorem assignKey_ifb (k : KeyId) (m : KeyMode) (d : Dst) (call : Nat) (s : State) :
    assignKey k m.code 1 d.1 call s =
      if (s.key k).state != .idle then refuseWith .inUse s
      else if (s.defs.at d).cls != .ifb then refuseWith .cls s
      else if call = 1 || (s.talk.mics.at (stationOf k)).isNone then refuseWith .config s
      else okWith (setKeyDef k (some ⟨m, .ifb d⟩) s) := by
  simp only [assignKey, keyMode_ofCode_code, keyTarget_ifb]

/-- An IDLE key's record after its definition is replaced. -/
theorem setKeyDef_of_idle {s : State} {k : KeyId} (idle : (s.key k).state = .idle) (f : Option KeyDef) :
    setKeyDef k f s = { s with talk := { s.talk with keys := s.talk.keys.put k ⟨f, .idle⟩ } } := by
  rw [← idle]
  rfl

/-- A DEFINE KEY whose codes are in their tables is served by its block. -/
theorem exec_defineKey {a m kind call : Nat} (codes : keyCodesOk a m kind call = true) (o : Origin) (tag : Byte)
    (k target : Nat) (s : State) : exec (.defineKey o tag k a m kind target call) s =
      serve .defineKey o tag true (defineKeyBlock k a m kind target call) s := by
  show serve _ _ _ (keyCodesOk a m kind call) _ _ = _
  rw [codes]

theorem keyCodesOk_assign (m : KeyMode) {kind : Nat} (hkind : kind < 2) (call : Bool) :
    keyCodesOk 1 m.code kind call.toNat = true := by
  simp [keyCodesOk, keyMode_code_lt m, hkind, Bool.toNat_lt call]

/-- Settles O23: the answers of the block for an unassigning request, and for an assignment to each kind of target. -/
theorem defineKeyIsCheckedThenReplaced : Obligations.DefineKeyIsCheckedThenReplaced := by
  unfold Obligations.DefineKeyIsCheckedThenReplaced
  refine ⟨?number, ?unassign, ?operands, ?party, ?ifb, ?control⟩
  case number =>
    exact fun s tag k a m kind target call ready _ _ _ _ h =>
      answers_range (admits_ctl rfl rfl ready) rfl fun _ => defineKeyBlock_range h a m kind target call s
  case unassign =>
    intro s tag k m kind target call ready
    have admitted : Admits s .ctl .defineKey := admits_ctl rfl rfl ready
    have run := exec_defineKey (a := 0) (m := m) (kind := kind) (call := call) rfl .ctl tag k.1 target s
    have block := defineKeyBlock_unassign k m kind target call s
    refine ⟨fun busy => ?_, fun idle => ?_⟩
    · exact answers_of_block run admitted (by rw [block, unassignKey, if_pos (by simpa using busy)]; rfl)
    · rw [← setKeyDef_of_idle idle none]
      exact answers_of_block run admitted (by rw [block, unassignKey, if_neg (by simpa using idle)]; rfl)
  case operands =>
    intro s tag k m kind target call ready h
    refine answers_range (admits_ctl rfl rfl ready) rfl fun _ => ?_
    exact (defineKeyBlock_assign k m kind target call s).trans (assignKey_range h k call s)
  case party =>
    rintro s tag k m y call ready _ rfl
    have admitted : Admits s .ctl .defineKey := admits_ctl rfl rfl ready
    have run := exec_defineKey (keyCodesOk_assign m (kind := 0) (by decide) call) .ctl tag k.1 y.1 s
    have block := (defineKeyBlock_assign k m.code 0 y.1 call.toNat s).trans (assignKey_party k m y call s)
    refine ⟨fun busy => ?_, fun idle => ?_⟩
    · exact answers_of_block run admitted (by rw [block, if_pos (by simpa using busy)]; rfl)
    · rw [← setKeyDef_of_idle idle]
      exact answers_of_block run admitted (by rw [block, if_neg (by simpa using idle)]; rfl)
  case ifb =>
    rintro s tag k m d call ready _ rfl
    have admitted : Admits s .ctl .defineKey := admits_ctl rfl rfl ready
    have run := exec_defineKey (keyCodesOk_assign m (kind := 1) (by decide) call) .ctl tag k.1 d.1 s
    have block := (defineKeyBlock_assign k m.code 1 d.1 call.toNat s).trans (assignKey_ifb k m d call.toNat s)
    have testIdle : ((s.key k).state != .idle) = true ↔ (s.key k).state ≠ .idle := bne_iff_ne
    have testClass : ((s.defs.at d).cls != .ifb) = true ↔ (s.defs.at d).cls ≠ .ifb := bne_iff_ne
    have testConfig : (call.toNat = 1 || (s.talk.mics.at (stationOf k)).isNone) = true ↔
        call = true ∨ s.talk.mics.at (stationOf k) = none := by simp
    refine ⟨fun busy => ?_, fun idle other => ?_, fun idle ifb config => ?_, fun idle ifb quiet mic => ?_⟩
    · exact answers_of_block run admitted (by rw [block, if_pos (testIdle.mpr busy)]; rfl)
    · exact answers_of_block run admitted
        (by rw [block, if_neg (mt testIdle.mp (not_not_intro idle)), if_pos (testClass.mpr other)]; rfl)
    · exact answers_of_block run admitted
        (by rw [block, if_neg (mt testIdle.mp (not_not_intro idle)), if_neg (mt testClass.mp (not_not_intro ifb)),
          if_pos (testConfig.mpr config)]; rfl)
    · rw [← setKeyDef_of_idle idle]
      have free : ¬(call = true ∨ s.talk.mics.at (stationOf k) = none) := by simp [quiet, mic]
      exact answers_of_block run admitted
        (by rw [block, if_neg (mt testIdle.mp (not_not_intro idle)), if_neg (mt testClass.mp (not_not_intro ifb)),
          if_neg (mt testConfig.mp free)]; rfl)
  case control =>
    exact fun k a m kind target call => onlyFromControl_of_head rfl rfl (by decide) fun _ _ => rfl

/-! ### KEY DOWN (R93, R95, R99) -/

theorem keyAt_of_assigned {s : State} {p : Pnl} {i : Fin 16} {f : KeyDef} (h : (s.key (keyOf p i)).defn = some f) :
    keyAt s p i.1 = some (keyOf p i, f) := by
  simp [keyAt, finOf_val, h]

theorem keyAt_eq_none {s : State} {p : Pnl} {n : Nat}
    (h : ¬n < 16 ∨ ∃ i : Fin 16, i.1 = n ∧ (s.key (keyOf p i)).defn = none) : keyAt s p n = none := by
  rcases h with range | ⟨i, rfl, unassigned⟩
  · simp [keyAt, finOf_ge range]
  · simp [keyAt, finOf_val, unassigned]

theorem listFull_iff (s : State) (t : KeyTarget) :
    listFull s t = true ↔ ∃ d, t = .ifb d ∧ 8 ≤ (s.entry d).interrupters.length := by
  cases t with
  | party y call => simp [listFull]
  | ifb d =>
    simp only [listFull, decide_eq_true_eq, KeyTarget.ifb.injEq, exists_eq_left']
    rfl

theorem keyDownBlock_range {s : State} {p : Pnl} {n : Nat}
    (h : ¬n < 16 ∨ ∃ i : Fin 16, i.1 = n ∧ (s.key (keyOf p i)).defn = none) :
    keyDownBlock (.panel p) n s = refuseWith .range s := by
  simp only [keyDownBlock, keyAt_eq_none h]

/-- A press of an assigned key that the state table takes to `x` with reply `r`. -/
theorem keyDownBlock_pressed {s : State} {p : Pnl} {i : Fin 16} {f : KeyDef} {x : KeyState} {r : Result}
    (assigned : (s.key (keyOf p i)).defn = some f) (table : pressed s f (s.key (keyOf p i)).state = (x, r)) :
    keyDownBlock (.panel p) i.1 s = (refresh (moveKey (keyOf p i) x s), .now r []) := by
  simp only [keyDownBlock, keyAt_of_assigned assigned, table]

theorem pressed_idle_full {s : State} {f : KeyDef} (full : listFull s f.target = true) :
    pressed s f .idle = (.clearing, .full) := if_pos full

theorem pressed_idle {s : State} {f : KeyDef} (room : ¬listFull s f.target = true) :
    pressed s f .idle = (pressState s f.mode, .ok) := if_neg room

/-- A press takes a key that is neither IDLE nor LATCHED nowhere (R95). -/
theorem pressed_stays {x : KeyState} (h : (∃ n, x = .timing n) ∨ x = .held ∨ x = .clearing) (s : State) (f : KeyDef) :
    pressed s f x = (x, .ok) := by
  rcases h with ⟨n, rfl⟩ | rfl | rfl <;> rfl

/-- Settles O24: the row of the state table the key stands in gives its next state and the reply. -/
theorem keyDownFollowsTheStateTable : Obligations.KeyDownFollowsTheStateTable := by
  unfold Obligations.KeyDownFollowsTheStateTable
  intro s p tag up
  have admitted : Admits s (.panel p) .keyDown := ⟨rfl, fun other => absurd other (by decide), .inl up⟩
  refine ⟨fun n h => answers_of_block rfl admitted (keyDownBlock_range h), ?_⟩
  rintro i f assigned _ _ _ rfl rfl rfl full hFull
  rw [← listFull_iff] at hFull
  rw [hFull]
  have press : ∀ {x r}, pressed s f (s.key (keyOf p i)).state = (x, r) →
      Answers (.keyDown (.panel p) tag i.1) s (refresh (moveKey (keyOf p i) x s)) (.panel p) .keyDown tag r [] :=
    fun table => answers_of_block rfl admitted (keyDownBlock_pressed assigned table)
  refine ⟨fun idle noRoom => ?_, fun idle room => ?_, fun n latched => ?_, fun others => ?_⟩
  · exact press (by rw [idle, pressed_idle_full noRoom])
  · have table : pressed s f (s.key (keyOf p i)).state = (pressState s f.mode, .ok) := by rw [idle, pressed_idle room]
    refine ⟨fun auto => ?_, fun momentary => ?_, fun latch => ?_⟩
    · exact press (by rw [table, auto]; rfl)
    · exact press (by rw [table, momentary]; rfl)
    · exact press (by rw [table, latch]; rfl)
  · exact press (by rw [latched]; rfl)
  · have stays := press (pressed_stays others s f)
    rwa [moveKey_same] at stays

end Sys2Proof.Machine
end

section
/-! SUPPORT. A key that leaves talk: the rule for each operation of the transition, what the transition changes field by
field. -/

namespace Sys2Proof.Machine

/-! ### Who talks to what -/

/-- The target of a talking key. -/
def Key.talkTarget (x : Key) : Option KeyTarget := if x.state.talking then x.defn.map KeyDef.target else none

theorem talkTarget_eq_some {x : Key} {t : KeyTarget} :
    x.talkTarget = some t ↔ x.state.talking = true ∧ ∃ m, x.defn = some ⟨m, t⟩ := by
  obtain ⟨_ | ⟨m, t'⟩, state⟩ := x
  · simp [Key.talkTarget]
  · simp [Key.talkTarget]

theorem talksTo_iff (x : Key) (y : Pty) : x.talksTo y = true ↔ ∃ call, x.talkTarget = some (.party y call) := by
  obtain ⟨_ | ⟨m, y' | d⟩, state⟩ := x
  · simp [Key.talksTo, talkTarget_eq_some]
  · simp [Key.talksTo, talkTarget_eq_some]
  · simp [Key.talksTo, talkTarget_eq_some]

theorem targetsIfb_iff (x : Key) (d : Dst) : x.targetsIfb d = true ↔ ∃ m, x.defn = some ⟨m, .ifb d⟩ := by
  obtain ⟨_ | ⟨m, y' | d'⟩, state⟩ := x
  · simp [Key.targetsIfb]
  · simp [Key.targetsIfb]
  · simp [Key.targetsIfb]

theorem interrupts_iff (x : Key) (d : Dst) :
    (x.targetsIfb d = true ∧ x.state.talking = true) ↔ x.talkTarget = some (.ifb d) := by
  rw [talkTarget_eq_some, targetsIfb_iff, and_comm]

theorem callsChannel_iff (s : State) (k : KeyId) (c : Chn) :
    callsChannel s k c = true ↔ ∃ y, (s.key k).talkTarget = some (.party y true) ∧ s.talk.parties.at y = some c := by
  unfold callsChannel
  generalize s.key k = x
  obtain ⟨_ | ⟨m, ⟨y, _ | _⟩ | d⟩, state⟩ := x
  · simp [talkTarget_eq_some]
  · simp [talkTarget_eq_some]
  · simp [talkTarget_eq_some]
  · simp [talkTarget_eq_some]

/-! ### The operations of a transition (R100 to R102, R114) -/

theorem talk_handCrosspoint (p : Pnl) (y : Pty) (s : State) :
    (handCrosspoint p y s).talk = { s.talk with
      sendList := s.talk.sendList ++ if (p, y) ∈ s.talk.sendList then [] else [(p, y)] } := by
  unfold handCrosspoint
  by_cases h : (p, y) ∈ s.talk.sendList
  · simp [h]
  · simp [h]

theorem talk_holdDown (p : Pnl) (y : Pty) (s : State) :
    (holdDown p y s).talk.keys = s.talk.keys ∧ (holdDown p y s).talk.mics = s.talk.mics ∧
      (holdDown p y s).talk.parties = s.talk.parties ∧ (holdDown p y s).talk.talkWord = s.talk.talkWord := by
  unfold holdDown
  dsimp only
  split
  · rw [talk_handCrosspoint]; exact ⟨rfl, rfl, rfl, rfl⟩
  · exact ⟨rfl, rfl, rfl, rfl⟩

theorem holdCount_holdDown (p q : Pnl) (y z : Pty) (s : State) :
    (holdDown p y s).holdCount q z = s.holdCount q z - if p = q ∧ y = z then 1 else 0 := by
  have down : (holdDown p y s).holdCount q z = (s.setHold p y (s.holdCount p y - 1)).holdCount q z := by
    unfold holdDown
    dsimp only
    split
    · simp only [State.holdCount, talk_handCrosspoint]; rfl
    · rfl
  rw [down, holdCount_setHold]
  split
  next same => rw [same.1, same.2]
  next => rfl

theorem crosspoint_holdDown (p q : Pnl) (y z : Pty) (s : State) :
    (holdDown p y s).crosspoint q z =
      if (p = q ∧ y = z) ∧ s.holdCount q z = 1 then false else s.crosspoint q z := by
  unfold holdDown
  dsimp only
  split
  next one =>
    have opened : (handCrosspoint p y ((s.setHold p y (s.holdCount p y - 1)).setCrosspoint p y false)).crosspoint q z =
        ((s.setHold p y (s.holdCount p y - 1)).setCrosspoint p y false).crosspoint q z := by
      simp only [State.crosspoint, talk_handCrosspoint]
    rw [opened, crosspoint_setCrosspoint, crosspoint_setHold]
    refine if_congr ?_ rfl rfl
    exact ⟨fun same => ⟨same, by rw [← same.1, ← same.2, one]⟩, fun h => h.1⟩
  next more =>
    rw [crosspoint_setHold, if_neg]
    rintro ⟨⟨rfl, rfl⟩, one⟩
    exact more one

theorem sendList_holdDown (p : Pnl) (y : Pty) (s : State) :
    (holdDown p y s).talk.sendList = s.talk.sendList ++
      if s.holdCount p y = 1 ∧ (p, y) ∉ s.talk.sendList then [(p, y)] else [] := by
  unfold holdDown
  dsimp only
  by_cases one : s.holdCount p y = 1
  · by_cases there : (p, y) ∈ s.talk.sendList
    · simp [one, there, talk_handCrosspoint]
    · simp [one, there, talk_handCrosspoint]
  · simp [one]

theorem tally_countCall (y : Pty) (f : Nat → Nat) (s : State) :
    (countCall y f s).tally = { s.tally with channels := (countCall y f s).tally.channels } := by
  unfold countCall
  split
  · rfl
  · rfl

theorem channel_countCall (y : Pty) (f : Nat → Nat) (s : State) (c : Chn) :
    (countCall y f s).channel c =
      if s.talk.parties.at y = some c then { s.channel c with calls := f (s.channel c).calls } else s.channel c := by
  unfold countCall
  split
  next none => simp [none]
  next c' some =>
    rw [channel_setChannel, some]
    simp only [Option.some.injEq]
    split
    next same => rw [same]
    next => rfl

theorem entry_leaveList (k : KeyId) (d e : Dst) (s : State) :
    (leaveList k d s).entry e =
      if d = e then { s.entry e with interrupters := (s.entry e).interrupters.filter (· != k) } else s.entry e := by
  simp only [leaveList, entry_markDirty, entry_setEntry]
  split
  next same => rw [same]
  next => rfl

theorem take_leaveList (k : KeyId) (d : Dst) (s : State) :
    (leaveList k d s).take = { s.take with dirty := s.take.dirty.put d true } := rfl

theorem holdCount_congr {s t : State} (h : t.talk = s.talk) (p : Pnl) (y : Pty) :
    t.holdCount p y = s.holdCount p y := by simp only [State.holdCount, h]

theorem crosspoint_congr {s t : State} (h : t.talk = s.talk) (p : Pnl) (y : Pty) :
    t.crosspoint p y = s.crosspoint p y := by simp only [State.crosspoint, h]

/-! ### One key's transition (R94, R102) -/

theorem enterTalk_kept (k : KeyId) (x : KeyTarget) (s : State) :
    (enterTalk k x s).talk.keys = s.talk.keys ∧
      (enterTalk k x s).tally = { s.tally with channels := (enterTalk k x s).tally.channels } := by
  cases x with
  | ifb d => exact ⟨rfl, rfl⟩
  | party y call =>
    obtain ⟨-, -, -, -, -, tally, -⟩ := holdUp_frame (stationOf k) y s
    have keys : (holdUp (stationOf k) y s).talk.keys = s.talk.keys := by
      unfold holdUp
      dsimp only
      split
      · rw [talk_handCrosspoint]; rfl
      · rfl
    cases call with
    | false =>
      refine ⟨keys, ?_⟩
      show (holdUp (stationOf k) y s).tally = { s.tally with channels := (holdUp (stationOf k) y s).tally.channels }
      rw [tally]
    | true =>
      obtain ⟨-, -, -, -, -, talk, -⟩ := countCall_frame y (· + 1) (holdUp (stationOf k) y s)
      have counted := tally_countCall y (· + 1) (holdUp (stationOf k) y s)
      rw [tally] at counted
      exact ⟨(congrArg TalkEngine.keys talk).trans keys, counted⟩

/-- Leaving a party moves the talk engine as the fall of its hold count does. -/
theorem talk_leaveTalk_party (k : KeyId) (y : Pty) (call : Bool) (s : State) :
    (leaveTalk k (.party y call) s).talk = (holdDown (stationOf k) y s).talk := by
  cases call with
  | false => rfl
  | true => simp [leaveTalk]

theorem channel_leaveTalk_party (k : KeyId) (y : Pty) (call : Bool) (s : State) (c : Chn) :
    (leaveTalk k (.party y call) s).channel c =
      if call = true ∧ s.talk.parties.at y = some c
      then { s.channel c with calls := (s.channel c).calls - 1 } else s.channel c := by
  obtain ⟨-, -, -, -, -, tally, -⟩ := holdDown_frame (stationOf k) y s
  have same : (holdDown (stationOf k) y s).channel c = s.channel c :=
    channel_congr (congrArg TallyUnit.channels tally) c
  cases call with
  | false => simpa [leaveTalk] using same
  | true =>
    obtain ⟨-, -, parties, -⟩ := talk_holdDown (stationOf k) y s
    have counted := channel_countCall y (· - 1) (holdDown (stationOf k) y s) c
    rw [same, parties] at counted
    simpa [leaveTalk] using counted

theorem leaveTalk_kept (k : KeyId) (x : KeyTarget) (s : State) :
    (leaveTalk k x s).talk.keys = s.talk.keys ∧ (leaveTalk k x s).talk.mics = s.talk.mics ∧
      (leaveTalk k x s).talk.parties = s.talk.parties ∧ (leaveTalk k x s).talk.talkWord = s.talk.talkWord ∧
      (leaveTalk k x s).tally = { s.tally with channels := (leaveTalk k x s).tally.channels } := by
  cases x with
  | ifb d => exact ⟨rfl, rfl, rfl, rfl, rfl⟩
  | party y call =>
    obtain ⟨-, -, -, -, -, tally, -⟩ := holdDown_frame (stationOf k) y s
    obtain ⟨keys, mics, parties, word⟩ := talk_holdDown (stationOf k) y s
    rw [talk_leaveTalk_party]
    refine ⟨keys, mics, parties, word, ?_⟩
    cases call with
    | false =>
      show (holdDown (stationOf k) y s).tally = { s.tally with channels := (holdDown (stationOf k) y s).tally.channels }
      rw [tally]
    | true =>
      have counted := tally_countCall y (· - 1) (holdDown (stationOf k) y s)
      rw [tally] at counted
      exact counted

theorem key_moveKey (k j : KeyId) (new : KeyState) (s : State) :
    (moveKey k new s).key j = if k = j then { s.key k with state := new } else s.key j := by
  rw [← key_setKey]
  apply key_congr
  unfold moveKey
  dsimp only
  split
  · rfl
  · split
    · exact (enterTalk_kept _ _ _).1
    · split
      · exact (leaveTalk_kept _ _ _).1
      · rfl

theorem tally_moveKey (k : KeyId) (new : KeyState) (s : State) :
    (moveKey k new s).tally = { s.tally with channels := (moveKey k new s).tally.channels } := by
  unfold moveKey
  dsimp only
  split
  · rfl
  next f _ =>
    split
    · exact (enterTalk_kept _ _ _).2
    · split
      · obtain ⟨-, -, -, -, tally⟩ := leaveTalk_kept k f.target (s.setKey k { s.key k with state := new })
        exact tally
      · rfl

section
variable {k : KeyId} {new : KeyState} {s : State}

/-- A key that talks to nothing goes to a state out of talk with no effect beside it. -/
theorem moveKey_of_silent (off : new.talking = false) (silent : (s.key k).talkTarget = none) :
    moveKey k new s = s.setKey k { s.key k with state := new } := by
  unfold moveKey
  dsimp only
  split
  · rfl
  next f defn =>
    have quiet : (s.key k).state.talking = false := by simpa [Key.talkTarget, defn] using silent
    simp [quiet, off]

/-- A talking key that goes out of talk leaves its target. -/
theorem moveKey_of_talking (off : new.talking = false) {t : KeyTarget} (talks : (s.key k).talkTarget = some t) :
    moveKey k new s = leaveTalk k t (s.setKey k { s.key k with state := new }) := by
  obtain ⟨talking, m, defn⟩ := talkTarget_eq_some.mp talks
  simp [moveKey, defn, talking, off]

theorem talk_moveKey_off (off : new.talking = false) :
    (moveKey k new s).talk.mics = s.talk.mics ∧ (moveKey k new s).talk.parties = s.talk.parties ∧
      (moveKey k new s).talk.talkWord = s.talk.talkWord := by
  cases target : (s.key k).talkTarget with
  | none => rw [moveKey_of_silent off target]; exact ⟨rfl, rfl, rfl⟩
  | some t =>
    obtain ⟨-, mics, parties, word, -⟩ := leaveTalk_kept k t (s.setKey k { s.key k with state := new })
    rw [moveKey_of_talking off target]
    exact ⟨mics, parties, word⟩

theorem holdCount_moveKey_off (off : new.talking = false) (p : Pnl) (y : Pty) :
    (moveKey k new s).holdCount p y =
      s.holdCount p y - if stationOf k = p ∧ (s.key k).talksTo y = true then 1 else 0 := by
  cases target : (s.key k).talkTarget with
  | none => simp [moveKey_of_silent off target, talksTo_iff, target]
  | some t =>
    rw [moveKey_of_talking off target]
    cases t with
    | ifb d => simp [leaveTalk, leaveList, talksTo_iff, target]
    | party z call =>
      have talk := talk_leaveTalk_party k z call (s.setKey k { s.key k with state := new })
      have down := holdCount_holdDown (stationOf k) p z y (s.setKey k { s.key k with state := new })
      rw [holdCount_congr talk, down]
      simp [talksTo_iff, target]

theorem crosspoint_moveKey_off (off : new.talking = false) (p : Pnl) (y : Pty) :
    (moveKey k new s).crosspoint p y =
      if (stationOf k = p ∧ (s.key k).talksTo y = true) ∧ s.holdCount p y = 1 then false else s.crosspoint p y := by
  cases target : (s.key k).talkTarget with
  | none => simp [moveKey_of_silent off target, talksTo_iff, target]
  | some t =>
    rw [moveKey_of_talking off target]
    cases t with
    | ifb d => simp [leaveTalk, leaveList, talksTo_iff, target]
    | party z call =>
      have talk := talk_leaveTalk_party k z call (s.setKey k { s.key k with state := new })
      have down := crosspoint_holdDown (stationOf k) p z y (s.setKey k { s.key k with state := new })
      have party : (s.key k).talksTo y = true ↔ z = y := by simp [talksTo_iff, target]
      rw [crosspoint_congr talk, down]
      exact if_congr (by rw [party]; rfl) rfl rfl

theorem sendList_moveKey_off (off : new.talking = false) : ∃ handed : List (Pnl × Pty),
    (moveKey k new s).talk.sendList = s.talk.sendList ++ handed ∧ handed.Nodup ∧
      ∀ p y, (p, y) ∈ handed ↔
        ((stationOf k = p ∧ (s.key k).talksTo y = true) ∧ s.holdCount p y = 1 ∧ (p, y) ∉ s.talk.sendList) := by
  cases target : (s.key k).talkTarget with
  | none => exact ⟨[], by simp [moveKey_of_silent off target, talksTo_iff, target]⟩
  | some t =>
    rw [moveKey_of_talking off target]
    cases t with
    | ifb d => exact ⟨[], by simp [leaveTalk, talksTo_iff, target]⟩
    | party z call =>
      have down := sendList_holdDown (stationOf k) z (s.setKey k { s.key k with state := new })
      have party : ∀ y, (s.key k).talksTo y = true ↔ z = y := fun y => by simp [talksTo_iff, target]
      rw [talk_leaveTalk_party]
      by_cases opens : s.holdCount (stationOf k) z = 1 ∧ (stationOf k, z) ∉ s.talk.sendList
      · have opened := down.trans (by rw [if_pos (by exact opens)])
        refine ⟨[(stationOf k, z)], opened, List.nodup_singleton _, fun p y => ?_⟩
        rw [List.mem_singleton, Prod.mk.injEq, party]
        constructor
        · rintro ⟨rfl, rfl⟩
          exact ⟨⟨rfl, rfl⟩, opens⟩
        · rintro ⟨⟨rfl, rfl⟩, -⟩
          exact ⟨rfl, rfl⟩
      · refine ⟨[], down.trans (by rw [if_neg (by exact opens)]; rfl), List.nodup_nil, fun p y => ?_⟩
        rw [party]
        refine iff_of_false List.not_mem_nil ?_
        rintro ⟨⟨rfl, rfl⟩, opened⟩
        exact opens opened

theorem entry_moveKey_off (off : new.talking = false) (d : Dst) :
    (moveKey k new s).entry d =
      if (s.key k).talkTarget = some (.ifb d)
      then { s.entry d with interrupters := (s.entry d).interrupters.filter (· != k) } else s.entry d := by
  cases target : (s.key k).talkTarget with
  | none => simp [moveKey_of_silent off target]
  | some t =>
    rw [moveKey_of_talking off target]
    cases t with
    | ifb e => simp [leaveTalk, entry_leaveList]
    | party z call => simp [leaveTalk, State.entry, apply_ite]

theorem take_moveKey_off (off : new.talking = false) :
    (moveKey k new s).take = { s.take with dirty := (moveKey k new s).take.dirty } ∧
      ∀ d, (moveKey k new s).take.dirty.at d = true ↔
        (s.take.dirty.at d = true ∨ (s.key k).talkTarget = some (.ifb d)) := by
  cases target : (s.key k).talkTarget with
  | none => simp [moveKey_of_silent off target]
  | some t =>
    rw [moveKey_of_talking off target]
    cases t with
    | party z call => simp [leaveTalk, apply_ite]
    | ifb e =>
      refine ⟨rfl, fun d => ?_⟩
      by_cases same : e = d
      · simp [leaveTalk, take_leaveList, same]
      · simp [leaveTalk, take_leaveList, same]

theorem channel_moveKey_off (off : new.talking = false) (c : Chn) :
    (moveKey k new s).channel c =
      { s.channel c with calls := (s.channel c).calls - if callsChannel s k c = true then 1 else 0 } := by
  cases target : (s.key k).talkTarget with
  | none => simp [moveKey_of_silent off target, callsChannel_iff, target]
  | some t =>
    rw [moveKey_of_talking off target]
    cases t with
    | ifb d => simp [leaveTalk, State.channel, callsChannel_iff, target]
    | party y call =>
      have left := channel_leaveTalk_party k y call (s.setKey k { s.key k with state := new }) c
      have calls : callsChannel s k c = true ↔ call = true ∧ s.talk.parties.at y = some c := by
        cases call <;> simp [callsChannel_iff, target]
      rw [left]
      by_cases counted : call = true ∧ s.talk.parties.at y = some c
      · rw [if_pos (by exact counted), if_pos (calls.mpr counted)]; rfl
      · rw [if_neg (by exact counted), if_neg (mt calls.mp counted)]; rfl

end

end Sys2Proof.Machine
end

section
/-! SUPPORT. Keys going out of talk one after another: the relation between a state and one in which some of its talking
keys have stopped, with the hold counts, crosspoints, interrupter lists and call counts that end with them. -/

namespace Sys2Proof.Machine

/-! ### Counting keys -/

theorem nodup_fins (n : Nat) : (fins n).Nodup := List.nodup_ofFn.mpr Function.injective_id

theorem keyOf_injective (p : Pnl) : Function.Injective (keyOf p) := by
  intro i j h
  simp only [keyOf, Fin.mk.injEq] at h
  exact Fin.ext (by omega)

theorem nodup_stationKeys (p : Pnl) : (stationKeys p).Nodup := (nodup_fins 16).map (keyOf_injective p)

/-- One member fewer passes a test that fails for `k` and is unchanged for the others. -/
theorem length_filter_of_off {α : Type} [DecidableEq α] {l : List α} (nodup : l.Nodup) {f g : α → Bool} {k : α}
    (same : ∀ j, j ≠ k → g j = f j) (off : g k = false) :
    (l.filter g).length = (l.filter f).length - if k ∈ l ∧ f k = true then 1 else 0 := by
  have erased : l.filter g = (l.filter f).erase k := by
    rw [(nodup.filter f).erase_eq_filter, List.filter_filter]
    refine List.filter_congr fun j _ => ?_
    by_cases h : j = k
    · subst h; simp [off]
    · simp [h, same j h]
  rw [erased, List.length_erase]
  simp only [List.mem_filter]
  split
  · rfl
  · rfl

/-! ### Several keys' transitions -/

theorem defn_moveKey (k j : KeyId) (new : KeyState) (s : State) : ((moveKey k new s).key j).defn = (s.key j).defn := by
  rw [key_moveKey]
  split
  next same => rw [same]
  next => rfl

/-- What each transition keeps, several keep. -/
theorem moveKeys_induction {P : State → Prop} {f : KeyState → KeyState}
    (step : ∀ t k, P t → P (moveKey k (f (t.key k).state) t)) (ks : List KeyId) {s : State} (start : P s) :
    P (moveKeys ks f s) := by
  unfold moveKeys
  induction ks generalizing s with
  | nil => exact start
  | cons k ks ih => exact ih (step s k start)

theorem key_moveKeys {ks : List KeyId} (nodup : ks.Nodup) (f : KeyState → KeyState) (s : State) (j : KeyId) :
    (moveKeys ks f s).key j = if j ∈ ks then { s.key j with state := f (s.key j).state } else s.key j := by
  induction ks generalizing s with
  | nil => rfl
  | cons k ks ih =>
    obtain ⟨fresh, nodup⟩ := List.nodup_cons.mp nodup
    refine (ih nodup (moveKey k (f (s.key k).state) s)).trans ?_
    rw [key_moveKey]
    by_cases first : k = j
    · subst first; simp [fresh]
    · simp [first, Ne.symm first]

theorem tally_moveKeys (ks : List KeyId) (f : KeyState → KeyState) (s : State) :
    (moveKeys ks f s).tally = { s.tally with channels := (moveKeys ks f s).tally.channels } := by
  refine moveKeys_induction (P := fun t => t.tally = { s.tally with channels := t.tally.channels }) ?_ ks rfl
  intro t k kept
  rw [tally_moveKey, kept]

/-! ### The talk records in step with the keys (R74, R100, R111) -/

/-- The hold counts, crosspoints and interrupter lists are those of the talking keys. -/
structure TalkExact (s : State) : Prop where
  holds : HoldCountsExact s
  lists : InterruptersExact s

section
variable {k : KeyId} {new : KeyState} {s : State}

theorem talkTarget_moveKey_off (off : new.talking = false) (j : KeyId) :
    ((moveKey k new s).key j).talkTarget = if k = j then none else (s.key j).talkTarget := by
  rw [key_moveKey]
  split
  · simp [Key.talkTarget, off]
  · rfl

theorem talksTo_moveKey_off (off : new.talking = false) (j : KeyId) (y : Pty) :
    ((moveKey k new s).key j).talksTo y = (!decide (k = j) && (s.key j).talksTo y) := by
  rw [Bool.eq_iff_iff, Bool.and_eq_true, talksTo_iff, talksTo_iff, talkTarget_moveKey_off off]
  by_cases same : k = j <;> simp [same]

theorem callsChannel_moveKey_off (off : new.talking = false) (j : KeyId) (c : Chn) :
    callsChannel (moveKey k new s) j c = (!decide (k = j) && callsChannel s j c) := by
  obtain ⟨-, parties, -⟩ := talk_moveKey_off (k := k) (s := s) off
  rw [Bool.eq_iff_iff, Bool.and_eq_true, callsChannel_iff, callsChannel_iff, talkTarget_moveKey_off off, parties]
  by_cases same : k = j <;> simp [same]

theorem holdCountsExact_moveKey_off (off : new.talking = false) (counts : HoldCountsExact s) :
    HoldCountsExact (moveKey k new s) := by
  intro p y
  obtain ⟨count, closed⟩ := counts p y
  have fewer := length_filter_of_off (nodup_stationKeys p) (k := k) (f := fun j => (s.key j).talksTo y)
    (g := fun j => ((moveKey k new s).key j).talksTo y)
    (fun j other => by simp [talksTo_moveKey_off off, Ne.symm other]) (by simp [talksTo_moveKey_off off])
  simp only [mem_stationKeys] at fewer
  rw [fewer, holdCount_moveKey_off off, crosspoint_moveKey_off off, ← count]
  refine ⟨rfl, ?_⟩
  by_cases leaves : stationOf k = p ∧ (s.key k).talksTo y = true
  · by_cases last : s.holdCount p y = 1
    · simp [leaves, last]
    · rw [if_neg (fun h => last h.2), if_pos leaves, closed]
      omega
  · rw [if_neg (fun h => leaves h.1), if_neg leaves, closed]
    rfl

theorem interruptersExact_moveKey_off (off : new.talking = false) (counts : InterruptersExact s) :
    InterruptersExact (moveKey k new s) := by
  intro d
  obtain ⟨nodup, members⟩ := counts d
  simp only [interrupts_iff] at members ⊢
  simp only [talkTarget_moveKey_off off, entry_moveKey_off off]
  by_cases leaves : (s.key k).talkTarget = some (.ifb d)
  · rw [if_pos leaves]
    refine ⟨nodup.filter _, fun j => ?_⟩
    by_cases same : k = j
    · simp [same]
    · simp [same, Ne.symm same, members]
  · rw [if_neg leaves]
    refine ⟨nodup, fun j => ?_⟩
    by_cases same : k = j
    · subst same; simp [members, leaves]
    · simp [same, members]

theorem TalkExact.moveKey_off (counts : TalkExact s) (off : new.talking = false) : TalkExact (moveKey k new s) :=
  ⟨holdCountsExact_moveKey_off off counts.holds, interruptersExact_moveKey_off off counts.lists⟩

end

/-- The keys that talk as call keys of a party with the call channel `c` (R74). -/
def callers (s : State) (c : Chn) : Nat := ((fins 128).filter fun k => callsChannel s k c).length

theorem callers_moveKey_off {k : KeyId} {new : KeyState} (off : new.talking = false) (s : State) (c : Chn) :
    callers (moveKey k new s) c = callers s c - if callsChannel s k c = true then 1 else 0 := by
  have fewer := length_filter_of_off (nodup_fins 128) (k := k) (f := fun j => callsChannel s j c)
    (g := fun j => callsChannel (moveKey k new s) j c)
    (fun j other => by simp [callsChannel_moveKey_off off, Ne.symm other]) (by simp [callsChannel_moveKey_off off])
  simp only [mem_fins, true_and] at fewer
  exact fewer

theorem callers_pos {s : State} {k : KeyId} {c : Chn} (h : callsChannel s k c = true) : 0 < callers s c :=
  List.length_pos_of_mem (List.mem_filter.mpr ⟨mem_fins k, h⟩)

/-! ### Crosspoints that open (R100, R101) -/

/-- From `s` to `t` crosspoints have opened and none has closed, and each that has opened and did not wait in the send
list has joined it at its end, once. -/
structure CrosspointsOpened (s t : State) : Prop where
  opens : ∀ p y, t.crosspoint p y = true → s.crosspoint p y = true
  handed : ∃ handed : List (Pnl × Pty), t.talk.sendList = s.talk.sendList ++ handed ∧ handed.Nodup ∧
    ∀ p y, (p, y) ∈ handed ↔
      (s.crosspoint p y = true ∧ t.crosspoint p y = false ∧ (p, y) ∉ s.talk.sendList)

theorem CrosspointsOpened.of_talk {s t : State} (h : t.talk = s.talk) : CrosspointsOpened s t where
  opens p y closed := by rwa [crosspoint_congr h] at closed
  handed := ⟨[], by simp [h], List.nodup_nil, fun p y => by simp +contextual [crosspoint_congr h]⟩

theorem CrosspointsOpened.trans {s t u : State} (st : CrosspointsOpened s t) (tu : CrosspointsOpened t u) :
    CrosspointsOpened s u where
  opens p y closed := st.opens p y (tu.opens p y closed)
  handed := by
    obtain ⟨first, firstList, firstNodup, firstMem⟩ := st.handed
    obtain ⟨second, secondList, secondNodup, secondMem⟩ := tu.handed
    rw [firstList] at secondList secondMem
    refine ⟨first ++ second, by rw [secondList, List.append_assoc], ?_, fun p y => ?_⟩
    · refine firstNodup.append secondNodup fun ⟨p, y⟩ inFirst inSecond => ?_
      obtain ⟨-, -, absent⟩ := (secondMem p y).mp inSecond
      exact absent (List.mem_append_right _ inFirst)
    · rw [List.mem_append, firstMem, secondMem, List.mem_append, firstMem]
      by_cases closed : t.crosspoint p y = true
      · simp [closed, st.opens p y closed]
      · simp [closed, mt (tu.opens p y) closed]

theorem crosspointsOpened_moveKey_off {k : KeyId} {new : KeyState} {s : State} (off : new.talking = false)
    (counts : HoldCountsExact s) : CrosspointsOpened s (moveKey k new s) where
  opens p y closed := by
    rw [crosspoint_moveKey_off off] at closed
    split at closed
    · cases closed
    · exact closed
  handed := by
    obtain ⟨handed, list, nodup, members⟩ := sendList_moveKey_off (k := k) (s := s) off
    refine ⟨handed, list, nodup, fun p y => (members p y).trans ?_⟩
    rw [crosspoint_moveKey_off off, ← and_assoc, ← and_assoc]
    refine and_congr_left fun _ => ?_
    by_cases leaves : (stationOf k = p ∧ (s.key k).talksTo y = true) ∧ s.holdCount p y = 1
    · have closed : s.crosspoint p y = true := (counts p y).2.mpr (by omega)
      simp [leaves, closed]
    · simp [leaves]

/-! ### Keys that stop talking -/

/-- A line without the value it drives. -/
def Line.undriven : Line → Line
  | .input sample => .input sample
  | .output mode latch _ => .output mode latch false

/-- From `s` to `t` keys have gone out of talk and none has gone into it, and the records are those of the keys that still
talk; beside these, lamps, driven lines and the freshness of the switcher record may differ. -/
structure TalkEnds (s t : State) : Prop where
  counts : TalkExact t
  defn : ∀ k, (t.key k).defn = (s.key k).defn
  talking : ∀ k, (t.key k).state.talking = true → (s.key k).state.talking = true
  opened : CrosspointsOpened s t
  mics : t.talk.mics = s.talk.mics
  parties : t.talk.parties = s.talk.parties
  word : t.talk.talkWord = s.talk.talkWord
  entry : ∀ d, t.entry d = { s.entry d with interrupters := (t.entry d).interrupters }
  take : t.take = { s.take with dirty := t.take.dirty }
  dirty : ∀ d, t.take.dirty.at d = true ↔ s.take.dirty.at d = true ∨
    ∃ k, (s.key k).talkTarget = some (.ifb d) ∧ (t.key k).state.talking = false
  mapped : ∀ c, (t.channel c).mapped = (s.channel c).mapped
  fewer : ∀ c, callers t c ≤ callers s c
  calls : ∀ c, (t.channel c).calls = (s.channel c).calls - (callers s c - callers t c)
  tally : t.tally = { s.tally with channels := t.tally.channels, fresh := t.tally.fresh }
  pins : t.lines.pins = s.lines.pins
  lines : ∀ l, (t.line l).undriven = (s.line l).undriven

theorem undriven_drivenLine (s : State) (l : Lid) : (drivenLine s l).undriven = (s.line l).undriven := by
  unfold drivenLine
  split
  next h => rw [h]
  next h => rw [h]; rfl

theorem callers_congr {s t : State} (h : t.talk = s.talk) (c : Chn) : callers t c = callers s c := by
  simp only [callers, callsChannel, State.key, h]

theorem TalkExact.congr {s t : State} (counts : TalkExact s) (talk : t.talk = s.talk) (routes : t.routes = s.routes) :
    TalkExact t where
  holds p y := by
    simpa only [holdCount_congr talk, crosspoint_congr talk, key_congr (congrArg TalkEngine.keys talk)]
      using counts.holds p y
  lists d := by
    simpa only [entry_congr routes, key_congr (congrArg TalkEngine.keys talk)] using counts.lists d

/-- No key has moved. -/
theorem TalkEnds.of_same {s t : State} (counts : TalkExact s) (talk : t.talk = s.talk) (routes : t.routes = s.routes)
    (take : t.take = s.take)
    (channels : ∀ c, (t.channel c).mapped = (s.channel c).mapped ∧ (t.channel c).calls = (s.channel c).calls)
    (tally : t.tally = { s.tally with channels := t.tally.channels, fresh := t.tally.fresh })
    (pins : t.lines.pins = s.lines.pins) (lines : ∀ l, (t.line l).undriven = (s.line l).undriven) : TalkEnds s t := by
  have key : ∀ k, t.key k = s.key k := key_congr (congrArg TalkEngine.keys talk)
  have entry : ∀ d, t.entry d = s.entry d := entry_congr routes
  exact
    { counts := counts.congr talk routes
      defn := fun k => by rw [key]
      talking := fun k talking => by rwa [key] at talking
      opened := .of_talk talk
      mics := by rw [talk]
      parties := by rw [talk]
      word := by rw [talk]
      entry := fun d => by rw [entry]
      take := by rw [take]
      dirty := fun d => by
        rw [take]
        refine ⟨.inl, ?_⟩
        rintro (dirty | ⟨k, target, stopped⟩)
        · exact dirty
        · rw [key, (talkTarget_eq_some.mp target).1] at stopped
          cases stopped
      mapped := fun c => (channels c).1
      fewer := fun c => (callers_congr talk c).le
      calls := fun c => by rw [(channels c).2, callers_congr talk, Nat.sub_self, Nat.sub_zero]
      tally := tally
      pins := pins
      lines := lines }

theorem TalkEnds.refl {s : State} (counts : TalkExact s) : TalkEnds s s :=
  .of_same counts rfl rfl rfl (fun _ => ⟨rfl, rfl⟩) rfl rfl fun _ => rfl

/-- Lamps and driven lines follow what has been done elsewhere, and no key has moved. -/
theorem TalkEnds.refresh_of_same {s t : State} (counts : TalkExact s) (talk : t.talk = s.talk)
    (routes : t.routes = s.routes) (take : t.take = s.take) (lines : t.lines = s.lines)
    (tally : t.tally = { s.tally with fresh := t.tally.fresh }) : TalkEnds s (refresh t) := by
  have channel : ∀ c, (refresh t).channel c = lit t (s.channel c) := fun c =>
    (channel_recompute t c).trans (congrArg (lit t) (channel_congr (by rw [tally]) c))
  have line : ∀ l, (refresh t).line l = drivenLine (recompute t) l := fun l => Tab.at_tabOf _ l
  refine .of_same counts talk routes take (fun c => ?_) ?_ ?_ fun l => ?_
  · rw [channel, lit_mapped, lit_calls]
    exact ⟨rfl, rfl⟩
  · show ({ t.tally with channels := _ } : TallyUnit) = _
    rw [tally]
    rfl
  · show t.lines.pins = s.lines.pins
    rw [lines]
  · rw [line, undriven_drivenLine]
    exact congrArg Line.undriven (line_congr (congrArg LineUnit.recs lines) l)

theorem TalkEnds.refresh {s : State} (counts : TalkExact s) : TalkEnds s (refresh s) :=
  .refresh_of_same counts rfl rfl rfl rfl rfl

theorem TalkEnds.talkTarget {s t : State} (h : TalkEnds s t) (k : KeyId) :
    (t.key k).talkTarget = if (t.key k).state.talking then (s.key k).talkTarget else none := by
  unfold Key.talkTarget
  rw [h.defn]
  split
  next talking => rw [if_pos (h.talking k talking)]
  next => rfl

theorem TalkEnds.trans {s t u : State} (st : TalkEnds s t) (tu : TalkEnds t u) : TalkEnds s u where
  counts := tu.counts
  defn k := (tu.defn k).trans (st.defn k)
  talking k talking := st.talking k (tu.talking k talking)
  opened := st.opened.trans tu.opened
  mics := tu.mics.trans st.mics
  parties := tu.parties.trans st.parties
  word := tu.word.trans st.word
  entry d := by rw [tu.entry d, st.entry d]
  take := by rw [tu.take, st.take]
  dirty d := by
    rw [tu.dirty, st.dirty, or_assoc, ← exists_or]
    refine or_congr_right (exists_congr fun k => ?_)
    rw [st.talkTarget]
    cases still : (t.key k).state.talking with
    | true => simp
    | false => simp [Bool.eq_false_iff.mpr (mt (tu.talking k) (Bool.eq_false_iff.mp still))]
  mapped c := (tu.mapped c).trans (st.mapped c)
  fewer c := (tu.fewer c).trans (st.fewer c)
  calls c := by
    have first := st.fewer c
    have second := tu.fewer c
    rw [tu.calls, st.calls]
    omega
  tally := by rw [tu.tally, st.tally]
  pins := tu.pins.trans st.pins
  lines l := (tu.lines l).trans (st.lines l)

/-- One key goes to a state out of talk. -/
theorem TalkEnds.moveKey_off {s : State} (counts : TalkExact s) (k : KeyId) {new : KeyState}
    (off : new.talking = false) : TalkEnds s (moveKey k new s) := by
  obtain ⟨mics, parties, word⟩ := talk_moveKey_off (k := k) (s := s) off
  obtain ⟨take, dirty⟩ := take_moveKey_off (k := k) (s := s) off
  obtain ⟨-, -, -, -, lines, -⟩ := moveKey_frame k new s
  have talking : ∀ j, ((moveKey k new s).key j).state.talking = (!decide (k = j) && (s.key j).state.talking) := by
    intro j
    rw [key_moveKey]
    by_cases same : k = j <;> simp [same, off]
  exact
    { counts := counts.moveKey_off off
      defn := fun j => defn_moveKey k j new s
      talking := fun j => by simp +contextual [talking]
      opened := crosspointsOpened_moveKey_off off counts.holds
      mics := mics
      parties := parties
      word := word
      entry := fun d => by rw [entry_moveKey_off off]; split <;> rfl
      take := take
      dirty := fun d => by
        rw [dirty]
        refine or_congr_right ⟨fun target => ⟨k, target, by simp [talking]⟩, ?_⟩
        rintro ⟨j, target, stopped⟩
        have same : k = j := by simpa [talking, (talkTarget_eq_some.mp target).1] using stopped
        rwa [same]
      mapped := fun c => by rw [channel_moveKey_off off]
      fewer := fun c => by rw [callers_moveKey_off off]; exact Nat.sub_le _ _
      calls := fun c => by
        rw [channel_moveKey_off off, callers_moveKey_off off]
        split
        next calling =>
          have := callers_pos calling
          show _ - 1 = _
          omega
        next => simp
      tally := by rw [tally_moveKey]
      pins := by rw [lines]
      lines := fun l => by rw [line_congr (congrArg LineUnit.recs lines)] }

/-- Several keys, each to a state out of talk. -/
theorem TalkEnds.moveKeys_off {f : KeyState → KeyState} {s : State}
    (off : ∀ t, TalkEnds s t → ∀ k, (f (t.key k).state).talking = false) (counts : TalkExact s) (ks : List KeyId) :
    TalkEnds s (moveKeys ks f s) :=
  moveKeys_induction (fun t k before => before.trans (.moveKey_off before.counts k (off t before k))) ks (.refl counts)

end Sys2Proof.Machine
end

section
/-! SUPPORT. ALL TALK OFF: what entry into QUIESCED does to a link, its keys and the control link, the quiesces that end
once no key talks, and from that the obligation O28. -/

namespace Sys2Proof.Machine

/-! ### Entry into QUIESCED (R163, R164) -/

/-- A link that has entered QUIESCED. -/
def Link.quiesced (l : Link) : Link :=
  { l with
    state := .quiesced, supervision := none, changes := [], subs := .none, hold := none, quiesceOwed := none }

theorem links_enterQuiesced (p : Pnl) (s : State) : (enterQuiesced p s).links = s.links.put p (s.link p).quiesced := by
  simp [enterQuiesced, Link.quiesced, State.link]

theorem link_enterQuiesced (p q : Pnl) (s : State) :
    (enterQuiesced p s).link q = if p = q then (s.link q).quiesced else s.link q := by
  simp only [State.link, links_enterQuiesced, Tab.at_put]
  split
  next same => rw [same]
  next => rfl

theorem key_enterQuiesced (p : Pnl) (k : KeyId) (s : State) : (enterQuiesced p s).key k =
    if stationOf k = p then { s.key k with state := clearingOff (s.key k).state } else s.key k := by
  have moved : (enterQuiesced p s).key k = (moveKeys (stationKeys p) clearingOff s).key k :=
    key_congr (by simp [enterQuiesced]) k
  rw [moved, key_moveKeys (nodup_stationKeys p)]
  exact if_congr mem_stationKeys rfl rfl

/-- The response owed to a QUIESCE LINK, placed as its link enters QUIESCED. -/
theorem ctl_payQuiesce (owed : Option Byte) (s : State) :
    (payQuiesce owed .quiesced s).ctl = { s.ctl with
      response := owed.elim s.ctl.response fun tag => some [0xBD, tag, 0, 3] } := by
  cases owed <;> rfl

theorem ctl_switcherLost (p : Pnl) (s : State) :
    (switcherLost p s).ctl = { s.ctl with
      attention := if s.tally.switcher = some p then s.ctl.attention.put 6 true else s.ctl.attention } := by
  unfold switcherLost
  split
  · rfl
  · rfl

theorem tally_switcherLost (p : Pnl) (s : State) :
    (switcherLost p s).tally = { s.tally with
      fresh := if s.tally.switcher = some p then false else s.tally.fresh } := by
  unfold switcherLost
  split
  · rfl
  · rfl

theorem ctl_enterQuiesced (p : Pnl) (s : State) : (enterQuiesced p s).ctl = { s.ctl with
    response := (s.link p).quiesceOwed.elim s.ctl.response fun tag => some [0xBD, tag, 0, 3]
    attention := if s.tally.switcher = some p then s.ctl.attention.put 6 true else s.ctl.attention } := by
  have tally := tally_moveKeys (stationKeys p) clearingOff s
  obtain ⟨-, -, -, -, -, links, -⟩ := moveKeys_frame (stationKeys p) clearingOff s
  have switcher : (moveKeys (stationKeys p) clearingOff s).tally.switcher = s.tally.switcher := by rw [tally]
  simp [enterQuiesced, ctl_switcherLost, ctl_payQuiesce, switcher, link_congr links]

theorem tally_enterQuiesced (p : Pnl) (s : State) :
    (enterQuiesced p s).tally.switcher = s.tally.switcher ∧
      (enterQuiesced p s).tally.fresh = if s.tally.switcher = some p then false else s.tally.fresh := by
  have tally := tally_moveKeys (stationKeys p) clearingOff s
  have switcher : (moveKeys (stationKeys p) clearingOff s).tally.switcher = s.tally.switcher := by rw [tally]
  have fresh : (moveKeys (stationKeys p) clearingOff s).tally.fresh = s.tally.fresh := by rw [tally]
  simp [enterQuiesced, refresh, recompute, tally_switcherLost, switcher, fresh]

/-! ### No key talks -/

/-- No key of any station is in a talk state. -/
def NoneTalks (s : State) : Prop := ∀ k, (s.key k).state.talking = false

theorem TalkEnds.noneTalks {s t : State} (h : TalkEnds s t) (silent : NoneTalks s) : NoneTalks t := fun k =>
  Bool.eq_false_iff.mpr (mt (h.talking k) (Bool.eq_false_iff.mp (silent k)))

theorem NoneTalks.talkTarget {s : State} (silent : NoneTalks s) (k : KeyId) : (s.key k).talkTarget = none := by
  simp [Key.talkTarget, silent k]

theorem talkOff_silent (x : KeyState) : (talkOff x).talking = false := by cases x <;> rfl

theorem talkOff_of_quiet {x : KeyState} (h : x.isLatched = true ∨ x = .idle) : talkOff x = .idle := by
  cases x with
  | latched n => rfl
  | idle => rfl
  | _ => simp [KeyState.isLatched] at h

theorem talkOff_of_pressed {x : KeyState} (h : x.isTiming = true ∨ x = .held ∨ x = .clearing) :
    talkOff x = .clearing := by
  cases x with
  | timing n => rfl
  | held => rfl
  | clearing => rfl
  | _ => simp [KeyState.isTiming] at h

theorem clearingOff_silent {x : KeyState} (silent : x.talking = false) : (clearingOff x).talking = false := by
  cases x with
  | clearing => rfl
  | idle => rfl
  | timing n => exact silent
  | held => exact silent
  | latched n => exact silent

/-- With no key talking, a quiesce ends when the link has no store operation of its own (R163). -/
theorem quiesceDone_iff {s : State} (silent : NoneTalks s) (p : Pnl) : quiesceDone s p = true ↔
    ((s.link p).state = .quiescing ∧ (∀ op ∈ s.store.queue, op.orig ≠ .panel p) ∧
      s.store.engine.owner ≠ some (.panel p)) := by
  have quiet : stationTalks s p = false := by
    simpa only [stationTalks, List.any_eq_false, Bool.not_eq_true] using fun k _ => silent k
  simp [quiesceDone, ownsStoreOp, quiet]

theorem TalkEnds.enterQuiesced {s : State} (counts : TalkExact s) (silent : NoneTalks s) (p : Pnl) :
    TalkEnds s (enterQuiesced p s) := by
  have moved : TalkEnds s (moveKeys (stationKeys p) clearingOff s) :=
    .moveKeys_off (fun t ends k => clearingOff_silent (ends.noneTalks silent k)) counts _
  refine moved.trans (.refresh_of_same moved.counts (by simp) (by simp) (by simp) (by simp) ?_)
  rw [tally_switcherLost]
  simp

theorem TalkEnds.testQuiesced {s : State} (counts : TalkExact s) (silent : NoneTalks s) (p : Pnl) :
    TalkEnds s (testQuiesced p s) := by
  unfold Machine.testQuiesced
  split
  · exact .enterQuiesced counts silent p
  · exact .refl counts

/-- Testing the quiesces of several links. -/
theorem TalkEnds.foldl_testQuiesced {s : State} (counts : TalkExact s) (silent : NoneTalks s) (ps : List Pnl) :
    TalkEnds s (ps.foldl (fun t p => Machine.testQuiesced p t) s) := by
  induction ps generalizing s with
  | nil => exact .refl counts
  | cons p ps ih =>
    have first := TalkEnds.testQuiesced counts silent p
    exact first.trans (ih first.counts (first.noneTalks silent))

section
variable {s t : State} (h : TalkEnds s t) (silent : NoneTalks t)
include h silent

theorem TalkEnds.holdCount_of_silent (p : Pnl) (y : Pty) : t.holdCount p y = 0 ∧ t.crosspoint p y = false := by
  obtain ⟨count, closed⟩ := h.counts.holds p y
  have none : t.holdCount p y = 0 := by
    rw [count, List.length_eq_zero_iff, List.filter_eq_nil_iff]
    intro k _
    simp [talksTo_iff, silent.talkTarget]
  exact ⟨none, by simpa [none] using closed⟩

theorem TalkEnds.handed_of_silent : ∃ handed, t.talk.sendList = s.talk.sendList ++ handed ∧ handed.Nodup ∧
    ∀ p y, (p, y) ∈ handed ↔ (s.crosspoint p y = true ∧ (p, y) ∉ s.talk.sendList) := by
  obtain ⟨handed, list, nodup, members⟩ := h.opened.handed
  refine ⟨handed, list, nodup, fun p y => (members p y).trans ?_⟩
  simp [(h.holdCount_of_silent silent p y).2]

theorem TalkEnds.entry_of_silent (d : Dst) : t.entry d = { s.entry d with interrupters := [] } := by
  have empty : (t.entry d).interrupters = [] := by
    refine List.eq_nil_iff_forall_not_mem.mpr fun k listed => ?_
    have talks := (((h.counts.lists d).2 k).mp listed).2
    rw [silent k] at talks
    cases talks
  rw [h.entry d, empty]

theorem TalkEnds.dirty_of_silent (counts : InterruptersExact s) (d : Dst) :
    t.take.dirty.at d = true ↔ (s.take.dirty.at d = true ∨ (s.entry d).interrupters ≠ []) := by
  rw [h.dirty]
  refine or_congr_right ?_
  rw [ne_eq, List.eq_nil_iff_forall_not_mem, not_forall_not]
  refine exists_congr fun k => ?_
  rw [(counts d).2 k, interrupts_iff]
  exact and_iff_left (silent k)

theorem TalkEnds.calls_of_silent (c : Chn) : (t.channel c).calls = (s.channel c).calls - callers s c := by
  have none : callers t c = 0 := by
    rw [callers, List.length_eq_zero_iff, List.filter_eq_nil_iff]
    intro k _
    simp [callsChannel_iff, silent.talkTarget]
  rw [h.calls, none, Nat.sub_zero]

end

theorem Line.input_of_undriven {x y : Line} (h : y.undriven = x.undriven) {sample : Bool} (hx : x = .input sample) :
    y = .input sample := by
  subst hx
  cases y with
  | input b => exact h
  | output m latch on => cases h

theorem Line.output_of_undriven {x y : Line} (h : y.undriven = x.undriven) {mode : OutMode} {latch on : Bool}
    (hx : x = .output mode latch on) : ∃ on', y = .output mode latch on' := by
  subst hx
  cases y with
  | input b => cases h
  | output m l on' => cases h; exact ⟨on', rfl⟩

/-! ### The quiesces that end -/

/-- `t` is `w`, in which no key talks, with the links in `closed` entered into QUIESCED: their keys in CLEARING are IDLE, a
response owed to a QUIESCE LINK is placed, and the switcher record is STALE if its link is among them (R163, R164, R77). -/
structure LinksClosed (w t : State) (closed : Pnl → Prop) : Prop where
  link : ∀ q, (closed q → t.link q = (w.link q).quiesced) ∧ (¬closed q → t.link q = w.link q)
  key : ∀ k, (closed (stationOf k) → (t.key k).state = clearingOff (w.key k).state) ∧
    (¬closed (stationOf k) → (t.key k).state = (w.key k).state)
  response : (t.ctl.response = w.ctl.response ∧ ∀ q, closed q → (w.link q).quiesceOwed = none) ∨
    ∃ q tag, closed q ∧ (w.link q).quiesceOwed = some tag ∧ t.ctl.response = some [0xBD, tag, 0, 3]
  switcher : t.tally.switcher = w.tally.switcher
  stale : ∀ q, w.tally.switcher = some q → closed q →
    t.tally.fresh = false ∧ t.ctl.attention = w.ctl.attention.put 6 true
  fresh : (∀ q, w.tally.switcher = some q → ¬closed q) →
    t.tally.fresh = w.tally.fresh ∧ t.ctl.attention = w.ctl.attention
  ctl : t.ctl = { w.ctl with response := t.ctl.response, attention := t.ctl.attention }
  store : t.store = w.store

theorem LinksClosed.refl (w : State) : LinksClosed w w fun _ => False where
  link _ := ⟨False.elim, fun _ => rfl⟩
  key _ := ⟨False.elim, fun _ => rfl⟩
  response := .inl ⟨rfl, fun _ => False.elim⟩
  switcher := rfl
  stale _ _ := False.elim
  fresh _ := ⟨rfl, rfl⟩
  ctl := rfl
  store := rfl

section
variable {w t : State} {closed : Pnl → Prop} (h : LinksClosed w t closed)
include h

theorem LinksClosed.noneTalks (silent : NoneTalks w) : NoneTalks t := by
  intro k
  by_cases ended : closed (stationOf k)
  · rw [(h.key k).1 ended]
    exact clearingOff_silent (silent k)
  · rw [(h.key k).2 ended]
    exact silent k

/-- A link that has entered QUIESCED has no quiesce left to end; the others stand as they did. -/
theorem LinksClosed.quiesceDone_iff (silent : NoneTalks w) (p : Pnl) :
    quiesceDone t p = true ↔ ¬closed p ∧ quiesceDone w p = true := by
  rw [Machine.quiesceDone_iff (h.noneTalks silent), Machine.quiesceDone_iff silent, h.store]
  by_cases ended : closed p
  · simp [(h.link p).1 ended, Link.quiesced, ended]
  · simp [(h.link p).2 ended, ended]

/-- One more link enters QUIESCED. -/
theorem LinksClosed.enter {p : Pnl} (running : ¬closed p) :
    LinksClosed w (enterQuiesced p t) fun q => closed q ∨ q = p := by
  obtain ⟨switcher, fresh⟩ := tally_enterQuiesced p t
  have ctl := ctl_enterQuiesced p t
  have response := congrArg ControlLink.response ctl
  have attention := congrArg ControlLink.attention ctl
  obtain ⟨-, -, -, -, store, -⟩ := enterQuiesced_frame p t
  dsimp only at response attention
  rw [(h.link p).2 running] at response
  rw [h.switcher] at switcher fresh attention
  exact
    { link := fun q => by
        rw [link_enterQuiesced]
        by_cases same : p = q
        · subst same; simp [(h.link p).2 running]
        · simpa [same, Ne.symm same] using h.link q
      key := fun k => by
        rw [key_enterQuiesced]
        by_cases own : stationOf k = p
        · simp [own, (h.key k).2 (own ▸ running)]
        · simpa [own] using h.key k
      response := by
        rw [response]
        cases owed : (w.link p).quiesceOwed with
        | some tag => exact .inr ⟨p, tag, .inr rfl, owed, rfl⟩
        | none =>
          refine h.response.imp ?_ ?_
          · rintro ⟨same, none⟩
            refine ⟨same, ?_⟩
            rintro q (ended | rfl)
            · exact none q ended
            · exact owed
          · rintro ⟨q, tag, ended, paid, placed⟩
            exact ⟨q, tag, .inl ended, paid, placed⟩
      switcher := switcher
      stale := fun q isSwitcher ended => by
        rw [fresh, attention]
        by_cases same : q = p
        · subst same
          have before := h.fresh fun q' other => by
            rw [isSwitcher] at other
            cases other
            exact running
          simp [isSwitcher, before.2]
        · have other : w.tally.switcher ≠ some p := by simpa [isSwitcher] using same
          simpa [other] using h.stale q isSwitcher (ended.resolve_right same)
      fresh := fun noSwitcher => by
        have other : w.tally.switcher ≠ some p := fun same => noSwitcher p same (.inr rfl)
        rw [fresh, attention, if_neg other, if_neg other]
        exact h.fresh fun q isSwitcher ended => noSwitcher q isSwitcher (.inl ended)
      ctl := by rw [ctl, h.ctl]
      store := store.trans h.store }

theorem LinksClosed.test (silent : NoneTalks w) (p : Pnl) :
    LinksClosed w (testQuiesced p t) fun q => closed q ∨ q = p ∧ quiesceDone w q = true := by
  have done := h.quiesceDone_iff silent p
  unfold testQuiesced
  split
  next ends =>
    obtain ⟨running, ended⟩ := done.mp ends
    have same : (fun q => closed q ∨ q = p ∧ quiesceDone w q = true) = fun q => closed q ∨ q = p :=
      funext fun q => propext (or_congr_right (and_iff_left_of_imp fun last => last ▸ ended))
    rw [same]
    exact h.enter running
  next stays =>
    have same : (fun q => closed q ∨ q = p ∧ quiesceDone w q = true) = closed := by
      refine funext fun q => propext (or_iff_left_of_imp ?_)
      rintro ⟨rfl, ended⟩
      by_contra running
      exact stays (done.mpr ⟨running, ended⟩)
    rwa [same]

/-- The response stands as it did if no link that closes owes one. -/
theorem LinksClosed.response_of_none (none : ∀ q, closed q → (w.link q).quiesceOwed = none) :
    t.ctl.response = w.ctl.response := by
  rcases h.response with ⟨same, -⟩ | ⟨q, tag, ended, owed, -⟩
  · exact same
  · rw [none q ended] at owed
    cases owed

/-- The response is the one owed by the only link that closes and owes one. -/
theorem LinksClosed.response_of_one {p : Pnl} {tag : Byte} (ended : closed p) (owed : (w.link p).quiesceOwed = some tag)
    (alone : ∀ q, q ≠ p → closed q → (w.link q).quiesceOwed = none) : t.ctl.response = some [0xBD, tag, 0, 3] := by
  rcases h.response with ⟨-, none⟩ | ⟨q, tag', endedq, owedq, placed⟩
  · rw [none p ended] at owed
    cases owed
  · have same : q = p := by
      by_contra other
      rw [alone q other endedq] at owedq
      cases owedq
    rw [same, owed] at owedq
    cases owedq
    exact placed

theorem LinksClosed.refresh : LinksClosed w (refresh t) closed where
  link := h.link
  key := h.key
  response := h.response
  switcher := h.switcher
  stale := h.stale
  fresh := h.fresh
  ctl := h.ctl
  store := h.store

end

/-- Testing several links in a state in which no key talks closes those whose quiesce ends in it. -/
theorem linksClosed_foldl_testQuiesced {w : State} (silent : NoneTalks w) (ps : List Pnl) :
    LinksClosed w (ps.foldl (fun t p => testQuiesced p t) w) fun q => q ∈ ps ∧ quiesceDone w q = true := by
  induction ps using List.reverseRecOn with
  | nil => simpa using LinksClosed.refl w
  | append_singleton ps p ih =>
    rw [List.foldl_append, List.foldl_cons, List.foldl_nil]
    simpa only [List.mem_append, List.mem_singleton, or_and_right] using ih.test silent p

/-! ### ALL TALK OFF (R103) -/

/-- The state once every key has gone out of talk, before a link tests its quiesce. -/
def talkSilenced (s : State) : State := refresh (moveKeys (fins 128) talkOff s)

theorem silence_eq (s : State) :
    silence s = refresh ((fins 8).foldl (fun t p => testQuiesced p t) (talkSilenced s)) := rfl

theorem key_talkSilenced (s : State) (k : KeyId) : ((talkSilenced s).key k).state = talkOff (s.key k).state := by
  have moved : (talkSilenced s).key k = (moveKeys (fins 128) talkOff s).key k := key_congr (by simp [talkSilenced]) k
  rw [moved, key_moveKeys (nodup_fins 128), if_pos (mem_fins k)]

theorem noneTalks_talkSilenced (s : State) : NoneTalks (talkSilenced s) := fun k => by
  rw [key_talkSilenced]
  exact talkOff_silent _

theorem talkEnds_talkSilenced {s : State} (counts : TalkExact s) : TalkEnds s (talkSilenced s) := by
  have moved : TalkEnds s (moveKeys (fins 128) talkOff s) := .moveKeys_off (fun _ _ _ => talkOff_silent _) counts _
  exact moved.trans (.refresh moved.counts)

theorem talkEnds_silence {s : State} (counts : TalkExact s) : TalkEnds s (silence s) := by
  have first := talkEnds_talkSilenced counts
  have tested := first.trans (.foldl_testQuiesced first.counts (noneTalks_talkSilenced s) (fins 8))
  rw [silence_eq]
  exact tested.trans (.refresh tested.counts)

/-- A quiesce that ALL TALK OFF ends: the link is QUIESCING and has no store operation of its own. -/
theorem quiesceDone_talkSilenced (s : State) (p : Pnl) : quiesceDone (talkSilenced s) p = true ↔
    ((s.link p).state = .quiescing ∧ (∀ op ∈ s.store.queue, op.orig ≠ .panel p) ∧
      s.store.engine.owner ≠ some (.panel p)) := by
  have links : (talkSilenced s).links = s.links := by simp [talkSilenced]
  have store : (talkSilenced s).store = s.store := by simp [talkSilenced]
  rw [quiesceDone_iff (noneTalks_talkSilenced s), link_congr links, store]

theorem linksClosed_silence (s : State) :
    LinksClosed (talkSilenced s) (silence s) fun p => quiesceDone (talkSilenced s) p = true := by
  have tested := (linksClosed_foldl_testQuiesced (noneTalks_talkSilenced s) (fins 8)).refresh
  simp only [mem_fins, true_and] at tested
  rwa [silence_eq]

theorem tally_refresh (s : State) :
    (refresh s).tally.switcher = s.tally.switcher ∧ (refresh s).tally.fresh = s.tally.fresh := ⟨rfl, rfl⟩

/-- Taking the keys out of talk leaves the links, the control link and the switcher settings as they stood. -/
theorem talkSilenced_kept (s : State) : (∀ p, (talkSilenced s).link p = s.link p) ∧ (talkSilenced s).ctl = s.ctl ∧
    (talkSilenced s).tally.switcher = s.tally.switcher ∧ (talkSilenced s).tally.fresh = s.tally.fresh := by
  have tally := tally_moveKeys (fins 128) talkOff s
  refine ⟨link_congr (by simp [talkSilenced]), by simp [talkSilenced], ?_, ?_⟩
  · rw [talkSilenced, (tally_refresh _).1, tally]
  · rw [talkSilenced, (tally_refresh _).2, tally]

theorem outputsFollow_silence (s : State) : OutputsFollow (silence s) := by
  rw [silence_eq]
  exact refresh_follows _

/-- Settles O28: the keys go out of talk with all that ends with them, then the links whose quiesce that ends enter
QUIESCED. -/
theorem allTalkOffSilencesEveryKey : Obligations.AllTalkOffSilencesEveryKey := by
  unfold Obligations.AllTalkOffSilencesEveryKey
  refine ⟨?ready, ?notReady⟩
  case ready =>
    intro s ready holds lists ends hEnds
    have ends_eq : ends = fun p => quiesceDone (talkSilenced s) p = true :=
      funext fun p => propext ((hEnds p).trans (quiesceDone_talkSilenced s p).symm)
    have run : exec .allTalkOff s = finish s (urgentDone (silence s, .ok)) := by
      show finish s (urgentDone (silenceRequest s)) = _
      rw [silenceRequest, if_pos ready]
    have becomes : Becomes .allTalkOff s (urgentDone (silence s, .ok)) := becomes_of_finish run
    have talk := talkEnds_silence ⟨holds, lists⟩
    have closes := linksClosed_silence s
    have silent : NoneTalks (silence s) := closes.noneTalks (noneTalks_talkSilenced s)
    have table := key_talkSilenced s
    have follows := outputsFollow_silence s
    obtain ⟨link, ctl, switcher, fresh⟩ := talkSilenced_kept s
    obtain ⟨timing, defs, salvos, guards, store, free, pending⟩ := silence_frame s
    rw [← ends_eq] at closes
    generalize talkSilenced s = w at *
    generalize silence s = v at *
    refine ⟨urgentDone (v, .ok), becomes, ?keys, talk.holdCount_of_silent silent, talk.handed_of_silent silent,
      talk.mics, talk.parties, talk.word, ?entries, talk.take, ?channels, ?tally, ?links, ?stale, ?fresh, ?ctl,
      ?response, ?noResponse, ?lines, talk.pins, ?lamps, ?driven, ?frame⟩
    case keys =>
      intro k
      obtain ⟨ended, running⟩ := closes.key k
      rw [table] at ended running
      refine ⟨talk.defn k, fun quiet => ?_, fun pressed => ?_⟩
      · rw [talkOff_of_quiet quiet] at ended running
        by_cases closed : ends (stationOf k)
        · exact ended closed
        · exact running closed
      · rw [talkOff_of_pressed pressed] at ended running
        exact ⟨ended, running⟩
    case entries => exact fun d => ⟨talk.entry_of_silent silent d, talk.dirty_of_silent silent lists d⟩
    case channels => exact fun c => ⟨talk.mapped c, talk.calls_of_silent silent c⟩
    case tally =>
      show ({ v.tally with channels := s.tally.channels, fresh := s.tally.fresh } : TallyUnit) = s.tally
      rw [talk.tally]
    case links =>
      intro p
      rw [← link p]
      exact closes.link p
    case stale =>
      rw [← switcher, ← ctl]
      exact closes.stale
    case fresh =>
      rw [← switcher, ← ctl, ← fresh]
      exact closes.fresh
    case ctl =>
      show ({ v.ctl with urgResult := .ok, urgent := none, urgFree := true } : ControlLink) = _
      rw [closes.ctl, ctl]
      rfl
    case response =>
      simp only [← link]
      exact fun p tag ended owed alone => closes.response_of_one ended owed alone
    case noResponse =>
      simp only [← link, ← ctl]
      exact closes.response_of_none
    case lines =>
      exact fun l => ⟨fun _ => Line.input_of_undriven (talk.lines l),
        fun _ _ _ => Line.output_of_undriven (talk.lines l)⟩
    case lamps => exact congrArg (fun x : State => urgentDone (x, .ok)) follows.1
    case driven => exact congrArg (fun x : State => urgentDone (x, .ok)) follows.2
    case frame =>
      rw [← timing, ← defs, ← salvos, ← guards, ← store, ← free, ← pending]
      rfl
  case notReady =>
    intro s notReady
    have run : exec .allTalkOff s = finish s (urgentDone (s, .notReady)) := by
      show finish s (urgentDone (silenceRequest s)) = _
      rw [silenceRequest, if_neg (by simp [notReady])]
    exact becomes_of_finish run

end Sys2Proof.Machine
end

section
/-! SUPPORT. The changeover guards' commands: what a guard's line says to its trip level, what the blocks of ARM GUARD,
DISARM GUARD and RESTORE GUARD answer, what TRIP GUARD and the two expiries do by the guard's state, and from that the
obligations O29, O30 and O33. -/

namespace Sys2Proof.Machine

/-! ### The monitor line (R125) -/

/-- A guard matches exactly while its line is IN and stands at the trip level. -/
theorem matching_iff (s : State) (f : GuardDef) : matching s f = true ↔ s.line f.line = .input f.high := by
  unfold matching
  cases s.line f.line with
  | input sample => simp
  | output mode latch driven => simp

theorem armedState_of_matching {s : State} {f : GuardDef} (h : s.line f.line = .input f.high) :
    armedState s f = .debouncing (f.debounce * 1000) := if_pos ((matching_iff s f).mpr h)

theorem armedState_of_not_matching {s : State} {f : GuardDef} (h : s.line f.line ≠ .input f.high) :
    armedState s f = .armed := if_neg (mt (matching_iff s f).mp h)

theorem isDisabled_iff (x : GuardState) : x.isDisabled = true ↔ x = .disabled := by
  cases x <;> simp [GuardState.isDisabled]

/-! ### ARM GUARD (R126) -/

theorem armBlock_range {g : Nat} (h : ¬g < 4) (s : State) : armBlock g s = refuseWith .range s := by
  simp only [armBlock, finOf_ge h]

/-- The checks of R126 on a guard in range, in their order. -/
theorem armBlock_inRange (g : Gid) (s : State) :
    armBlock g.1 s =
      if !(s.guard g).state.isDisabled then okWith s
      else if !monitorIn s (s.guard g).defn || (s.guard g).defn.fallback.isEmpty then refuseWith .config s
      else okWith (s.setGuardState g (armedState s (s.guard g).defn)) := by
  simp only [armBlock, finOf_val]

section
variable {s : State} {g : Gid}

theorem armBlock_of_enabled (h : (s.guard g).state ≠ .disabled) : armBlock g.1 s = okWith s := by
  rw [armBlock_inRange, if_pos]
  rwa [Bool.not_eq_true', ← Bool.not_eq_true, isDisabled_iff]

theorem armBlock_config (disabled : (s.guard g).state = .disabled)
    (unfit : (s.line (s.guard g).defn.line).isOut = true ∨ (s.guard g).defn.fallback = []) :
    armBlock g.1 s = refuseWith .config s := by
  have refused : (!monitorIn s (s.guard g).defn || (s.guard g).defn.fallback.isEmpty) = true := by
    simpa [monitorIn] using unfit
  simp [armBlock_inRange, (isDisabled_iff _).mpr disabled, refused]

theorem armBlock_ok (disabled : (s.guard g).state = .disabled) (listed : (s.guard g).defn.fallback ≠ [])
    {sample : Bool} (line : s.line (s.guard g).defn.line = .input sample) :
    armBlock g.1 s = okWith (s.setGuardState g (armedState s (s.guard g).defn)) := by
  have monitored : monitorIn s (s.guard g).defn = true := by simp [monitorIn, line, Line.isOut]
  simp [armBlock_inRange, (isDisabled_iff _).mpr disabled, monitored, listed]

end

/-! ### DISARM GUARD (R127) -/

theorem disarmBlock_range {g : Nat} (h : ¬g < 4) (s : State) : disarmBlock g s = refuseWith .range s := by
  simp only [disarmBlock, finOf_ge h]

theorem disarmBlock_inRange (g : Gid) (s : State) :
    disarmBlock g.1 s =
      if (s.guard g).state.holding then refuseWith .inUse s else okWith (s.setGuardState g .disabled) := by
  simp only [disarmBlock, finOf_val]

/-- Settles O29: the answers of the two blocks by the guard's state, and for arming by its line and its list. -/
theorem armAndDisarmByState : Obligations.ArmAndDisarmByState := by
  unfold Obligations.ArmAndDisarmByState
  refine ⟨?arm, ?disarm, ?range, ?armControl, ?disarmControl⟩
  case arm =>
    rintro s tag g ready _ rfl _ rfl
    have admitted : Admits s .ctl .armGuard := admits_ctl rfl rfl ready
    refine ⟨fun enabled => ?_, fun disabled unfit => ?_, fun disabled listed sample line => ?_⟩
    · exact answers_of_block rfl admitted (armBlock_of_enabled enabled)
    · exact answers_of_block rfl admitted (armBlock_config disabled unfit)
    have arms := answers_of_block (c := .armGuard .ctl tag g.1) (tag := tag) rfl admitted
      (armBlock_ok disabled listed line)
    have atTripLevel : s.line (s.guard g).defn.line = .input (s.guard g).defn.high ↔
        sample = (s.guard g).defn.high := by rw [line, Line.input.injEq]
    refine ⟨fun trips => ?_, fun rests => ?_⟩
    · rwa [armedState_of_matching (atTripLevel.mpr trips)] at arms
    · rwa [armedState_of_not_matching (mt atTripLevel.mp rests)] at arms
  case disarm =>
    rintro s tag g ready _ rfl
    have admitted : Admits s .ctl .disarmGuard := admits_ctl rfl rfl ready
    refine ⟨fun holds => ?_, fun free => ?_⟩
    · exact answers_of_block rfl admitted ((disarmBlock_inRange g s).trans (if_pos holds))
    · exact answers_of_block rfl admitted ((disarmBlock_inRange g s).trans (if_neg (by simp [free])))
  case range =>
    exact fun s tag g ready outside =>
      ⟨answers_of_block rfl (admits_ctl rfl rfl ready) (armBlock_range outside s),
        answers_of_block rfl (admits_ctl rfl rfl ready) (disarmBlock_range outside s)⟩
  case armControl => exact fun g => onlyFromControl_of_head rfl rfl (by decide) fun _ _ => rfl
  case disarmControl => exact fun g => onlyFromControl_of_head rfl rfl (by decide) fun _ _ => rfl

/-! ### DEBOUNCE_EXPIRY and TRIP GUARD (R128, R129) -/

theorem debounceExpiry_debouncing {s : State} {g : Gid} {n : Nat} (h : (s.guard g).state = .debouncing n) :
    debounceExpiry g s = trip g s := by
  simp only [debounceExpiry, h]

/-- TRIP GUARD becomes what its request does, with its result recorded and the urgent slot free. -/
theorem becomes_tripGuard {s u : State} {g : Nat} {r : UrgentResult} (h : tripRequest g s = (u, r)) :
    Becomes (.tripGuard g) s (urgentDone (u, r)) := by
  have run : exec (.tripGuard g) s = finish s (urgentDone (tripRequest g s)) := rfl
  exact becomes_of_finish (run.trans (by rw [h]))

theorem tripRequest_notReady {s : State} (notReady : s.ctl.ready = false) (g : Nat) :
    tripRequest g s = (s, .notReady) := if_neg (by simp [notReady])

section
variable {s : State} (ready : s.ctl.ready = true)
include ready

theorem tripRequest_range {g : Nat} (h : ¬g < 4) : tripRequest g s = (s, .range) := by
  simp only [tripRequest, if_pos ready, finOf_ge h]

variable {g : Gid}

theorem tripRequest_disabled (h : (s.guard g).state = .disabled) : tripRequest g.1 s = (s, .notArmed) := by
  simp only [tripRequest, if_pos ready, finOf_val, h]

/-- A guard that waits for its line, or for the end of its debounce time, trips at once. -/
theorem tripRequest_waiting (h : (s.guard g).state = .armed ∨ ∃ n, (s.guard g).state = .debouncing n) :
    tripRequest g.1 s = (trip g s, .ok) := by
  rcases h with armed | ⟨n, debouncing⟩
  · simp only [tripRequest, if_pos ready, finOf_val, armed]
  · simp only [tripRequest, if_pos ready, finOf_val, debouncing]

theorem tripRequest_tripped {r : List Src} (h : (s.guard g).state = .tripped r) : tripRequest g.1 s = (s, .ok) := by
  simp only [tripRequest, if_pos ready, finOf_val, h]

theorem tripRequest_recovering {n : Nat} {r : List Src} (h : (s.guard g).state = .recovering n r) :
    tripRequest g.1 s = (s.setGuardState g (.tripped r), .ok) := by
  simp only [tripRequest, if_pos ready, finOf_val, h]

end

/-- Settles O30: DEBOUNCE_EXPIRY by the timer it ends, and TRIP GUARD by what its request does in each state. -/
theorem guardsTripByExpiryOrRequest : Obligations.GuardsTripByExpiryOrRequest := by
  unfold Obligations.GuardsTripByExpiryOrRequest
  refine ⟨?expiry, ?request⟩
  case expiry =>
    intro s g n debouncing
    have run : exec (.debounceExpiry g) s = finish s (debounceExpiry g s) := rfl
    exact becomes_of_finish (run.trans (congrArg (finish s) (debounceExpiry_debouncing debouncing)))
  case request =>
    rintro s g _ rfl
    refine ⟨fun notReady => ?_, fun ready outside => ?_, ?_⟩
    · exact becomes_tripGuard (tripRequest_notReady notReady g)
    · exact becomes_tripGuard (tripRequest_range ready outside)
    rintro ready inside _ rfl
    refine ⟨fun disabled => ?_, fun waits => ?_, fun r tripped => ?_, fun n r recovers => ?_⟩
    · exact becomes_tripGuard (tripRequest_disabled (g := ⟨g, inside⟩) ready disabled)
    · exact becomes_tripGuard (tripRequest_waiting (g := ⟨g, inside⟩) ready waits)
    · exact becomes_tripGuard (tripRequest_tripped (g := ⟨g, inside⟩) ready tripped)
    · exact becomes_tripGuard (tripRequest_recovering (g := ⟨g, inside⟩) ready recovers)

/-! ### RECOVERY_EXPIRY and RESTORE GUARD (R134, R135) -/

theorem recoveryExpiry_recovering {s : State} {g : Gid} {n : Nat} {r : List Src}
    (h : (s.guard g).state = .recovering n r) : recoveryExpiry g s = restore g r s := by
  simp only [recoveryExpiry, h]

theorem restoreBlock_range {g : Nat} (h : ¬g < 4) (s : State) : restoreBlock g s = refuseWith .range s := by
  simp only [restoreBlock, finOf_ge h]

section
variable {s : State} {g : Gid}

theorem restoreBlock_disabled (h : (s.guard g).state = .disabled) :
    restoreBlock g.1 s = refuseWith .notArmed s := by
  simp only [restoreBlock, finOf_val, h]

/-- A guard that has not tripped has nothing to restore. -/
theorem restoreBlock_waiting (h : (s.guard g).state = .armed ∨ ∃ n, (s.guard g).state = .debouncing n) :
    restoreBlock g.1 s = okWith s := by
  rcases h with armed | ⟨n, debouncing⟩
  · simp only [restoreBlock, finOf_val, armed]
  · simp only [restoreBlock, finOf_val, debouncing]

theorem restoreBlock_tripped {r : List Src} (h : (s.guard g).state = .tripped r) :
    restoreBlock g.1 s =
      if matching s (s.guard g).defn then refuseWith .stillFaulted s else okWith (restore g r s) := by
  simp only [restoreBlock, finOf_val, h]

theorem restoreBlock_recovering {n : Nat} {r : List Src} (h : (s.guard g).state = .recovering n r) :
    restoreBlock g.1 s = okWith (restore g r s) := by
  simp only [restoreBlock, finOf_val, h]

end

/-- Settles O33: RECOVERY_EXPIRY by the timer it ends, and RESTORE GUARD by its block's answer in each state, for a
TRIPPED guard by whether its line matches. -/
theorem guardsRestoreByExpiryOrRequest : Obligations.GuardsRestoreByExpiryOrRequest := by
  unfold Obligations.GuardsRestoreByExpiryOrRequest
  refine ⟨?expiry, ?request, ?range, ?control⟩
  case expiry =>
    intro s g n r recovers
    have run : exec (.recoveryExpiry g) s = finish s (recoveryExpiry g s) := rfl
    exact becomes_of_finish (run.trans (congrArg (finish s) (recoveryExpiry_recovering recovers)))
  case request =>
    rintro s tag g ready _ rfl _ rfl
    have admitted : Admits s .ctl .restoreGuard := admits_ctl rfl rfl ready
    refine ⟨fun disabled => ?_, fun waits => ?_, fun r tripped => ?_, fun n r recovers => ?_⟩
    · exact answers_of_block rfl admitted (restoreBlock_disabled disabled)
    · exact answers_of_block rfl admitted (restoreBlock_waiting waits)
    · rw [ne_eq, ← matching_iff]
      have block := restoreBlock_tripped tripped
      exact ⟨fun faulted => answers_of_block rfl admitted (block.trans (if_pos faulted)),
        fun clear => answers_of_block rfl admitted (block.trans (if_neg clear))⟩
    · exact answers_of_block rfl admitted (restoreBlock_recovering recovers)
  case range =>
    exact fun s tag g ready outside => answers_of_block rfl (admits_ctl rfl rfl ready) (restoreBlock_range outside s)
  case control => exact fun g => onlyFromControl_of_head rfl rfl (by decide) fun _ _ => rfl

end Sys2Proof.Machine
end

section
/-! SUPPORT. Sessions: what a link does with HELLO by its state, what the blocks of HELLO, BYE and QUIESCE LINK
answer, and from that the obligation O42. -/

namespace Sys2Proof.Machine

/-! ### HELLO (R157 to R159) -/

section
variable {s : State} {p : Pnl}

/-- WELCOME names the panel and the link timeout, and says whether the panel is the switcher link. -/
theorem welcomeReply_eq (s : State) (p : Pnl) :
    welcomeReply s p = byte p.1 :: two s.timing.linkTimeout ++ [if s.tally.switcher = some p then 1 else 0] := by
  simp only [welcomeReply, flag, decide_eq_true_eq]

/-- HELLO is not among the requests that a QUIESCING link still takes, and the link refuses it before its block. -/
theorem gate_hello_quiescing (closing : (s.link p).state = .quiescing) :
    gate s (.panel p) .hello true = .refuse .quiescing := by
  simp [gate, panelGate, closing, LinkState.session, ReqKind.controlOnly, ReqKind.takenQuiescing]

/-- A link in any other state passes HELLO: an UP link because every check lets it through, a DOWN or QUIESCED link
because HELLO is the one request it takes. -/
theorem gate_hello_pass (other : (s.link p).state ≠ .quiescing) : gate s (.panel p) .hello true = .pass := by
  cases state : (s.link p).state with
  | quiescing => exact absurd state other
  | up => exact gate_of_admits ⟨rfl, nofun, .inl state⟩
  | down => simp [gate, panelGate, state, LinkState.session]
  | quiesced => simp [gate, panelGate, state, LinkState.session]

theorem helloBlock_notReady (notReady : s.ctl.ready = false) : helloBlock (.panel p) s = refuseWith .notReady s := by
  simp [helloBlock, notReady]

theorem helloBlock_welcome (ready : s.ctl.ready = true) (other : (s.link p).state ≠ .quiescing) :
    helloBlock (.panel p) s = (enterUp p s, .now .welcome
      (byte p.1 :: two s.timing.linkTimeout ++ [if s.tally.switcher = some p then 1 else 0])) := by
  simp [helloBlock, ready, other, welcomeReply_eq]

/-! ### BYE (R162) -/

theorem byeBlock_up (up : (s.link p).state = .up) : byeBlock (.panel p) s = okWith (startQuiesce p none s) := if_pos up

theorem byeBlock_of_not_up (other : (s.link p).state ≠ .up) : byeBlock (.panel p) s = okWith s := if_neg other

/-! ### QUIESCE LINK (R164) -/

variable (tag : Byte)

theorem quiesceBlock_range {link : Nat} (h : ¬link < 8) : quiesceBlock tag link s = refuseWith .range s := by
  simp only [quiesceBlock, finOf_ge h]

theorem quiesceBlock_up (up : (s.link p).state = .up) :
    quiesceBlock tag p.1 s = (startQuiesce p (some tag) s, .later) := by
  simp only [quiesceBlock, finOf_val, up]

/-- On a QUIESCING link the response joins the quiesce that runs: its tag replaces one that was owed before. -/
theorem quiesceBlock_quiescing (closing : (s.link p).state = .quiescing) :
    quiesceBlock tag p.1 s = (s.setLink p { s.link p with quiesceOwed := some tag }, .later) := by
  simp only [quiesceBlock, finOf_val, closing]

/-- A link with no session has nothing to end, and its state is the answer. -/
theorem quiesceBlock_of_no_session (ended : (s.link p).state.session = false) :
    quiesceBlock tag p.1 s = replyWith [byte (s.link p).state.code] s := by
  cases state : (s.link p).state with
  | up => simp [state, LinkState.session] at ended
  | quiescing => simp [state, LinkState.session] at ended
  | down => simp only [quiesceBlock, finOf_val, state, replyWith]
  | quiesced => simp only [quiesceBlock, finOf_val, state, replyWith]

end

/-- Settles O42: what the link does with HELLO and what its block answers, then the blocks of BYE and QUIESCE LINK, each
by the state of the link. -/
theorem sessionsOpenAndStartToClose : Obligations.SessionsOpenAndStartToClose := by
  unfold Obligations.SessionsOpenAndStartToClose
  refine ⟨?helloClosing, ?hello, ?bye, ?quiesce, ?range, ?control⟩
  case helloClosing => exact fun s p tag closing => answers_of_refused rfl (gate_hello_quiescing closing)
  case hello =>
    intro s p tag other
    have passed := gate_hello_pass other
    exact ⟨fun notReady _ => answers_of_pass rfl passed (helloBlock_notReady notReady),
      fun ready => answers_of_pass rfl passed (helloBlock_welcome ready other)⟩
  case bye =>
    intro s p tag
    refine ⟨fun up => ?_, fun closing => ?_⟩
    · have admitted : Admits s (.panel p) .bye := ⟨rfl, nofun, .inl up⟩
      exact answers_of_block rfl admitted (byeBlock_up up)
    · have admitted : Admits s (.panel p) .bye := ⟨rfl, nofun, .inr ⟨closing, rfl⟩⟩
      exact answers_of_block rfl admitted (byeBlock_of_not_up (by simp [closing]))
  case quiesce =>
    rintro s tag p ready _ rfl
    have admitted : Admits s .ctl .quiesceLink := admits_ctl rfl rfl ready
    refine ⟨fun up => ?_, fun closing => ?_, fun quiesced => ?_, fun down => ?_⟩
    · exact answersLater_of_block rfl admitted (quiesceBlock_up tag up)
    · exact answersLater_of_block rfl admitted (quiesceBlock_quiescing tag closing)
    · have block := quiesceBlock_of_no_session (s := s) (p := p) tag (by rw [quiesced]; rfl)
      rw [quiesced] at block
      exact answers_of_block rfl admitted block
    · have block := quiesceBlock_of_no_session (s := s) (p := p) tag (by rw [down]; rfl)
      rw [down] at block
      exact answers_of_block rfl admitted block
  case range =>
    exact fun s tag p ready outside => answers_of_block rfl (admits_ctl rfl rfl ready) (quiesceBlock_range tag outside)
  case control => exact fun p => onlyFromControl_of_head rfl rfl (by decide) fun _ _ => rfl

end Sys2Proof.Machine
end

section
/-! SUPPORT. What a command can do: every command is a start, or it settles one effect with one answer. The effects of
events and of the blocks of requests are listed once, each with the checks it has passed. -/

namespace Sys2Proof.Machine

/-! ### The effects -/

/-- From `s` to `w` the control link and the count of free values alone may differ, and READY stands as it did. -/
def CtlOnly (s w : State) : Prop :=
  w.ctl.ready = s.ctl.ready ∧ w = { s with ctl := w.ctl, free := w.free }

theorem CtlOnly.refl (s : State) : CtlOnly s s := ⟨rfl, rfl⟩

/-- What an event does in `s`. -/
inductive Event (s : State) : State → Prop
  | load : s.store.engine = .loading → Event s (endLoad s)
  | bytes (p : Pnl) (bs : List Byte) : Event s (bs.foldl (takeByte p) s)
  | byteTimeout (p : Pnl) : Event s (setAssembling p [] s)
  | frameSent (p : Pnl) : Event s (frameEnd p s)
  | holdEnds (p : Pnl) : Event s (setHoldTimer p none s)
  | linkLost (p : Pnl) : (s.link p).state.session = true → Event s (linkDown p s)
  | wordReady : Event s (wordReady s)
  | readDone : Event s (readDone s)
  | pulse : Event s (pulse s)
  | frameExpiry : Event s (frameExpiry s)
  | command : Event s (sendCommand s)
  | abandon : Event s (abandon s)
  | report (d : Dst) (x : Src) : Event s (report d x s)
  | confirm (d : Dst) : Event s (confirmExpiry d s)
  | flash : Event s (flashExpiry s)
  | threshold (k : KeyId) (n : Nat) : (s.key k).state = .timing (some n) → Event s (moveKey k .held s)
  | limit (k : KeyId) (n : Nat) : (s.key k).state = .latched (some n) →
      Event s (testQuiesced (stationOf k) (refresh (moveKey k .idle s)))
  | talkSend : Event s (talkSend s)
  | silence : s.ctl.ready = true → Event s (silence s)
  | trip (g : Gid) : ((s.guard g).state = .armed ∨ ∃ n, (s.guard g).state = .debouncing n) → Event s (trip g s)
  | tripAgain (g : Gid) (n : Nat) (r : List Src) : (s.guard g).state = .recovering n r →
      Event s (s.setGuardState g (.tripped r))
  | restore (g : Gid) (n : Nat) (r : List Src) : (s.guard g).state = .recovering n r → Event s (restore g r s)
  | sample (l : Lid) (high : Bool) : Event s (sampleChange l high s)

/-- What the block of the request `c` does in `s`, beside its answer. -/
inductive Block (c : Instr) (s : State) : State → Prop
  | same : Block c s s
  | hello (p : Pnl) : s.ctl.ready = true → (s.link p).state ≠ .quiescing → Block c s (enterUp p s)
  | quiesce (p : Pnl) (owed : Option Byte) : (s.link p).state = .up → Block c s (startQuiesce p owed s)
  | owe (p : Pnl) (owed : Option Byte) : Block c s (s.setLink p { s.link p with quiesceOwed := owed })
  | subscribe (p : Pnl) (tag : Byte) (classes : Nat) : c = .subscribe (.panel p) tag classes →
      (s.link p).state = .up → Block c s (s.setLink p (resubscribe (s.link p) (subsOf classes)))
  | hold (p : Pnl) (t : Option Nat) : (s.link p).state = .up → Block c s (setHoldTimer p t s)
  | route (o : Origin) (d : Dst) (x : Src) : (s.entry d).hold = none → ¬LockedTo (s.entry d) o →
      (s.entry d).mark = none → Block c s (stageOn d (.routed x o) s)
  | lock (o : Origin) (kind : LockKind) (d : Dst) : (s.entry d).ownedByOther o = false →
      forbidsLock o kind (s.entry d) = false →
      Block c s (s.setEntry d { s.entry d with lock := some ⟨o, kind⟩ })
  | unlock (d : Dst) : Block c s (s.setEntry d { s.entry d with lock := none })
  | redefine (d : Dst) (x : DestDef) : (s.entry d).hold = none →
      ((s.defs.at d).cls = .ifb → x.cls ≠ .ifb → ifbInUse s d = false) →
      (x.cls = .ifb → inFallback s d = false) → Block c s (redefine d x s)
  | stage (o : Origin) (tag : Byte) (raw : List (Nat × Nat)) (ps : List (Dst × Src)) :
      judgeSalvo s o tag raw = .stage ps → Block c s (stageSalvo o tag false ps s)
  | queue (o : Origin) (tag : Byte) (raw : List (Nat × Nat)) (ps : List (Dst × Src)) :
      judgeSalvo s o tag raw = .wait ps → s.salvos.length < 4 → Block c s (joinSalvos ⟨o, tag, ps, false⟩ s)
  | cancel (f : PendingSalvo → Bool) : Block c s { s with salvos := s.salvos.filter f }
  | store (op : StoreOp) : s.store.queue.length < 4 → Block c s (joinStore op s)
  | matrix : Block c s { s with take := { s.take with dirty := tabOf fun _ => true } }
  | record (program preview : Tab Bool 24) (fresh : Bool) : Block c s (setRecord program preview fresh s)
  | switcher (l : Option Pnl) (x : Option Src) : Block c s (setSwitcher l x s)
  | map (ch : Chn) (x : Option Src) : Block c s (mapChannel ch x s)
  | station (p : Pnl) (m : Option Src) : stationInterrupts s p = false →
      (m.isNone = true → stationOwnsIfb s p = false) →
      Block c s { s with talk := { s.talk with mics := s.talk.mics.put p m } }
  | party (y : Pty) (ch : Option Chn) : partyCalled s y = false →
      Block c s { s with talk := { s.talk with parties := s.talk.parties.put y ch } }
  | keyDef (k : KeyId) (f : Option KeyDef) : (s.key k).state = .idle →
      (∀ m d, f = some ⟨m, .ifb d⟩ →
        (s.defs.at d).cls = .ifb ∧ (s.talk.mics.at (stationOf k)).isSome = true) → Block c s (setKeyDef k f s)
  | keyDown (k : KeyId) (f : KeyDef) : (s.link (stationOf k)).state.session = true → (s.key k).defn = some f →
      Block c s (refresh (moveKey k (pressed s f (s.key k).state).1 s))
  | keyUp (k : KeyId) (up : Bool) : (s.link (stationOf k)).state.session = true →
      Block c s (testQuiesced (stationOf k) (refresh (moveKey k (released s up (s.key k).state) s)))
  | arm (g : Gid) : (s.guard g).state = .disabled → Block c s (s.setGuardState g (armedState s (s.guard g).defn))
  | disarm (g : Gid) : (s.guard g).state.holding = false → Block c s (s.setGuardState g .disabled)
  | restore (g : Gid) (r : List Src) :
      ((s.guard g).state = .tripped r ∨ ∃ n, (s.guard g).state = .recovering n r) → Block c s (restore g r s)
  | defineGuard (g : Gid) (f : GuardDef) : (f.fallback.map Prod.fst).Nodup → (s.guard g).state = .disabled →
      (∀ p ∈ f.fallback, (s.defs.at p.1).cls ≠ .ifb) → sharesDest s g f = false →
      Block c s (s.setGuard g { s.guard g with defn := f })
  | latches (lines values : Nat) : Block c s (driveLines { s with lines := { s.lines with
      recs := tabOf fun l : Lid => if lines.testBit l.1 then withLatch (s.line l) (values.testBit l.1) else s.line l } })
  | line (l : Lid) (x : Line) : Block c s (driveLines (s.setLine l x))
  | attention (a m : Tab Bool 9) : Block c s { s with ctl := { s.ctl with attention := a, mask := m } }
  | timing (t : Timing) : Block c s { s with timing := t }
  | restart (tag : Byte) : Block c s (restartBlock tag s).1
  | permit (on : Bool) : Block c s { s with store := { s.store with permit := on } }
  | grant : s.store.engine = .idle → Block c s (s.setEngine (.granted none))
  | want (job : Job) (w : Option Byte) (tag : Byte) : s.store.engine = .busy job w →
      Block c s (s.setEngine (.busy job (some tag)))
  | release : s.store.engine = .granted none → Block c s (startOps s.store.queue (openPort s))
  | releaseRaw (raw : RawJob) : s.store.engine = .granted (some raw) →
      Block c s (startOps s.store.queue (closeSequence (openPort s)))
  | rawRead (start count : Nat) : Block c s (sendPort [.read start count] (openPort s))
  | rawWrite (raw : RawJob) (cs : List PortCmd) : grantHeld s = true →
      Block c s (sendPort cs (((openPort s).setEngine (.granted (some raw))).setLatch true))

/-- How the effect `u` is answered. -/
inductive Answered (u : State) : State → Prop
  | nothing : Answered u u
  | reply (o : Origin) (typ tag : Byte) (code : Result) (ps : List Byte) : Answered u (answer o typ tag code ps u)
  | later (typ tag : Byte) : Answered u (takeRequest typ tag u)
  | discard (o : Origin) (typ tag : Byte) : Answered u (discardHeld o typ tag u)
  | urgent (r : UrgentResult) : Answered u (urgentDone (u, r))

/-- Some link is in session, or READY is set: no request passes the links otherwise. -/
def Open (s : State) : Prop := s.ctl.ready = true ∨ ∃ p, (s.link p).state.session = true

/-- The effect `u` of the command `c` in `w`. -/
inductive Effect (c : Instr) (w : State) : State → Prop
  | same : Effect c w w
  | event {u : State} : Event w u → Effect c w u
  | block {u : State} : Open w → Block c w u → Effect c w u

/-- The slot for an urgent request stands as it did. -/
def SlotKept (s w : State) : Prop := w.ctl.urgent = s.ctl.urgent ∧ w.ctl.urgFree = s.ctl.urgFree

/-- The command settles one effect with its answer; the urgent slot stands as it did before the effect, but for an urgent
request, whose result frees it. -/
def Settles (c : Instr) (s t : State) : Prop :=
  ∃ w u v, CtlOnly s w ∧ Effect c w u ∧ Answered u v ∧ (SlotKept s w ∨ ∃ r, v = urgentDone (u, r)) ∧ t = settle s v

theorem Settles.of_finish {c : Instr} {s u t : State} (h : finish s u = .next t) (e : Effect c s u) :
    Settles c s t := by
  cases h
  exact ⟨s, u, u, .refl s, e, .nothing, .inl ⟨rfl, rfl⟩, rfl⟩

theorem Settles.of_event {c : Instr} {s u t : State} (h : finish s u = .next t) (e : Event s u) : Settles c s t :=
  .of_finish h (.event e)

theorem Settles.of_ctlOnly {c : Instr} {s u t : State} (h : finish s u = .next t) (e : CtlOnly s u)
    (slot : SlotKept s u) : Settles c s t := by
  cases h
  exact ⟨u, u, u, e, .same, .nothing, .inl slot, rfl⟩

/-! ### The gate -/

section
variable {s : State} {p : Pnl} {k : ReqKind} {codes : Bool}

/-- What a panel link has checked of a request it passes. -/
theorem panelGate_pass (h : panelGate s p k codes = .pass) :
    k = .hello ∨ (s.link p).state.session = true ∧ ((s.link p).state = .up ∨ k.takenQuiescing = true) := by
  unfold panelGate at h
  split at h
  next session =>
    refine .inr ⟨session, ?_⟩
    by_cases closing : (s.link p).state = .quiescing
    · right
      by_contra refused
      rw [Bool.not_eq_true] at refused
      simp only [closing, refused] at h
      split at h <;> (try split at h) <;> (try split at h) <;> simp at h
    · left
      cases state : (s.link p).state <;> simp_all [LinkState.session]
  next =>
    split at h
    next hello => exact .inl hello
    next => cases h

theorem controlGate_pass (h : controlGate s k codes = .pass) :
    k.panelOnly = false ∧ (s.ctl.ready = true ∨ k = .readStatus) := by
  unfold controlGate at h
  split at h
  · cases h
  · split at h
    · cases h
    next ready =>
      split at h
      · cases h
      next panel =>
        refine ⟨by simpa using panel, ?_⟩
        by_cases status : k = .readStatus
        · exact .inr status
        · left; simpa [status] using ready

end

/-- A served request settles what its block does, provided the block's effect is listed wherever the link passes it. -/
theorem Settles.of_serve {c : Instr} {k : ReqKind} {o : Origin} {tag : Byte} {codes : Bool}
    {block : State → State × Answer} {s t : State} (h : serve k o tag codes block s = .next t)
    (e : gate s o k codes = .pass → Effect c s (block s).1) : Settles c s t := by
  unfold serve at h
  split at h
  · cases h
    exact ⟨s, s, _, .refl s, .same, .discard o k.code tag, .inl ⟨rfl, rfl⟩, rfl⟩
  next code _ =>
    cases h
    exact ⟨s, s, _, .refl s, .same, .reply o k.code tag code [], .inl ⟨rfl, rfl⟩, rfl⟩
  next passed =>
    cases h
    refine ⟨s, (block s).1, _, .refl s, e passed, ?_, .inl ⟨rfl, rfl⟩, rfl⟩
    cases (block s).2 with
    | now code ps => exact .reply o k.code tag code ps
    | later => exact .later k.code tag

/-- A request that is neither HELLO nor READ STATUS passes an open link alone. -/
theorem open_of_gate {s : State} {o : Origin} {k : ReqKind} {codes : Bool} (h : gate s o k codes = .pass)
    (hello : k ≠ .hello) (status : k ≠ .readStatus) : Open s := by
  cases o with
  | panel p => exact .inr ⟨p, ((panelGate_pass h).resolve_left hello).1⟩
  | ctl => exact .inl ((controlGate_pass h).2.resolve_right status)

end Sys2Proof.Machine
end

section
/-! SUPPORT. The blocks of the requests, each with the effect it may have, and from them what every command settles. -/

namespace Sys2Proof.Machine

/-! ### Links and sessions -/

section
variable {c : Instr} {s : State} (o : Origin) (tag : Byte)

theorem block_hello : Block c s (helloBlock o s).1 := by
  unfold helloBlock
  split
  · exact .same
  next p =>
    split
    · exact .same
    next ready =>
      split
      · exact .same
      next other => exact .hello p (by simpa using ready) other

theorem block_bye : Block c s (byeBlock o s).1 := by
  unfold byeBlock
  split
  · exact .same
  next p =>
    split
    next up =>
      dsimp only [okWith]
      exact .quiesce p none up
    · exact .same

theorem block_quiesce (link : Nat) : Block c s (quiesceBlock tag link s).1 := by
  unfold quiesceBlock
  split
  next p _ =>
    split
    next up =>
      dsimp only
      exact .quiesce p (some tag) up
    · exact .owe p (some tag)
    · exact .same
    · exact .same
  · exact .same

variable {o}

theorem block_subscribe {p : Pnl} {classes : Nat} (up : (s.link p).state = .up)
    (hc : c = .subscribe (.panel p) tag classes) : Block c s (subscribeBlock (.panel p) classes s).1 := by
  unfold subscribeBlock
  dsimp only
  split
  · exact .subscribe p tag classes hc up
  · exact .same

theorem block_hold {p : Pnl} (up : (s.link p).state = .up) (time : Nat) :
    Block c s (holdBlock (.panel p) time s).1 := by
  unfold holdBlock
  dsimp only
  split
  · exact .hold p _ up
  · exact .same

theorem block_resume {p : Pnl} (up : (s.link p).state = .up) : Block c s (resumeBlock (.panel p) s).1 :=
  .hold p none up

end

/-! ### Routes, salvos and presets -/

section
variable {c : Instr} {s : State} (o : Origin) (tag : Byte)

theorem block_route (d x : Nat) : Block c s (routeBlock o d x s).1 := by
  unfold routeBlock
  split
  next d x _ _ =>
    dsimp only
    split
    · exact .same
    next free =>
      split
      · exact .same
      next unlocked =>
        split
        · exact .same
        next unmarked =>
          rw [lockedAgainst_iff] at unlocked
          exact .route o d x (by simpa using free) unlocked (by simpa [Entry.marked] using unmarked)
  · exact .same

theorem block_lock (kind : LockKind) (d : Nat) : Block c s (lockBlock o kind d s).1 := by
  unfold lockBlock
  split
  next d _ =>
    dsimp only
    split
    · exact .same
    next own =>
      split
      · exact .same
      next permitted => exact .lock o kind d (by simpa using own) (by simpa using permitted)
  · exact .same

theorem block_unlock (d : Nat) : Block c s (unlockBlock o d s).1 := by
  unfold unlockBlock
  split
  next d _ =>
    split
    · exact .same
    · split
      · exact .unlock d
      · exact .same
  · exact .same

theorem block_forceUnlock (d : Nat) : Block c s (forceUnlockBlock d s).1 := by
  unfold forceUnlockBlock
  split
  next d _ => exact .unlock d
  · exact .same

theorem block_defineDestination (d cls index home : Nat) :
    Block c s (defineDestinationBlock d cls index home s).1 := by
  unfold defineDestinationBlock
  split
  next d x home _ _ _ =>
    split
    · exact .same
    next free =>
      split
      · exact .same
      next unused =>
        split
        · exact .same
        next unlisted =>
          split
          · exact .same
          · refine .redefine d ⟨x, home⟩ (by simpa using free) (fun was other => ?_) fun ifb => ?_
            · simpa [was, other] using unused
            · simp only at ifb
              simpa [ifb] using unlisted
  · exact .same

theorem block_salvo (raw : List (Nat × Nat)) : Block c s (salvoBlock o tag raw s).1 := by
  unfold salvoBlock
  split
  · exact .same
  next ps verdict =>
    split
    · exact .same
    next room =>
      rw [salvosFull_iff] at room
      exact .queue o tag raw ps verdict (by omega)
  next ps verdict => exact .stage o tag raw ps verdict

theorem block_cancelSalvo (salvoTag : Byte) : Block c s (cancelSalvoBlock o salvoTag s).1 := by
  unfold cancelSalvoBlock
  split
  · exact .cancel _
  · exact .same

theorem storeBusy_iff (s : State) (o : Origin) : storeBusy s o = true ↔
    (4 ≤ s.store.queue.length ∨ (o = .ctl ∧ ∃ raw, s.store.engine = .granted raw)) := by
  have held : grantHeld s = true ↔ ∃ raw, s.store.engine = .granted raw := by
    unfold grantHeld
    cases s.store.engine <;> simp
  rw [← held]
  simp [storeBusy, show Config.storeQueueSize = 4 from rfl]

variable {o}

theorem block_acceptStore {op : StoreOp} (room : ¬storeBusy s o = true) : Block c s (acceptStore op s).1 := by
  have short : s.store.queue.length < 4 := by
    by_contra full
    exact room ((storeBusy_iff s o).mpr (.inl (by omega)))
  unfold acceptStore
  split
  · exact .store op short
  · exact .store op short

variable (o)

theorem block_savePreset (preset : Nat) (dests : List Nat) : Block c s (savePresetBlock o tag preset dests s).1 := by
  unfold savePresetBlock
  split
  · exact .same
  · split
    · split
      · exact .same
      · split
        · exact .same
        · split
          · exact .same
          next room => exact block_acceptStore room
    · exact .same

theorem block_clearPreset (preset : Nat) : Block c s (clearPresetBlock o tag preset s).1 := by
  unfold clearPresetBlock
  split
  · split
    · exact .same
    · split
      · exact .same
      next room => exact block_acceptStore room
  · exact .same

theorem block_recall (preset : Nat) : Block c s (recallBlock o tag preset s).1 := by
  unfold recallBlock
  split
  · split
    · exact .same
    next room => exact block_acceptStore room
  · exact .same

end

/-! ### Tally and talk -/

section
variable {c : Instr} {s : State}

theorem block_setSwitcher (link source : Nat) : Block c s (setSwitcherBlock link source s).1 := by
  unfold setSwitcherBlock
  split
  next l x _ _ => exact .switcher l x
  · exact .same

theorem block_defineTallyChannel (channel source : Nat) : Block c s (defineTallyChannelBlock channel source s).1 := by
  unfold defineTallyChannelBlock
  split
  next ch x _ _ => exact .map ch x
  · exact .same

theorem block_defineStation (station mic : Nat) : Block c s (defineStationBlock station mic s).1 := by
  unfold defineStationBlock
  split
  next p m _ _ =>
    split
    · exact .same
    next silent =>
      split
      · exact .same
      next served => exact .station p m (by simpa using silent) fun gone => by simpa [gone] using served
  · exact .same

theorem block_defineParty (party channel : Nat) : Block c s (definePartyBlock party channel s).1 := by
  unfold definePartyBlock
  split
  next y ch _ _ =>
    split
    · exact .same
    next silent => exact .party y ch (by simpa using silent)
  · exact .same

theorem block_defineKey (key assigned mode kind target call : Nat) :
    Block c s (defineKeyBlock key assigned mode kind target call s).1 := by
  unfold defineKeyBlock
  split
  next k _ =>
    split
    · unfold unassignKey
      split
      · exact .same
      next idle => exact .keyDef k none (by simpa using idle) nofun
    · unfold assignKey
      split
      next m t _ _ =>
        split
        · exact .same
        next idle =>
          split
          next y call => exact .keyDef k _ (by simpa using idle) nofun
          next d =>
            split
            · exact .same
            next ifb =>
              split
              · exact .same
              next config =>
                simp only [Bool.or_eq_true, not_or] at config
                refine .keyDef k _ (by simpa using idle) ?_
                rintro _ _ ⟨⟩
                exact ⟨by simpa using ifb, by simpa [Option.isSome_iff_ne_none] using config.2⟩
      · exact .same
  · exact .same

theorem stationOf_keyAt {p : Pnl} {n : Nat} {k : KeyId} {f : KeyDef} (h : keyAt s p n = some (k, f)) :
    stationOf k = p ∧ (s.key k).defn = some f := by
  unfold keyAt at h
  obtain ⟨i, -, found⟩ := Option.bind_eq_some_iff.mp h
  obtain ⟨f', defn, pair⟩ := Option.map_eq_some_iff.mp found
  cases pair
  exact ⟨stationOf_keyOf p i, defn⟩

theorem block_keyDown {p : Pnl} (session : (s.link p).state.session = true) (n : Nat) :
    Block c s (keyDownBlock (.panel p) n s).1 := by
  unfold keyDownBlock
  dsimp only
  split
  next k f found =>
    obtain ⟨rfl, defn⟩ := stationOf_keyAt found
    exact .keyDown k f session defn
  · exact .same

theorem block_keyUp {p : Pnl} (session : (s.link p).state.session = true) (n : Nat) :
    Block c s (keyUpBlock (.panel p) n s).1 := by
  unfold keyUpBlock
  dsimp only
  split
  next k f found =>
    obtain ⟨rfl, -⟩ := stationOf_keyAt found
    exact .keyUp k _ session
  · exact .same

/-! ### Guards and lines -/

theorem block_arm (g : Nat) : Block c s (armBlock g s).1 := by
  unfold armBlock
  split
  next g _ =>
    dsimp only
    split
    · exact .same
    next disabled =>
      split
      · exact .same
      · exact .arm g ((isDisabled_iff _).mp (by simpa using disabled))
  · exact .same

theorem block_disarm (g : Nat) : Block c s (disarmBlock g s).1 := by
  unfold disarmBlock
  split
  next g _ =>
    split
    · exact .same
    next free => exact .disarm g (by simpa using free)
  · exact .same

theorem block_restore (g : Nat) : Block c s (restoreBlock g s).1 := by
  unfold restoreBlock
  split
  next g _ =>
    split
    · exact .same
    · exact .same
    · exact .same
    next r tripped =>
      split
      · exact .same
      · exact .restore g r (.inl tripped)
    next n r recovering => exact .restore g r (.inr ⟨n, recovering⟩)
  · exact .same

theorem block_defineGuard (g line level debounce mode armed : Nat) (pairs : List (Nat × Nat)) (set values : Nat) :
    Block c s (defineGuardBlock g line level debounce mode armed pairs set values s).1 := by
  unfold defineGuardBlock
  split
  next g f _ _ =>
    split
    · exact .same
    next single =>
      split
      · exact .same
      next disabled =>
        split
        · exact .same
        next classes =>
          split
          · exact .same
          next agreed =>
            simp only [Bool.or_eq_true, not_or, Bool.not_eq_true] at agreed
            obtain ⟨⟨⟨shares, -⟩, -⟩, -⟩ := agreed
            refine .defineGuard g f ((distinct_iff _).mp (by simpa using single))
              ((isDisabled_iff _).mp (by simpa using disabled)) ?_ shares
            simpa using classes
  · exact .same

theorem block_lineSet (lines values : Nat) : Block c s (lineSetBlock lines values s).1 := by
  unfold lineSetBlock
  split
  · exact .latches lines values
  · exact .same

theorem block_defineLine (line direction mode target latch : Nat) :
    Block c s (defineLineBlock line direction mode target latch s).1 := by
  unfold defineLineBlock
  split
  next l _ =>
    split
    next x _ =>
      split
      · exact .same
      · exact .line l x
    · exact .same
  · exact .same

/-! ### Timing and the store -/

theorem block_setTiming (rate threshold limit timeout : Nat) :
    Block c s (setTimingBlock rate threshold limit timeout s).1 := by
  unfold setTimingBlock
  split
  next t _ => exact .timing t
  · exact .same

theorem block_grant (tag : Byte) : Block c s (grantBlock tag s).1 := by
  unfold grantBlock
  split
  next idle => exact .grant idle
  next job w busy => exact .want job w tag busy
  · exact .same
  · exact .same

theorem block_release : Block c s (releaseBlock s).1 := by
  unfold releaseBlock
  split
  next granted => exact .release granted
  next raw granted => exact .releaseRaw raw granted
  · exact .same
  · exact .same
  · exact .same

theorem block_rawRead (start count : Nat) : Block c s (rawReadBlock start count s).1 := by
  unfold rawReadBlock
  split
  · exact .same
  · split
    · exact .same
    · exact .rawRead start count

theorem block_rawWrite (tag : Byte) (start : Nat) (words : List Word) :
    Block c s (rawWriteBlock tag start words s).1 := by
  unfold rawWriteBlock
  split
  · exact .same
  · split
    · exact .same
    · split
      · exact .same
      next held =>
        split
        · exact .same
        · exact .rawWrite _ _ (by simpa using held)

end

/-! ### The events -/

section
variable {c : Instr} {s t : State}

theorem settles_loadComplete (h : exec .loadComplete s = .next t) : Settles c s t := by
  have run : exec .loadComplete s = execLoadComplete s := rfl
  rw [run, execLoadComplete] at h
  split at h
  next loading => exact .of_event h (.load loading)
  · exact .of_finish h .same
  · exact .of_finish h .same
  · exact .of_finish h .same

theorem settles_writeRequest {bs : List Byte} (h : exec (.writeRequest bs) s = .next t) : Settles c s t := by
  have run : exec (.writeRequest bs) s = execWriteRequest bs s := rfl
  rw [run, execWriteRequest] at h
  split at h
  next body _ =>
    have refused : ∀ code, CtlOnly s (useTag body (placeResponse (requestType body)
        (requestTag (clockOut (statusByte s :: zeros bs.length) s) body) code []
        (acceptRequest body false (clockOut (statusByte s :: zeros bs.length) s)))) ∧
        SlotKept s (useTag body (placeResponse (requestType body)
        (requestTag (clockOut (statusByte s :: zeros bs.length) s) body) code []
        (acceptRequest body false (clockOut (statusByte s :: zeros bs.length) s)))) := by
      intro code
      unfold useTag
      split
      · exact ⟨⟨rfl, rfl⟩, rfl, rfl⟩
      · exact ⟨⟨rfl, rfl⟩, rfl, rfl⟩
    suffices kept : CtlOnly s (decodeRequest body (clockOut (statusByte s :: zeros bs.length) s)) ∧
        SlotKept s (decodeRequest body (clockOut (statusByte s :: zeros bs.length) s)) from
      .of_ctlOnly h kept.1 kept.2
    unfold decodeRequest
    dsimp only
    split
    · exact refused _
    · split
      · exact refused _
      · exact ⟨⟨rfl, rfl⟩, rfl, rfl⟩
      · exact ⟨⟨rfl, rfl⟩, rfl, rfl⟩
  · exact .of_ctlOnly h ⟨rfl, rfl⟩ ⟨rfl, rfl⟩

theorem settles_readResponse {n : Nat} (h : exec (.readResponse n) s = .next t) : Settles c s t := by
  have run : exec (.readResponse n) s = execReadResponse n s := rfl
  rw [run, execReadResponse] at h
  split at h
  · exact .of_ctlOnly h ⟨rfl, rfl⟩ ⟨rfl, rfl⟩
  · exact .of_ctlOnly h ⟨rfl, rfl⟩ ⟨rfl, rfl⟩

theorem effect_silenceRequest (w : State) : Effect c w (silenceRequest w).1 := by
  unfold silenceRequest
  split
  next ready => exact .event (.silence ready)
  · exact .same

theorem effect_tripRequest (g : Nat) (w : State) : Effect c w (tripRequest g w).1 := by
  unfold tripRequest
  split
  · split
    next g _ =>
      split
      · exact .same
      next armed => exact .event (.trip g (.inl armed))
      next n debouncing => exact .event (.trip g (.inr ⟨n, debouncing⟩))
      · exact .same
      next n r recovering => exact .event (.tripAgain g n r recovering)
    · exact .same
  · exact .same

/-- An urgent request is taken with the control link as the transaction has left it. -/
theorem Settles.of_urgent {w : State} {x : State × UrgentResult} (h : finish s (urgentDone x) = .next t)
    (before : CtlOnly s w) (e : Effect c w x.1) : Settles c s t := by
  cases h
  exact ⟨w, x.1, _, before, e, .urgent x.2, .inr ⟨x.2, rfl⟩, rfl⟩

theorem settles_writeUrgent {bs : List Byte} (h : exec (.writeUrgent bs) s = .next t) : Settles c s t := by
  have run : exec (.writeUrgent bs) s = execWriteUrgent bs s := rfl
  rw [run, execWriteUrgent] at h
  split at h
  next body _ =>
    refine .of_urgent (w := acceptUrgent body (clockOut (statusByte s :: zeros bs.length) s)) h ⟨rfl, rfl⟩ ?_
    unfold takeUrgent
    split
    · exact effect_silenceRequest _
    · exact effect_tripRequest _ _
    · exact .same
  · exact .of_ctlOnly h ⟨rfl, rfl⟩ ⟨rfl, rfl⟩

theorem settles_supervisionExpiry {p : Pnl} (h : exec (.supervisionExpiry p) s = .next t) : Settles c s t := by
  have run : exec (.supervisionExpiry p) s = execSupervisionExpiry p s := rfl
  rw [run, execSupervisionExpiry] at h
  split at h
  next watched =>
    rw [Bool.and_eq_true] at watched
    exact .of_event h (.linkLost p watched.1)
  · exact .of_finish h .same

theorem settles_feedReport {w : Word} (h : exec (.feedReport w) s = .next t) : Settles c s t := by
  have run : exec (.feedReport w) s = execFeedReport w s := rfl
  rw [run, execFeedReport] at h
  split at h
  next d _ => exact .of_event h (.report d _)
  · exact .of_finish h .same

theorem effect_thresholdExpiry (k : KeyId) : Effect c s (thresholdExpiry k s) := by
  unfold thresholdExpiry
  split
  next n timing => exact .event (.threshold k n timing)
  · exact .same

theorem effect_latchLimitExpiry (k : KeyId) : Effect c s (latchLimitExpiry k s) := by
  unfold latchLimitExpiry
  split
  next n latched => exact .event (.limit k n latched)
  · exact .same

theorem effect_debounceExpiry (g : Gid) : Effect c s (debounceExpiry g s) := by
  unfold debounceExpiry
  split
  next n debouncing => exact .event (.trip g (.inr ⟨n, debouncing⟩))
  · exact .same

theorem effect_recoveryExpiry (g : Gid) : Effect c s (recoveryExpiry g s) := by
  unfold recoveryExpiry
  split
  next n r recovering => exact .event (.restore g n r recovering)
  · exact .same

end

/-! ### Every command -/

/-- A panel session's own request passes an UP link alone, unless a QUIESCING one takes it. -/
theorem up_of_gate {s : State} {o : Origin} {k : ReqKind} {codes : Bool} (h : gate s o k codes = .pass)
    (panel : k.panelOnly = true) (hello : k ≠ .hello) :
    ∃ p, o = .panel p ∧ (s.link p).state.session = true ∧ ((s.link p).state = .up ∨ k.takenQuiescing = true) := by
  cases o with
  | panel p => exact ⟨p, rfl, (panelGate_pass h).resolve_left hello⟩
  | ctl =>
    rw [(controlGate_pass h).1] at panel
    cases panel

/-- What a request's block does, wherever its link passes the request. -/
theorem Settles.of_block {c : Instr} {k : ReqKind} {o : Origin} {tag : Byte} {codes : Bool}
    {block : State → State × Answer} {s t : State} (h : serve k o tag codes block s = .next t)
    (hello : k ≠ .hello) (status : k ≠ .readStatus) (e : Block c s (block s).1) : Settles c s t :=
  .of_serve h fun passed => .block (open_of_gate passed hello status) e

/-- A request of a panel's session, which its block takes from a link in session alone. -/
theorem Settles.of_panelBlock {c : Instr} {k : ReqKind} {o : Origin} {tag : Byte} {codes : Bool}
    {block : State → State × Answer} {s t : State} (h : serve k o tag codes block s = .next t)
    (panel : k.panelOnly = true) (hello : k ≠ .hello)
    (e : ∀ p, o = .panel p → (s.link p).state.session = true →
      ((s.link p).state = .up ∨ k.takenQuiescing = true) → Block c s (block s).1) : Settles c s t := by
  refine .of_serve h fun passed => ?_
  obtain ⟨p, origin, session, up⟩ := up_of_gate passed panel hello
  exact .block (.inr ⟨p, session⟩) (e p origin session up)

/-- Every command is a start or settles one effect with one answer. -/
theorem exec_cases {c : Instr} {s t : State} (h : exec c s = .next t) :
    (∃ cause, t = startUp cause s) ∨ Settles c s t := by
  cases c with
  | powerOn => cases h; exact .inl ⟨.power, rfl⟩
  | lineReset => cases h; exact .inl ⟨.line, rfl⟩
  | loadComplete => exact .inr (settles_loadComplete h)
  | status code extra => exact .inr (.of_ctlOnly h ⟨rfl, rfl⟩ ⟨rfl, rfl⟩)
  | writeRequest bs => exact .inr (settles_writeRequest h)
  | readResponse n => exact .inr (settles_readResponse h)
  | writeUrgent bs => exact .inr (settles_writeUrgent h)
  | frameReceived p bs => exact .inr (.of_event h (.bytes p bs))
  | interByteTimeout p => exact .inr (.of_event h (.byteTimeout p))
  | frameSent p => exact .inr (.of_event h (.frameSent p))
  | hello o tag =>
    refine .inr (.of_serve h fun _ => ?_)
    by_cases ready : s.ctl.ready = true
    · exact .block (.inl ready) (block_hello o)
    · have none : (helloBlock o s).1 = s := by cases o <;> simp [helloBlock, ready, refuseWith]
      rw [none]
      exact .same
  | bye o tag => exact .inr (.of_block h (by decide) (by decide) (block_bye o))
  | ping o tag => exact .inr (.of_block h (by decide) (by decide) .same)
  | subscribe o tag classes =>
    refine .inr (.of_panelBlock h rfl (by decide) fun p origin _ up => ?_)
    subst origin
    exact block_subscribe tag (up.resolve_right (by decide)) rfl
  | hold o tag time =>
    refine .inr (.of_panelBlock h rfl (by decide) fun p origin _ up => ?_)
    subst origin
    exact block_hold (up.resolve_right (by decide)) time
  | resume o tag =>
    refine .inr (.of_panelBlock h rfl (by decide) fun p origin _ up => ?_)
    subst origin
    exact block_resume (up.resolve_right (by decide))
  | holdTimerExpiry p => exact .inr (.of_event h (.holdEnds p))
  | supervisionExpiry p => exact .inr (settles_supervisionExpiry h)
  | route o tag d x => exact .inr (.of_block h (by decide) (by decide) (block_route o d x))
  | lock o tag d => exact .inr (.of_block h (by decide) (by decide) (block_lock o .lock d))
  | protect o tag d => exact .inr (.of_block h (by decide) (by decide) (block_lock o .protect d))
  | unlock o tag d => exact .inr (.of_block h (by decide) (by decide) (block_unlock o d))
  | forceUnlock o tag d => exact .inr (.of_block h (by decide) (by decide) (block_forceUnlock d))
  | defineDestination o tag d cls index home =>
    exact .inr (.of_block h (by decide) (by decide) (block_defineDestination d cls index home))
  | queryRoute o tag d =>
    refine .inr (.of_block h (by decide) (by decide) ?_)
    unfold queryRouteBlock
    split <;> exact .same
  | salvo o tag raw => exact .inr (.of_block h (by decide) (by decide) (block_salvo o tag raw))
  | cancelSalvo o tag salvoTag => exact .inr (.of_block h (by decide) (by decide) (block_cancelSalvo o salvoTag))
  | querySalvos o tag index =>
    refine .inr (.of_block h (by decide) (by decide) ?_)
    unfold querySalvosBlock
    split <;> exact .same
  | savePreset o tag preset dests =>
    exact .inr (.of_block h (by decide) (by decide) (block_savePreset o tag preset dests))
  | clearPreset o tag preset => exact .inr (.of_block h (by decide) (by decide) (block_clearPreset o tag preset))
  | recallPreset o tag preset => exact .inr (.of_block h (by decide) (by decide) (block_recall o tag preset))
  | storeWordReady => exact .inr (.of_event h .wordReady)
  | recallReadComplete => exact .inr (.of_event h .readDone)
  | referencePulse => exact .inr (.of_event h .pulse)
  | internalFrameTimerExpiry => exact .inr (.of_event h .frameExpiry)
  | commandWord => exact .inr (.of_event h .command)
  | burstAbandon => exact .inr (.of_event h .abandon)
  | feedReport w => exact .inr (settles_feedReport h)
  | confirmationTimerExpiry d => exact .inr (.of_event h (.confirm d))
  | matrixRefresh o tag => exact .inr (.of_block h (by decide) (by decide) .matrix)
  | flashTimerExpiry => exact .inr (.of_event h .flash)
  | busTally o tag program preview => exact .inr (.of_block h (by decide) (by decide) (.record _ _ _))
  | setSwitcher o tag link source =>
    exact .inr (.of_block h (by decide) (by decide) (block_setSwitcher link source))
  | clearSwitcherTally o tag => exact .inr (.of_block h (by decide) (by decide) (.record _ _ _))
  | defineTallyChannel o tag channel source =>
    exact .inr (.of_block h (by decide) (by decide) (block_defineTallyChannel channel source))
  | queryTally o tag kind number =>
    refine .inr (.of_block h (by decide) (by decide) ?_)
    unfold queryTallyBlock
    split <;> (try split) <;> exact .same
  | defineStation o tag station mic =>
    exact .inr (.of_block h (by decide) (by decide) (block_defineStation station mic))
  | defineParty o tag party channel =>
    exact .inr (.of_block h (by decide) (by decide) (block_defineParty party channel))
  | defineKey o tag key assigned mode kind target call =>
    exact .inr (.of_block h (by decide) (by decide) (block_defineKey key assigned mode kind target call))
  | keyDown o tag key =>
    refine .inr (.of_panelBlock h rfl (by decide) fun p origin session _ => ?_)
    subst origin
    exact block_keyDown session key
  | keyUp o tag key =>
    refine .inr (.of_panelBlock h rfl (by decide) fun p origin session _ => ?_)
    subst origin
    exact block_keyUp session key
  | thresholdExpiry k => exact .inr (.of_finish h (effect_thresholdExpiry k))
  | latchLimitExpiry k => exact .inr (.of_finish h (effect_latchLimitExpiry k))
  | talkPortSend => exact .inr (.of_event h .talkSend)
  | allTalkOff => exact .inr (.of_urgent h (.refl s) (effect_silenceRequest s))
  | queryKey o tag kind number =>
    refine .inr (.of_block h (by decide) (by decide) ?_)
    unfold queryKeyBlock
    split <;> (try split) <;> exact .same
  | armGuard o tag g => exact .inr (.of_block h (by decide) (by decide) (block_arm g))
  | disarmGuard o tag g => exact .inr (.of_block h (by decide) (by decide) (block_disarm g))
  | debounceExpiry g => exact .inr (.of_finish h (effect_debounceExpiry g))
  | tripGuard g => exact .inr (.of_urgent h (.refl s) (effect_tripRequest g s))
  | recoveryExpiry g => exact .inr (.of_finish h (effect_recoveryExpiry g))
  | restoreGuard o tag g => exact .inr (.of_block h (by decide) (by decide) (block_restore g))
  | defineGuard o tag g line level debounce mode armed pairs set values =>
    exact .inr (.of_block h (by decide) (by decide)
      (block_defineGuard g line level debounce mode armed pairs set values))
  | queryGuard o tag g =>
    refine .inr (.of_block h (by decide) (by decide) ?_)
    unfold queryGuardBlock
    split <;> exact .same
  | inputSampleChange l high => exact .inr (.of_event h (.sample l high))
  | lineSet o tag lines values => exact .inr (.of_block h (by decide) (by decide) (block_lineSet lines values))
  | defineLine o tag line direction mode target latch =>
    exact .inr (.of_block h (by decide) (by decide) (block_defineLine line direction mode target latch))
  | queryLine o tag line =>
    refine .inr (.of_block h (by decide) (by decide) ?_)
    unfold queryLineBlock
    split <;> (try split) <;> exact .same
  | quiesceLink o tag link => exact .inr (.of_block h (by decide) (by decide) (block_quiesce tag link))
  | setTiming o tag rate threshold limit timeout =>
    exact .inr (.of_block h (by decide) (by decide) (block_setTiming rate threshold limit timeout))
  | readStatus o tag => exact .inr (.of_serve h fun _ => .same)
  | readAttention o tag => exact .inr (.of_block h (by decide) (by decide) (.attention _ _))
  | setAttentionMask o tag mask => exact .inr (.of_block h (by decide) (by decide) (.attention _ _))
  | restart o tag => exact .inr (.of_block h (by decide) (by decide) (.restart tag))
  | storeEnable o tag => exact .inr (.of_block h (by decide) (by decide) (.permit true))
  | storeDisable o tag => exact .inr (.of_block h (by decide) (by decide) (.permit false))
  | storeGrant o tag => exact .inr (.of_block h (by decide) (by decide) (block_grant tag))
  | storeRelease o tag => exact .inr (.of_block h (by decide) (by decide) block_release)
  | rawRead o tag start count => exact .inr (.of_block h (by decide) (by decide) (block_rawRead start count))
  | rawWrite o tag start words => exact .inr (.of_block h (by decide) (by decide) (block_rawWrite tag start words))

end Sys2Proof.Machine
end

section
/-! SUPPORT. What is kept along the store engine's work: a property that no change of the store breaks, and that keeps its
truth through outcomes, quiesce tests and recall salvos, holds after every event of the engine. -/

namespace Sys2Proof.Machine

/-- The steps from which the store engine's events are made keep `P`. -/
structure StoreKeeps (P : State → Prop) : Prop where
  store : ∀ {s : State} (x : StoreEngine), P s → P { s with store := x }
  response : ∀ {s : State} (typ tag : Byte) (code : Result) (ps : List Byte), P s → P (placeResponse typ tag code ps s)
  outcome : ∀ {s : State} (p : Pnl) (i : Item), P s → P (place p i s)
  test : ∀ {s : State} (p : Pnl), P s → P (testQuiesced p s)
  stage : ∀ {s : State} {o : Origin} {tag : Byte} {raw : List (Nat × Nat)} {ps : List (Dst × Src)}, P s →
    judgeSalvo s o tag raw = .stage ps → P (stageSalvo o tag true ps s)
  queue : ∀ {s : State} {o : Origin} {tag : Byte} {raw : List (Nat × Nat)} {ps : List (Dst × Src)}, P s →
    judgeSalvo s o tag raw = .wait ps → s.salvos.length < 4 → P (joinSalvos ⟨o, tag, ps, true⟩ s)

namespace StoreKeeps

variable {P : State → Prop} (keeps : StoreKeeps P)
include keeps

theorem firstOutcome {s : State} (h : P s) (op : StoreOp) (code : Result) (ended : Bool) (pair : Option Nat) :
    P (firstOutcome op code ended pair s) := by
  unfold Machine.firstOutcome
  split
  next p origin =>
    unfold Machine.outcome
    rw [origin]
    dsimp only
    split
    · exact keeps.outcome _ _ h
    · exact h
  · exact keeps.response _ _ _ _ h

theorem tellLink {s : State} (h : P s) (o : Origin) : P (tellLink o s) := by
  cases o with
  | panel p => exact keeps.test p h
  | ctl => exact h

theorem startOps (ops : List StoreOp) {s : State} (h : P s) : P (startOps ops s) := by
  induction ops generalizing s with
  | nil => exact keeps.store _ h
  | cons op rest ih =>
    have taken : P { s with store := { s.store with engine := .idle, queue := rest } } := keeps.store _ h
    have writes : P (if s.store.permit then
        sendPort [.writeEnable, .writeWord op.base emptyHeader]
          (({ s with store := { s.store with engine := .idle, queue := rest } }.setEngine
            (.busy (.write op (op.base, emptyHeader) op.moreWrites false) none)).setLatch true)
        else Machine.startOps rest (Machine.tellLink op.orig (Machine.firstOutcome op .storeLocked true none
          { s with store := { s.store with engine := .idle, queue := rest } }))) := by
      split
      · exact keeps.store _ (keeps.store _ (keeps.store _ taken))
      · exact ih (keeps.tellLink (keeps.firstOutcome taken _ _ _ _) _)
    unfold Machine.startOps
    cases work : op.work with
    | recallPreset => exact keeps.store _ (keeps.store _ taken)
    | save ps => exact writes
    | clear => exact writes

theorem joinStore {s : State} (h : P s) (op : StoreOp) : P (joinStore op s) := by
  unfold Machine.joinStore
  split
  · exact keeps.startOps _ (keeps.store _ h)
  · exact keeps.store _ h

theorem afterOp {s : State} (h : P s) (wanted : Option Byte) : P (afterOp wanted s) := by
  cases wanted with
  | some tag => exact keeps.response _ _ _ _ (keeps.store _ h)
  | none => exact keeps.startOps _ h

theorem endOp {s : State} (h : P s) (op : StoreOp) (marked : Bool) (wanted : Option Byte) :
    P (endOp op marked wanted s) := by
  have idle : P (s.setEngine .idle) := keeps.store _ h
  unfold Machine.endOp
  refine keeps.afterOp ?_ wanted
  split
  · exact idle
  · exact keeps.tellLink idle _

theorem landWord {s : State} (h : P s) (w : Nat × Word) : P (landWord w s) := keeps.store _ (keeps.store _ h)

theorem closeSequence {s : State} (h : P s) : P (closeSequence s) := keeps.store _ (keeps.store _ h)

theorem wordReady {s : State} (h : P s) : P (wordReady s) := by
  unfold Machine.wordReady
  split
  next op first rest marked wanted _ =>
    have landed := keeps.landWord h first
    dsimp only
    split
    · exact keeps.store _ (keeps.store _ landed)
    · have closed := keeps.closeSequence landed
      refine keeps.endOp ?_ op marked wanted
      split
      · exact closed
      · exact keeps.firstOutcome closed _ _ _ _
  next w tag wanted _ =>
    exact keeps.afterOp (keeps.response _ _ _ _ (keeps.store _ (keeps.closeSequence (keeps.landWord h w)))) wanted
  next raw _ =>
    have landed := keeps.landWord h raw.first
    dsimp only
    split
    · exact keeps.store _ (keeps.store _ landed)
    · exact keeps.response _ _ _ _ (keeps.closeSequence (keeps.store _ landed))
  · exact h

theorem submitRecall {s : State} (h : P s) (op : StoreOp) (raw : List (Nat × Nat)) : P (submitRecall op raw s) := by
  unfold Machine.submitRecall
  split
  · exact keeps.firstOutcome h _ _ _ _
  next ps verdict =>
    split
    · exact keeps.firstOutcome h _ _ _ _
    next room =>
      rw [salvosFull_iff] at room
      split
      · exact keeps.firstOutcome h _ _ _ _
      · exact keeps.firstOutcome (keeps.queue h verdict (by omega)) _ _ _ _
  next ps verdict => exact keeps.firstOutcome (keeps.stage h verdict) _ _ _ _

theorem recallResult {s : State} (h : P s) (op : StoreOp) : P (recallResult op s) := by
  unfold Machine.recallResult
  split
  · split
    · exact keeps.submitRecall h _ _
    · exact keeps.firstOutcome h _ _ _ _
  · exact keeps.firstOutcome h _ _ _ _

theorem readDone {s : State} (h : P s) : P (readDone s) := by
  unfold Machine.readDone
  split
  next op marked wanted _ =>
    have opened : P (openPort s) := keeps.store _ h
    refine keeps.endOp ?_ op marked wanted
    split
    · exact opened
    · exact keeps.recallResult opened op
  · exact h

end StoreKeeps

end Sys2Proof.Machine
end

section
/-! SUPPORT. The records of the links: which operations touch the replies alone, which leave a session as it stands, and
that settling keeps a lawful link lawful; from that the obligations O52 and O59. -/

namespace Sys2Proof.Machine

/-! ### Replies alone -/

/-- From `s` to `t` the links differ in their replies alone. -/
structure RepliesOnly (s t : State) : Prop where
  link : ∀ p, t.link p = { s.link p with replies := (t.link p).replies }

theorem RepliesOnly.of_links {s t : State} (h : t.links = s.links) : RepliesOnly s t :=
  ⟨fun p => by rw [link_congr h]⟩

theorem RepliesOnly.trans {s t u : State} (st : RepliesOnly s t) (tu : RepliesOnly t u) : RepliesOnly s u :=
  ⟨fun p => by rw [tu.link p, st.link p]⟩

theorem repliesOnly_foldl {α : Type} {f : State → α → State} (h : ∀ s a, RepliesOnly s (f s a)) (l : List α)
    (s : State) : RepliesOnly s (l.foldl f s) := by
  induction l generalizing s with
  | nil => exact .of_links rfl
  | cons a l ih => exact (h s a).trans (ih (f s a))

theorem repliesOnly_place (p : Pnl) (i : Item) (s : State) : RepliesOnly s (place p i s) := by
  refine ⟨fun q => ?_⟩
  by_cases same : p = q
  · subst same; simp [place]
  · rw [place_link_ne p q i s same]

theorem repliesOnly_outcome (o : Origin) (kind : OutcomeKind) (tag : Byte) (code : Result) (ended : Bool)
    (detail : Byte) (s : State) : RepliesOnly s (outcome o kind tag code ended detail s) := by
  unfold outcome
  split
  · split
    · exact repliesOnly_place _ _ s
    · exact .of_links rfl
  · exact .of_links rfl

theorem repliesOnly_requeue (x : PendingSalvo) (s : State) : RepliesOnly s (requeue x s) := by
  have joined : RepliesOnly s (joinSalvos x s) := .of_links rfl
  unfold requeue
  dsimp only
  split
  · split
    · split
      · exact repliesOnly_outcome ..
      · exact joined.trans (repliesOnly_outcome ..)
    · exact repliesOnly_outcome ..
    · exact .of_links rfl
    · exact .of_links rfl
  · split
    · exact .of_links rfl
    · exact joined

theorem repliesOnly_unstageAt (s : State) (d : Dst) : RepliesOnly s (unstageAt s d) := by
  unfold unstageAt
  split
  next m _ => exact (RepliesOnly.of_links rfl : RepliesOnly s (removeSalvo m s)).trans (repliesOnly_requeue _ _)
  · exact .of_links rfl

theorem repliesOnly_unstageSalvos (ds : List Dst) (s : State) : RepliesOnly s (unstageSalvos ds s) :=
  repliesOnly_foldl repliesOnly_unstageAt _ s

theorem repliesOnly_trip (g : Gid) (s : State) : RepliesOnly s (trip g s) := by
  unfold trip
  dsimp only
  have unstaged := repliesOnly_unstageSalvos ((s.guard g).defn.fallback.map Prod.fst) s
  have held := repliesOnly_foldl (f := holdPair g) (fun _ _ => .of_links rfl) (s.guard g).defn.fallback
    (unstageSalvos ((s.guard g).defn.fallback.map Prod.fst) s)
  exact (unstaged.trans held).trans (.of_links rfl)

theorem repliesOnly_stageSalvo (o : Origin) (tag : Byte) (r : Bool) (ps : List (Dst × Src)) (s : State) :
    RepliesOnly s (stageSalvo o tag r ps s) := .of_links (by simp)

theorem repliesOnly_examine (xs : List PendingSalvo) (s : State) : RepliesOnly s (examine xs s).1 := by
  induction xs generalizing s with
  | nil => exact .of_links rfl
  | cons x xs ih =>
    unfold examine
    split
    · exact ih s
    · dsimp only
      split
      · exact (repliesOnly_outcome ..).trans (ih _)
      · split
        · exact (repliesOnly_outcome ..).trans (ih _)
        · exact ((repliesOnly_stageSalvo ..).trans (repliesOnly_outcome ..)).trans (ih _)

theorem repliesOnly_examineQueue (s : State) : RepliesOnly s (examineQueue s) :=
  (repliesOnly_examine s.salvos s).trans (.of_links rfl)

theorem repliesOnly_restore (g : Gid) (r : List Src) (s : State) : RepliesOnly s (restore g r s) := by
  unfold restore
  dsimp only
  refine (RepliesOnly.of_links ?_).trans ((repliesOnly_examineQueue _).trans (.of_links rfl))
  simp

theorem repliesOnly_dropSalvos (p : Pnl) (s : State) : RepliesOnly s (dropSalvos p s) := by
  unfold dropSalvos
  dsimp only
  have dropped : RepliesOnly s { s with salvos := s.salvos.filter (·.orig != .panel p) } := .of_links rfl
  exact dropped.trans
    (repliesOnly_foldl (f := fun t (x : PendingSalvo) => outcome (.panel p) (salvoKind x.isRecall) x.tag .dropped true 255 t)
      (fun _ _ => repliesOnly_outcome ..) _ _)

/-! ### Sessions as they stand -/

/-- The session of a link stands as it did, but that references may have left its change set. -/
structure Link.Follows (l m : Link) : Prop where
  state : m.state = l.state
  watched : l.supervision.isSome = l.state.session → m.supervision.isSome = m.state.session
  subs : m.subs = l.subs
  hold : m.hold.isSome = l.hold.isSome
  changes : m.changes.Sublist l.changes

theorem Link.Follows.refl (l : Link) : l.Follows l := ⟨rfl, id, rfl, rfl, .refl _⟩

theorem Link.Follows.trans {l m n : Link} (lm : l.Follows m) (mn : m.Follows n) : l.Follows n :=
  ⟨mn.state.trans lm.state, mn.watched ∘ lm.watched, mn.subs.trans lm.subs, mn.hold.trans lm.hold,
    mn.changes.trans lm.changes⟩

/-- From `s` to `t` every session stands as it did. -/
structure SessionsFollow (s t : State) : Prop where
  link : ∀ p, (s.link p).Follows (t.link p)

theorem SessionsFollow.refl (s : State) : SessionsFollow s s := ⟨fun _ => .refl _⟩

theorem SessionsFollow.trans {s t u : State} (st : SessionsFollow s t) (tu : SessionsFollow t u) :
    SessionsFollow s u := ⟨fun p => (st.link p).trans (tu.link p)⟩

theorem RepliesOnly.follow {s t : State} (h : RepliesOnly s t) : SessionsFollow s t := ⟨fun p => by
  rw [h.link p]
  exact ⟨rfl, id, rfl, rfl, .refl _⟩⟩

theorem SessionsFollow.of_links {s t : State} (h : t.links = s.links) : SessionsFollow s t :=
  (RepliesOnly.of_links h).follow

theorem SessionsFollow.setLink {s : State} {p : Pnl} {l : Link} (h : (s.link p).Follows l) :
    SessionsFollow s (s.setLink p l) := ⟨fun q => by
  by_cases same : p = q
  · subst same; simpa using h
  · simpa [same] using Link.Follows.refl _⟩

theorem follows_nextFrame (v : State) (p : Pnl) (l : Link) : l.Follows (nextFrame v p l) := by
  unfold nextFrame
  split
  · exact ⟨rfl, id, rfl, rfl, .refl _⟩
  · split
    · exact ⟨rfl, id, rfl, rfl, .refl _⟩
    · split
      next r rest changes =>
        split
        · refine ⟨rfl, id, rfl, rfl, ?_⟩
          rw [changes]
          exact List.sublist_cons_self r rest
        · exact .refl l
      · exact .refl l

theorem follows_transmitLink (v : State) (p : Pnl) : (v.link p).Follows (transmitLink v p) := by
  unfold transmitLink
  split
  · exact .refl _
  · exact follows_nextFrame v p _

theorem sessionsFollow_transmit (s : State) : SessionsFollow s (transmit s) := ⟨fun p => by
  have link : (transmit s).link p = transmitLink s p := Tab.at_tabOf _ p
  rw [link]
  exact follows_transmitLink s p⟩

theorem sessionsFollow_restartWatch (p : Pnl) (s : State) : SessionsFollow s (restartWatch p s) := by
  unfold restartWatch
  split
  next session => exact .setLink ⟨rfl, fun _ => session.symm, rfl, rfl, .refl _⟩
  · exact .refl s

theorem sessionsFollow_takeFrame (p : Pnl) (body : List Byte) (s : State) : SessionsFollow s (takeFrame p body s) := by
  unfold takeFrame
  split
  next typ tag ps =>
    refine (sessionsFollow_restartWatch p s).trans ?_
    generalize restartWatch p s = w
    have refused : ∀ code, SessionsFollow w (holdRefused p (typ :: tag :: ps) typ tag code w) := fun code =>
      .setLink ⟨rfl, id, rfl, rfl, .refl _⟩
    dsimp only
    split
    · unfold offerFrame
      split
      · split
        · exact refused _
        · exact .refl w
      · split
        · exact .refl w
        · exact refused _
        · exact .setLink ⟨rfl, id, rfl, rfl, .refl _⟩
    · unfold offerBusy
      split
      · exact .setLink ⟨rfl, id, rfl, rfl, .refl _⟩
      · exact .refl w
  · exact .refl s

theorem sessionsFollow_setAssembling (p : Pnl) (bs : List Byte) (s : State) :
    SessionsFollow s (setAssembling p bs s) := .setLink ⟨rfl, id, rfl, rfl, .refl _⟩

theorem sessionsFollow_takeByte (p : Pnl) (s : State) (b : Byte) : SessionsFollow s (takeByte p s b) := by
  unfold takeByte
  split
  · split
    · exact sessionsFollow_setAssembling ..
    · exact .refl s
  · split
    · exact sessionsFollow_setAssembling ..
    · exact sessionsFollow_setAssembling ..
  · split
    · unfold endFrame
      dsimp only
      split
      · exact ((sessionsFollow_setAssembling p [] s).trans (sessionsFollow_takeFrame ..)).trans
          (sessionsFollow_transmit _)
      · exact sessionsFollow_setAssembling ..
    · exact sessionsFollow_setAssembling ..

theorem sessionsFollow_takeBytes (p : Pnl) (bs : List Byte) (s : State) :
    SessionsFollow s (bs.foldl (takeByte p) s) := by
  induction bs generalizing s with
  | nil => exact .refl s
  | cons b bs ih => exact (sessionsFollow_takeByte p s b).trans (ih _)

theorem sessionsFollow_frameEnd (p : Pnl) (s : State) : SessionsFollow s (frameEnd p s) := by
  unfold frameEnd
  split
  · exact .setLink ⟨rfl, id, rfl, rfl, .refl _⟩
  · exact .refl s

/-- No answer touches a session. -/
theorem Answered.follow {u v : State} (h : Answered u v) : SessionsFollow u v := by
  cases h with
  | nothing => exact .refl u
  | reply o typ tag code ps =>
    cases o with
    | panel p => exact .setLink ⟨rfl, id, rfl, rfl, .refl _⟩
    | ctl => exact .of_links rfl
  | later typ tag => exact .of_links rfl
  | discard o typ tag =>
    unfold discardHeld
    split
    · split
      · exact .setLink ⟨rfl, id, rfl, rfl, .refl _⟩
      · exact .refl u
    · exact .refl u
  | urgent r => exact .of_links rfl

end Sys2Proof.Machine
end

section
/-! SUPPORT. A step takes one command, or time passes: how a law is carried through a step, and the obligations O1 and
O2. -/

namespace Sys2Proof.Machine

/-! ### Steps -/

/-- From `s` to `t` the records of the links beside their states, the control link beside READY, the count of free values
and the waiting commands alone may differ. -/
structure TrafficOnly (s t : State) : Prop where
  rest : t = { s with links := t.links, ctl := t.ctl, free := t.free, pending := t.pending }
  ready : t.ctl.ready = s.ctl.ready
  state : ∀ p, (t.link p).state = (s.link p).state

theorem CtlOnly.traffic {s w : State} (h : CtlOnly s w) : TrafficOnly s w where
  rest := by
    obtain ⟨-, same⟩ := h
    rw [same]
  ready := h.1
  state p := by
    have same : w.links = s.links := by rw [h.2]
    rw [link_congr same p]

theorem Answered.traffic {u v : State} (h : Answered u v) : TrafficOnly u v where
  rest := by
    cases h with
    | nothing => rfl
    | reply o typ tag code ps => cases o <;> rfl
    | later typ tag => rfl
    | discard o typ tag =>
      cases o with
      | panel p => unfold discardHeld; dsimp only; split <;> rfl
      | ctl => rfl
    | urgent r => rfl
  ready := by
    cases h with
    | nothing => rfl
    | reply o typ tag code ps => cases o <;> rfl
    | later typ tag => rfl
    | discard o typ tag =>
      cases o with
      | panel p => unfold discardHeld; dsimp only; split <;> rfl
      | ctl => rfl
    | urgent r => rfl
  state p := (h.follow.link p).state

theorem trafficOnly_settle (s u : State) : TrafficOnly u (settle s u) where
  rest := settle_eq s u
  ready := by simp
  state p := settle_link_state s u p

/-- What a step does: a command is taken, with the commands behind it set apart, or time passes. -/
theorem step_cases {s t : State} (h : step s = .next t) :
    t = tick s ∨ ∃ rest c, exec c { s with pending := rest } = .next t := by
  unfold step at h
  split at h
  next c rest _ => exact .inr ⟨rest, c, h⟩
  next empty =>
    unfold idleStep at h
    split at h
    next c _ => exact .inr ⟨s.pending, c, h⟩
    next =>
      cases h
      exact .inl rfl

/-- A law that the traffic does not touch, and that time, the starts and every effect keep, is kept by every step. -/
theorem step_keeps {P : State → Prop} (traffic : ∀ {s t}, TrafficOnly s t → P s → P t) (time : ∀ {s}, P s → P (tick s))
    (start : ∀ {s} cause, P s → P (startUp cause s)) (effect : ∀ {c s u}, P s → Effect c s u → P u) {s t : State}
    (law : P s) (h : step s = .next t) : P t := by
  rcases step_cases h with rfl | ⟨rest, c, run⟩
  · exact time law
  · have behind : P { s with pending := rest } := traffic ⟨rfl, rfl, fun _ => rfl⟩ law
    rcases exec_cases run with ⟨cause, rfl⟩ | ⟨w, u, v, before, happens, answered, -, rfl⟩
    · exact start cause behind
    · exact traffic (trafficOnly_settle _ _) (traffic answered.traffic (effect (traffic before.traffic behind) happens))

/-! ### O1 -/

theorem waitingRequest_of_body {s : State} {body : List Byte} (h : s.ctl.request = some ⟨body, true⟩) :
    waitingRequest s = decodeBody .ctl body := by
  unfold waitingRequest
  rw [h]

/-- What the held buffer of a link offers. -/
def heldRequest (s : State) (p : Pnl) : Option Instr :=
  match (s.link p).held with
  | some ⟨body, true⟩ => decodeBody (.panel p) body
  | _ => none

theorem waitingRequest_of_no_body {s : State} (h : ∀ body, s.ctl.request ≠ some ⟨body, true⟩) :
    waitingRequest s = (fins 8).findSome? (heldRequest s) := by
  unfold waitingRequest
  split
  next body request => exact absurd request (h body)
  next => rfl

theorem heldRequest_of_held {s : State} {p : Pnl} {body : List Byte} (h : (s.link p).held = some ⟨body, true⟩) :
    heldRequest s p = decodeBody (.panel p) body := by
  unfold heldRequest
  rw [h]

theorem heldRequest_of_none {s : State} {p : Pnl} (h : ∀ b, (s.link p).held ≠ some ⟨b, true⟩) :
    heldRequest s p = none := by
  unfold heldRequest
  split
  next body held => exact absurd held (h body)
  next => rfl

/-- The first index with an answer gives it. -/
theorem findSome_fins {α : Type} {n : Nat} {f : Fin n → Option α} {i : Fin n} {a : α} (found : f i = some a)
    (before : ∀ j, j < i → f j = none) : (fins n).findSome? f = some a := by
  have ordered : (fins n).Pairwise (· < ·) := List.pairwise_ofFn.mpr fun _ _ lt => lt
  obtain ⟨front, back, split⟩ := List.append_of_mem (show i ∈ fins n by simp)
  rw [split] at ordered ⊢
  have silent : front.findSome? f = none := List.findSome?_eq_none_iff.mpr fun j hj =>
    before j ((List.pairwise_append.mp ordered).2.2 j hj i (List.mem_cons_self ..))
  rw [List.findSome?_append, silent, Option.none_or, List.findSome?_cons, found]

theorem tick_entry (s : State) (d : Dst) : (tick s).entry d = tickEntry (s.entry d) := Tab.at_tabOf _ d

theorem tick_key (s : State) (k : KeyId) : (tick s).key k = tickKey (s.key k) := Tab.at_tabOf _ k

theorem tick_guard (s : State) (g : Gid) : (tick s).guard g = tickGuard (s.guard g) := Tab.at_tabOf _ g

theorem tick_link (s : State) (p : Pnl) : (tick s).link p = { s.link p with
    supervision := tickTimer (s.link p).supervision, hold := tickTimer (s.link p).hold } := Tab.at_tabOf _ p

theorem tickEntry_awaiting {e : Entry} {n : Nat} (h : e.confirmation = some (.awaiting n)) :
    tickEntry e = { e with confirmation := some (.awaiting (n - 1)) } := by
  unfold tickEntry
  rw [h]

theorem tickEntry_other {e : Entry} (h : ∀ n, e.confirmation ≠ some (.awaiting n)) : tickEntry e = e := by
  unfold tickEntry
  split
  next n waits => exact absurd waits (h n)
  next => rfl

theorem tickKey_defn (x : Key) : (tickKey x).defn = x.defn := by
  unfold tickKey
  split <;> rfl

theorem tickKey_timing {x : Key} {n : Option Nat} (h : x.state = .timing n) : (tickKey x).state = .timing (tickTimer n) := by
  unfold tickKey
  rw [h]

theorem tickKey_latched {x : Key} {n : Option Nat} (h : x.state = .latched n) :
    (tickKey x).state = .latched (tickTimer n) := by
  unfold tickKey
  rw [h]

theorem tickKey_other {x : Key} (h : ∀ n, x.state ≠ .timing (some n) ∧ x.state ≠ .latched (some n)) :
    (tickKey x).state = x.state := by
  unfold tickKey
  split
  next n timing =>
    cases n with
    | none => rw [timing]; rfl
    | some n => exact absurd timing (h n).1
  next n latched =>
    cases n with
    | none => rw [latched]; rfl
    | some n => exact absurd latched (h n).2
  next => rfl

theorem tickGuard_defn (x : Guard) : (tickGuard x).defn = x.defn := by
  unfold tickGuard
  split <;> rfl

theorem tickGuard_debouncing {x : Guard} {n : Nat} (h : x.state = .debouncing n) :
    (tickGuard x).state = .debouncing (n - 1) := by
  unfold tickGuard
  rw [h]

theorem tickGuard_recovering {x : Guard} {n : Nat} {r : List Src} (h : x.state = .recovering n r) :
    (tickGuard x).state = .recovering (n - 1) r := by
  unfold tickGuard
  rw [h]

theorem tickGuard_other {x : Guard} (h : ∀ n r, x.state ≠ .debouncing n ∧ x.state ≠ .recovering n r) :
    (tickGuard x).state = x.state := by
  unfold tickGuard
  split
  next n debouncing => exact absurd debouncing (h n []).1
  next n r recovering => exact absurd recovering (h n r).2
  next => rfl

/-- Settles O1: the queue and the waiting requests by the branches of `step`, the passing of time record by record. -/
theorem stepRunsTheFrontCommand : Obligations.StepRunsTheFrontCommand := by
  unfold Obligations.StepRunsTheFrontCommand
  refine ⟨fun c rest s front => ?_, fun c s empty waits => ?_, fun s empty idle => ?_, fun s => ⟨fun body => ?_, ?_⟩, ?_⟩
  · rw [step, front]
  · rw [step, empty]
    simp [idleStep, waits]
  · rw [step, empty]
    simp [idleStep, idle]
  · exact waitingRequest_of_body
  · intro none
    rw [waitingRequest_of_no_body none]
    refine ⟨fun p body c held decoded first => ?_, fun empty => ?_⟩
    · refine findSome_fins ((heldRequest_of_held held).trans decoded) fun q before => ?_
      exact heldRequest_of_none (first q before)
    · exact List.findSome?_eq_none_iff.mpr fun q _ => heldRequest_of_none (empty q)
  · rintro s _ rfl
    refine ⟨rfl, fun d => ?_, rfl, rfl, rfl, ?_, ?_, fun p => tick_link s p⟩
    · rw [tick_entry]
      exact ⟨fun n => tickEntry_awaiting, tickEntry_other⟩
    · rintro k _ rfl
      rw [tick_key]
      exact ⟨tickKey_defn _, fun n => tickKey_timing, fun n => tickKey_latched, tickKey_other⟩
    · rintro g _ rfl
      rw [tick_guard]
      exact ⟨tickGuard_defn _, fun n => tickGuard_debouncing, fun n r => tickGuard_recovering, tickGuard_other⟩

end Sys2Proof.Machine
end

section
/-! SUPPORT. Every command has a next state, and the waiting commands are its frame; the obligation O2. -/

namespace Sys2Proof.Machine

theorem event_pending {s u : State} (h : Event s u) : u.pending = s.pending := by
  cases h with
  | report d x => simp
  | confirm d => simp
  | trip g => simp
  | restore g n r => simp
  | sample l high => simp
  | load => simp
  | bytes p bs => simp
  | byteTimeout p => simp
  | frameSent p => simp
  | holdEnds p => simp
  | linkLost p => simp
  | wordReady => simp
  | readDone => simp
  | pulse => simp
  | frameExpiry => simp
  | command => simp
  | abandon => simp
  | flash => simp
  | threshold k n => simp
  | limit k n => simp
  | talkSend => simp
  | silence => simp
  | tripAgain g n r => simp

theorem block_pending {c : Instr} {s u : State} (h : Block c s u) : u.pending = s.pending := by
  cases h with
  | same => rfl
  | hello p => simp
  | quiesce p owed => simp
  | owe p owed => simp
  | subscribe p tag classes => simp
  | hold p t => simp
  | route o d x => simp
  | lock o kind d => simp
  | unlock d => simp
  | redefine d x => simp
  | stage o tag raw ps => simp
  | queue o tag raw ps => simp
  | cancel f => rfl
  | store op => simp
  | matrix => rfl
  | record program preview fresh => simp
  | switcher l x => simp
  | map ch x => simp
  | station p m => rfl
  | party y ch => rfl
  | keyDef k f => simp
  | keyDown k f => simp
  | keyUp k up => simp
  | arm g => simp
  | disarm g => simp
  | restore g r => simp
  | defineGuard g f => simp
  | latches lines values => simp
  | line l x => simp
  | attention a m => rfl
  | timing t => rfl
  | restart tag => rfl
  | permit on => rfl
  | grant => simp
  | want job w tag => simp
  | release => simp
  | releaseRaw raw => simp
  | rawRead start count => simp
  | rawWrite raw cs => simp

theorem effect_pending {c : Instr} {s u : State} (h : Effect c s u) : u.pending = s.pending := by
  cases h with
  | same => rfl
  | event h => exact event_pending h
  | block _ h => exact block_pending h

theorem answered_pending {u v : State} (h : Answered u v) : v.pending = u.pending := by
  cases h with
  | nothing => rfl
  | reply o typ tag code ps => simp
  | later typ tag => simp
  | discard o typ tag => simp
  | urgent r => simp

/-- No command touches the commands that wait behind it. -/
theorem exec_pending {c : Instr} {s t : State} (h : exec c s = .next t) : t.pending = s.pending := by
  rcases exec_cases h with ⟨cause, rfl⟩ | ⟨w, u, v, ⟨-, before⟩, happens, answered, -, rfl⟩
  · rfl
  · calc (settle s v).pending = v.pending := by simp
      _ = u.pending := answered_pending answered
      _ = w.pending := effect_pending happens
      _ = s.pending := by rw [before]

theorem exec_next (c : Instr) (s : State) : ∃ t, exec c s = .next t := by
  rcases request : requestHead c with _ | ⟨k, o, tag⟩
  · cases c with
    | powerOn => exact ⟨_, rfl⟩
    | lineReset => exact ⟨_, rfl⟩
    | loadComplete =>
      have run : exec .loadComplete s = execLoadComplete s := rfl
      rw [run, execLoadComplete]
      split <;> exact ⟨_, rfl⟩
    | status code extra => exact ⟨_, rfl⟩
    | writeRequest bs =>
      have run : exec (.writeRequest bs) s = execWriteRequest bs s := rfl
      rw [run, execWriteRequest]
      split <;> exact ⟨_, rfl⟩
    | readResponse n =>
      have run : exec (.readResponse n) s = execReadResponse n s := rfl
      rw [run, execReadResponse]
      split <;> exact ⟨_, rfl⟩
    | writeUrgent bs =>
      have run : exec (.writeUrgent bs) s = execWriteUrgent bs s := rfl
      rw [run, execWriteUrgent]
      split <;> exact ⟨_, rfl⟩
    | supervisionExpiry p =>
      have run : exec (.supervisionExpiry p) s = execSupervisionExpiry p s := rfl
      rw [run, execSupervisionExpiry]
      split <;> exact ⟨_, rfl⟩
    | feedReport w =>
      have run : exec (.feedReport w) s = execFeedReport w s := rfl
      rw [run, execFeedReport]
      split <;> exact ⟨_, rfl⟩
    | frameReceived p bs => exact ⟨_, rfl⟩
    | interByteTimeout p => exact ⟨_, rfl⟩
    | frameSent p => exact ⟨_, rfl⟩
    | holdTimerExpiry p => exact ⟨_, rfl⟩
    | storeWordReady => exact ⟨_, rfl⟩
    | recallReadComplete => exact ⟨_, rfl⟩
    | referencePulse => exact ⟨_, rfl⟩
    | internalFrameTimerExpiry => exact ⟨_, rfl⟩
    | commandWord => exact ⟨_, rfl⟩
    | burstAbandon => exact ⟨_, rfl⟩
    | confirmationTimerExpiry d => exact ⟨_, rfl⟩
    | flashTimerExpiry => exact ⟨_, rfl⟩
    | thresholdExpiry k => exact ⟨_, rfl⟩
    | latchLimitExpiry k => exact ⟨_, rfl⟩
    | talkPortSend => exact ⟨_, rfl⟩
    | allTalkOff => exact ⟨_, rfl⟩
    | debounceExpiry g => exact ⟨_, rfl⟩
    | tripGuard g => exact ⟨_, rfl⟩
    | recoveryExpiry g => exact ⟨_, rfl⟩
    | inputSampleChange l high => exact ⟨_, rfl⟩
    | _ => exact nomatch request
  · obtain ⟨block, run⟩ := exec_request request
    obtain ⟨u, served, -⟩ := serve_next k o tag (codesOk c) block s
    exact ⟨_, (run s).trans served⟩

/-! ### Events of what is not running -/

theorem becomes_of_idle {c : Instr} {s u : State} (run : exec c s = finish s u) (idle : u = s) : Becomes c s s :=
  becomes_of_finish (run.trans (by rw [idle]))

theorem execLoadComplete_idle {s : State} (h : s.store.engine ≠ .loading) : execLoadComplete s = finish s s := by
  unfold execLoadComplete
  split
  next loading => exact absurd loading h
  all_goals rfl

theorem wordReady_idle {s : State} (h : s.store.engine.inFlight = none) : wordReady s = s := by
  unfold wordReady
  split
  next op first rest marked wanted writing => rw [writing] at h; cases h
  next w tag wanted draining => rw [draining] at h; cases h
  next raw granted => rw [granted] at h; cases h
  next => rfl

theorem readDone_idle {s : State} (h : ∀ op marked wanted, s.store.engine ≠ .busy (.read op marked) wanted) :
    readDone s = s := by
  unfold readDone
  split
  next op marked wanted reading => exact absurd reading (h op marked wanted)
  next => rfl

theorem sendCommand_idle {s : State} (h : s.take.burst = none) : sendCommand s = s := by
  unfold sendCommand
  simp [h]

theorem abandon_idle {s : State} (h : s.take.burst = none) : abandon s = s := by
  unfold abandon
  simp [h]

theorem talkSend_idle {s : State} (h : s.talk.sendList = []) : talkSend s = s := by
  unfold talkSend
  rw [h]

theorem confirmExpiry_idle {s : State} {d : Dst} (h : ∀ n, (s.entry d).confirmation ≠ some (.awaiting n)) :
    confirmExpiry d s = s := by
  unfold confirmExpiry
  split
  next n waits => exact absurd waits (h n)
  next => rfl

theorem thresholdExpiry_idle {s : State} {k : KeyId} (h : ∀ n, (s.key k).state ≠ .timing (some n)) :
    thresholdExpiry k s = s := by
  unfold thresholdExpiry
  split
  next n timing => exact absurd timing (h n)
  next => rfl

theorem latchLimitExpiry_idle {s : State} {k : KeyId} (h : ∀ n, (s.key k).state ≠ .latched (some n)) :
    latchLimitExpiry k s = s := by
  unfold latchLimitExpiry
  split
  next n latched => exact absurd latched (h n)
  next => rfl

theorem debounceExpiry_idle {s : State} {g : Gid} (h : ∀ n, (s.guard g).state ≠ .debouncing n) :
    debounceExpiry g s = s := by
  unfold debounceExpiry
  split
  next n debouncing => exact absurd debouncing (h n)
  next => rfl

theorem recoveryExpiry_idle {s : State} {g : Gid} (h : ∀ n r, (s.guard g).state ≠ .recovering n r) :
    recoveryExpiry g s = s := by
  unfold recoveryExpiry
  split
  next n r recovering => exact absurd recovering (h n r)
  next => rfl

theorem execSupervisionExpiry_idle {s : State} {p : Pnl}
    (h : (s.link p).state.session = false ∨ (s.link p).supervision = none) :
    execSupervisionExpiry p s = finish s s := by
  have unwatched : ((s.link p).state.session && (s.link p).supervision.isSome) = false := by
    rcases h with ended | unwatched
    · rw [ended]; rfl
    · rw [unwatched]; simp
  unfold execSupervisionExpiry
  rw [unwatched]
  rfl

/-- Settles O2: every command finishes, its effect leaves the queue alone, and an event's effect has the test of what it
ends as its first branch. -/
theorem everyCommandLeavesANextState : Obligations.EveryCommandLeavesANextState := by
  unfold Obligations.EveryCommandLeavesANextState
  refine ⟨fun c s => ?_, fun s => ⟨fun h => ?_, fun h => ?_, fun h => ?_, fun h => ⟨?_, ?_⟩, fun h => ?_, fun d h => ?_,
    fun k h => ?_, fun k h => ?_, fun g h => ?_, fun g h => ?_, fun p h => ?_⟩⟩
  · obtain ⟨t, run⟩ := exec_next c s
    exact ⟨t, run, exec_pending run⟩
  · exact becomes_of_finish (execLoadComplete_idle h)
  · exact becomes_of_idle rfl (wordReady_idle h)
  · exact becomes_of_idle rfl (readDone_idle h)
  · exact becomes_of_idle rfl (sendCommand_idle h)
  · exact becomes_of_idle rfl (abandon_idle h)
  · exact becomes_of_idle rfl (talkSend_idle h)
  · exact becomes_of_idle rfl (confirmExpiry_idle h)
  · exact becomes_of_idle rfl (thresholdExpiry_idle h)
  · exact becomes_of_idle rfl (latchLimitExpiry_idle h)
  · exact becomes_of_idle rfl (debounceExpiry_idle h)
  · exact becomes_of_idle rfl (recoveryExpiry_idle h)
  · exact becomes_of_finish (execSupervisionExpiry_idle h)

end Sys2Proof.Machine
end

section
/-! SUPPORT. The laws of the link records, kept by every effect and by settling; the obligation O59. -/

namespace Sys2Proof.Machine

/-! ### Keys and links of the session operations -/

theorem refresh_links (s : State) : (refresh s).links = s.links := by simp

@[simp] theorem refresh_key (s : State) (k : KeyId) : (refresh s).key k = s.key k := key_congr (by simp) k

@[simp] theorem refresh_link (s : State) (p : Pnl) : (refresh s).link p = s.link p := link_congr (by simp) p

theorem key_linkDown (p : Pnl) (k : KeyId) (s : State) : (linkDown p s).key k =
    if stationOf k = p then { s.key k with state := .idle } else s.key k := by
  have moved : (linkDown p s).key k = (moveKeys (stationKeys p) (fun _ => .idle) s).key k :=
    key_congr (by simp [linkDown]) k
  rw [moved, key_moveKeys (nodup_stationKeys p)]
  exact if_congr mem_stationKeys rfl rfl

theorem links_linkDown (p : Pnl) (s : State) : (linkDown p s).links = s.links.put p (s.link p).cleared := by
  simp [linkDown, State.link]

theorem link_linkDown_same (p : Pnl) (s : State) : (linkDown p s).link p = (s.link p).cleared := by
  simp only [State.link, links_linkDown, Tab.at_put, if_true]

theorem link_linkDown_ne {p q : Pnl} (h : p ≠ q) (s : State) : (linkDown p s).link q = s.link q := by
  simp only [State.link, links_linkDown, Tab.at_put, if_neg h]

theorem quiesceDone_silent {s : State} {p : Pnl} (h : quiesceDone s p = true) {k : KeyId} (own : stationOf k = p) :
    (s.key k).state.talking = false := by
  have quiet : stationTalks s p = false := by
    simp only [quiesceDone, Bool.and_eq_true, Bool.not_eq_true'] at h
    exact h.1.2
  rw [stationTalks, List.any_eq_false] at quiet
  simpa using quiet k (mem_stationKeys.mpr own)

/-- The state of a link at the start of its quiesce, before the test whether it is over. -/
def quiesceStarted (p : Pnl) (owed : Option Byte) (s : State) : State :=
  refresh (dropSalvos p (moveKeys (stationKeys p) latchedOff
    (s.setLink p { s.link p with state := .quiescing, quiesceOwed := owed })))

theorem startQuiesce_eq (p : Pnl) (owed : Option Byte) (s : State) :
    startQuiesce p owed s = testQuiesced p (quiesceStarted p owed s) := rfl

theorem key_quiesceStarted (p : Pnl) (owed : Option Byte) (k : KeyId) (s : State) :
    (quiesceStarted p owed s).key k =
      if stationOf k = p then { s.key k with state := latchedOff (s.key k).state } else s.key k := by
  have moved : (quiesceStarted p owed s).key k = (moveKeys (stationKeys p) latchedOff
      (s.setLink p { s.link p with state := .quiescing, quiesceOwed := owed })).key k :=
    key_congr (by simp [quiesceStarted]) k
  rw [moved, key_moveKeys (nodup_stationKeys p)]
  simp only [key_setLink]
  exact if_congr mem_stationKeys rfl rfl

theorem repliesOnly_quiesceStarted (p : Pnl) (owed : Option Byte) (s : State) :
    RepliesOnly (s.setLink p { s.link p with state := .quiescing, quiesceOwed := owed }) (quiesceStarted p owed s) := by
  have moved : RepliesOnly (s.setLink p { s.link p with state := .quiescing, quiesceOwed := owed })
      (moveKeys (stationKeys p) latchedOff
        (s.setLink p { s.link p with state := .quiescing, quiesceOwed := owed })) := .of_links (by simp)
  exact (moved.trans (repliesOnly_dropSalvos p _)).trans (.of_links (refresh_links _))

/-! ### Lawful links -/

/-- A link record that meets its laws: watched exactly in session, with nothing to tell outside one, and a change set of
subscribed references, each once. -/
structure Link.Lawful (l : Link) : Prop where
  watched : l.supervision.isSome = l.state.session
  ended : l.state.session = false → l.subs = .none ∧ l.changes = [] ∧ l.hold = none
  once : l.changes.Nodup
  covered : ∀ r ∈ l.changes, l.subs.covers r = true

theorem Link.Lawful.follow {l m : Link} (h : l.Lawful) (f : l.Follows m) : m.Lawful where
  watched := f.watched h.watched
  ended gone := by
    rw [f.state] at gone
    obtain ⟨subs, changes, hold⟩ := h.ended gone
    have none := f.hold
    rw [hold] at none
    refine ⟨f.subs.trans subs, List.sublist_nil.mp (changes ▸ f.changes), ?_⟩
    simpa using none
  once := f.changes.nodup h.once
  covered r hr := f.subs ▸ h.covered r (f.changes.subset hr)

/-- The link records are lawful and keys talk only in session. -/
structure LinksLawful (s : State) : Prop where
  link : ∀ p, (s.link p).Lawful
  talk : TalkOnlyInSession s

theorem linksLawful_iff (s : State) :
    LinksLawful s ↔ SessionsWatched s ∧ TalkOnlyInSession s ∧ ChangeSetsLawful s := by
  constructor
  · intro h
    refine ⟨fun p => ⟨by rw [(h.link p).watched], (h.link p).ended⟩, h.talk, fun p => ?_⟩
    exact ⟨(h.link p).once, (h.link p).covered⟩
  · rintro ⟨watched, talk, changes⟩
    exact ⟨fun p => ⟨Bool.eq_iff_iff.mpr (watched p).1, (watched p).2, (changes p).1, (changes p).2⟩, talk⟩

/-- Sessions stand as they did and no key has begun to talk. -/
theorem LinksLawful.follow {s t : State} (h : LinksLawful s) (f : SessionsFollow s t)
    (quieter : ∀ k, (t.key k).state.talking = true → (s.key k).state.talking = true) : LinksLawful t where
  link p := (h.link p).follow (f.link p)
  talk k talks := by
    rw [(f.link _).state]
    exact h.talk k (quieter k talks)

theorem LinksLawful.follow_keys {s t : State} (h : LinksLawful s) (f : SessionsFollow s t)
    (keys : t.talk.keys = s.talk.keys) : LinksLawful t :=
  h.follow f fun k => by rw [key_congr keys k]; exact id

theorem LinksLawful.of_links {s t : State} (h : LinksLawful s) (links : t.links = s.links)
    (keys : t.talk.keys = s.talk.keys) : LinksLawful t := h.follow_keys (.of_links links) keys

/-- A new record for one link, lawful in itself and in session if a key of its station talks. -/
theorem LinksLawful.setLink {s : State} (h : LinksLawful s) {p : Pnl} {l : Link} (lawful : l.Lawful)
    (session : (s.link p).state.session = true → l.state.session = true) : LinksLawful (s.setLink p l) where
  link q := by
    by_cases same : p = q
    · subst same; simpa using lawful
    · simpa [same] using h.link q
  talk k talks := by
    have before := h.talk k (by simpa using talks)
    by_cases same : p = stationOf k
    · subst same; simpa using session before
    · simpa [same] using before

/-- A link's keys are silent in `t`, its record is lawful there, and the other links and keys are as they were. -/
theorem LinksLawful.endSession {s t : State} (h : LinksLawful s) {p : Pnl} (lawful : (t.link p).Lawful)
    (silent : ∀ k, stationOf k = p → (t.key k).state.talking = false) (links : ∀ q, p ≠ q → t.link q = s.link q)
    (keys : ∀ k, stationOf k ≠ p → t.key k = s.key k) : LinksLawful t where
  link q := by
    by_cases same : p = q
    · subst same; exact lawful
    · rw [links q same]; exact h.link q
  talk k talks := by
    by_cases own : stationOf k = p
    · rw [silent k own] at talks; cases talks
    · rw [links _ (Ne.symm own)]
      rw [keys k own] at talks
      exact h.talk k talks

theorem lawful_cleared (l : Link) : l.cleared.Lawful where
  watched := rfl
  ended _ := ⟨rfl, rfl, rfl⟩
  once := .nil
  covered _ h := absurd h List.not_mem_nil

theorem lawful_quiesced (l : Link) : l.quiesced.Lawful where
  watched := rfl
  ended _ := ⟨rfl, rfl, rfl⟩
  once := .nil
  covered _ h := absurd h List.not_mem_nil

theorem linksLawful_linkDown {s : State} (h : LinksLawful s) (p : Pnl) : LinksLawful (linkDown p s) := by
  refine h.endSession (p := p) ?_ (fun k own => ?_) (fun q ne => link_linkDown_ne ne s) fun k other => ?_
  · rw [link_linkDown_same]; exact lawful_cleared _
  · rw [key_linkDown, if_pos own]; rfl
  · rw [key_linkDown, if_neg other]

theorem clearingOff_talking (x : KeyState) : (clearingOff x).talking = x.talking := by cases x <;> rfl

theorem linksLawful_testQuiesced {s : State} (h : LinksLawful s) (p : Pnl) : LinksLawful (testQuiesced p s) := by
  unfold testQuiesced
  split
  next done =>
    refine h.endSession (p := p) ?_ (fun k own => ?_) (fun q ne => ?_) fun k other => ?_
    · rw [link_enterQuiesced, if_pos rfl]; exact lawful_quiesced _
    · rw [key_enterQuiesced, if_pos own]
      exact (clearingOff_talking _).trans (quiesceDone_silent done own)
    · rw [link_enterQuiesced, if_neg ne]
    · rw [key_enterQuiesced, if_neg other]
  · exact h

theorem latchedOff_talking {x : KeyState} (h : (latchedOff x).talking = true) : x.talking = true := by
  cases x with
  | latched n => cases h
  | _ => exact h

theorem linksLawful_startQuiesce {s : State} (h : LinksLawful s) {p : Pnl} (up : (s.link p).state = .up)
    (owed : Option Byte) : LinksLawful (startQuiesce p owed s) := by
  have lawful : Link.Lawful { s.link p with state := .quiescing, quiesceOwed := owed } := by
    have before := h.link p
    exact ⟨by rw [before.watched, up]; rfl, nofun, before.once, before.covered⟩
  have closing : LinksLawful (s.setLink p { s.link p with state := .quiescing, quiesceOwed := owed }) :=
    h.setLink lawful fun _ => rfl
  rw [startQuiesce_eq]
  refine linksLawful_testQuiesced (closing.follow (repliesOnly_quiesceStarted p owed s).follow fun k talks => ?_) p
  rw [key_quiesceStarted] at talks
  rw [key_setLink]
  split at talks
  · exact latchedOff_talking talks
  · exact talks

theorem linksLawful_foldl_testQuiesced {s : State} (h : LinksLawful s) (ps : List Pnl) :
    LinksLawful (ps.foldl (fun t p => testQuiesced p t) s) := by
  induction ps generalizing s with
  | nil => exact h
  | cons p ps ih => exact ih (linksLawful_testQuiesced h p)

theorem LinksLawful.refresh {s : State} (h : LinksLawful s) : LinksLawful (refresh s) :=
  h.of_links (by simp) (by simp)

theorem LinksLawful.moveKey {s : State} (h : LinksLawful s) {k : KeyId} {new : KeyState}
    (session : new.talking = true → (s.link (stationOf k)).state.session = true) : LinksLawful (moveKey k new s) where
  link p := by
    rw [link_congr (show (Machine.moveKey k new s).links = s.links by simp) p]
    exact h.link p
  talk j talks := by
    rw [key_moveKey] at talks
    rw [link_congr (show (Machine.moveKey k new s).links = s.links by simp) _]
    split at talks
    next same => subst same; exact session talks
    next => exact h.talk j talks

theorem linksLawful_silence {s : State} (h : LinksLawful s) : LinksLawful (silence s) := by
  refine LinksLawful.refresh (linksLawful_foldl_testQuiesced ?_ _)
  refine h.follow (.of_links (by simp)) fun k talks => ?_
  have off : ((talkSilenced s).key k).state.talking = true := talks
  rw [noneTalks_talkSilenced s k] at off
  cases off

theorem linksLawful_storeKeeps : StoreKeeps LinksLawful where
  store _ h := ⟨h.link, h.talk⟩
  response _ _ _ _ h := ⟨h.link, h.talk⟩
  outcome p i h := h.follow_keys (repliesOnly_place p i _).follow (by simp)
  test p h := linksLawful_testQuiesced h p
  stage h _ := h.of_links (by simp) (by simp)
  queue h _ _ := h.of_links (by simp) (by simp)

theorem key_install (c : Loaded) (s : State) (k : KeyId) :
    (install c s).key k = { s.key k with defn := c.keys.at k } := Tab.at_tabOf _ k

theorem state_key_endLoad (s : State) (k : KeyId) : ((endLoad s).key k).state = (s.key k).state := by
  have installed : ∀ c : Loaded, ((install c s).key k).state = (s.key k).state := fun c => by rw [key_install]
  unfold endLoad
  split
  next c _ =>
    have same : (enterReady (armAtStart (refresh (install c s)))).talk = (install c s).talk := by simp [enterReady]
    rw [key_congr (congrArg TalkEngine.keys same) k]
    exact installed c
  next =>
    have same : (enterReady (armAtStart (refresh (raise .configDefaulted (install Loaded.factory s))))).talk =
        (install Loaded.factory s).talk := by simp [enterReady]
    rw [key_congr (congrArg TalkEngine.keys same) k]
    exact installed _

theorem link_restartBlock (tag : Byte) (s : State) (p : Pnl) : (restartBlock tag s).1.link p = (s.link p).cleared := by
  have kept : (restartBlock tag s).1.links =
      (restartLinks (restartGuards (restartTalk (restartRoutes s)))).links := refresh_links _
  rw [link_congr kept p]
  exact Tab.at_tabOf _ p

theorem key_restartBlock (tag : Byte) (s : State) (k : KeyId) :
    (restartBlock tag s).1.key k = { s.key k with state := .idle } :=
  (refresh_key (restartLinks (restartGuards (restartTalk (restartRoutes s)))) k).trans (Tab.at_tabOf _ k)

theorem linksLawful_restartBlock (tag : Byte) (s : State) : LinksLawful (restartBlock tag s).1 where
  link p := by
    rw [link_restartBlock]
    exact lawful_cleared _
  talk k talks := by
    rw [key_restartBlock] at talks
    cases talks

/-! ### Change sets -/

theorem mem_addRefs {set new : List Ref} {r : Ref} : r ∈ addRefs set new ↔ r ∈ set ∨ r ∈ new := by
  obtain ⟨marked, added, -, fresh⟩ := addRefs_append set new
  rw [added, List.mem_append, fresh]
  tauto

theorem nodup_addRefs {set : List Ref} (new : List Ref) (once : set.Nodup) : (addRefs set new).Nodup := by
  unfold addRefs
  induction new generalizing set with
  | nil => exact once
  | cons r new ih =>
    rw [List.foldl_cons]
    refine ih ?_
    split
    · exact once
    next absent =>
      refine once.append (List.nodup_singleton r) fun x hx single => absent ?_
      rw [List.mem_singleton] at single
      subst single
      simpa using hx

theorem mem_newRefs {old new : Subs} {r : Ref} : r ∈ newRefs old new ↔ new.covers r = true ∧ old.covers r = false := by
  unfold newRefs
  obtain ⟨a, b, c⟩ := old
  obtain ⟨x, y, z⟩ := new
  cases r with
  | route d => cases a <;> cases x <;> simp [Subs.covers]
  | tally d => cases b <;> cases y <;> simp [Subs.covers]
  | key d => cases c <;> cases z <;> simp [Subs.covers]

theorem Link.Lawful.resubscribe {l : Link} (h : l.Lawful) (up : l.state.session = true) (new : Subs) :
    (resubscribe l new).Lawful where
  watched := h.watched
  ended gone := by rw [show (Machine.resubscribe l new).state = l.state from rfl, up] at gone; cases gone
  once := nodup_addRefs _ (h.once.filter _)
  covered r hr := by
    rcases mem_addRefs.mp hr with kept | added
    · exact (List.mem_filter.mp kept).2
    · exact (mem_newRefs.mp added).1

theorem Link.Lawful.marked {u : State} {p : Pnl} (h : (u.link p).Lawful) (s : State) : (markLink s u p).Lawful := by
  obtain ⟨marked, ⟨ranked, mem⟩, changes⟩ := changes_markLink s u p
  have same := markLink_eq s u p
  rw [changes] at same
  rw [same]
  have fresh : marked.Nodup := List.Nodup.of_map Ref.rank (ranked.imp fun lt => ne_of_lt lt)
  refine ⟨h.watched, fun gone => ?_, h.once.append fresh fun r set new => ((mem r).mp new).2.2.1 set, fun r hr => ?_⟩
  · have none : marked = [] := List.eq_nil_iff_forall_not_mem.mpr fun r new => by
      rw [((mem r).mp new).1] at gone
      cases gone
    obtain ⟨subs, changes, hold⟩ := h.ended gone
    exact ⟨subs, by simp [changes, none], hold⟩
  · rcases List.mem_append.mp hr with set | new
    · exact h.covered r set
    · exact ((mem r).mp new).2.1

theorem LinksLawful.settle {u : State} (h : LinksLawful u) (s : State) : LinksLawful (settle s u) where
  link p := by
    rw [link_settle]
    refine Link.Lawful.follow ?_ (follows_transmitLink (markAll s u) p)
    rw [link_markAll]
    exact (h.link p).marked s
  talk k talks := by
    rw [settle_link_state]
    rw [settle_key] at talks
    exact h.talk k talks

/-! ### What every effect keeps -/

theorem tickTimer_isSome (t : Option Nat) : (tickTimer t).isSome = t.isSome := by cases t <;> rfl

theorem tickKey_talking (x : Key) : (tickKey x).state.talking = x.state.talking := by
  unfold tickKey
  split
  next n timing => rw [timing]; rfl
  next n latched => rw [latched]; rfl
  next => rfl

theorem linksLawful_tick {s : State} (h : LinksLawful s) : LinksLawful (tick s) := by
  refine h.follow ⟨fun p => ?_⟩ fun k talks => ?_
  · rw [tick_link]
    exact ⟨rfl, (tickTimer_isSome _).trans, rfl, tickTimer_isSome _, .refl _⟩
  · rw [tick_key, tickKey_talking] at talks
    exact talks

theorem startUp_link (cause : StartCause) (s : State) (p : Pnl) : (startUp cause s).link p = Link.start := Tab.at_tabOf _ p

theorem startUp_key (cause : StartCause) (s : State) (k : KeyId) : (startUp cause s).key k = ⟨none, .idle⟩ :=
  Tab.at_tabOf _ k

theorem linksLawful_startUp (cause : StartCause) (s : State) : LinksLawful (startUp cause s) where
  link p := by rw [startUp_link]; exact lawful_cleared Link.start
  talk k talks := by rw [startUp_key] at talks; cases talks

theorem Link.Lawful.entered {l : Link} (time : Nat) : Link.Lawful { l with
    state := .up, subs := .none, changes := [], hold := none, supervision := some time } where
  watched := rfl
  ended := nofun
  once := .nil
  covered _ h := absurd h List.not_mem_nil

theorem Link.Lawful.held {l : Link} (h : l.Lawful) (t : Option Nat) (open_ : t.isSome = true → l.state.session = true) :
    Link.Lawful { l with hold := t } where
  watched := h.watched
  ended gone := by
    obtain ⟨subs, changes, -⟩ := h.ended gone
    refine ⟨subs, changes, ?_⟩
    cases t with
    | none => rfl
    | some n => rw [open_ rfl] at gone; cases gone
  once := h.once
  covered := h.covered

theorem linksLawful_setHoldTimer {s : State} (h : LinksLawful s) {p : Pnl} {t : Option Nat}
    (session : t.isSome = true → (s.link p).state.session = true) : LinksLawful (setHoldTimer p t s) :=
  h.setLink ((h.link p).held t session) id

theorem released_talking {s : State} {up : Bool} {x : KeyState} (h : (released s up x).talking = true) :
    x.talking = true := by
  cases x with
  | timing n => rfl
  | latched n => rfl
  | _ => cases h

theorem linksLawful_event {s u : State} (h : LinksLawful s) (e : Event s u) : LinksLawful u := by
  cases e with
  | bytes p bs => exact h.follow_keys (sessionsFollow_takeBytes p bs s) (by simp)
  | byteTimeout p => exact h.follow_keys (sessionsFollow_setAssembling p [] s) (by simp)
  | frameSent p => exact h.follow_keys (sessionsFollow_frameEnd p s) (by simp)
  | holdEnds p => exact linksLawful_setHoldTimer (t := none) h nofun
  | linkLost p => exact linksLawful_linkDown h p
  | wordReady => exact linksLawful_storeKeeps.wordReady h
  | readDone => exact linksLawful_storeKeeps.readDone h
  | threshold k n timing => exact h.moveKey fun _ => h.talk k (by rw [timing]; rfl)
  | limit k n latched => exact linksLawful_testQuiesced (h.moveKey (new := .idle) nofun).refresh _
  | silence => exact linksLawful_silence h
  | trip g => exact h.follow_keys (repliesOnly_trip g s).follow (by simp)
  | restore g n r => exact h.follow_keys (repliesOnly_restore g r s).follow (by simp)
  | load => exact h.follow (.of_links (by simp)) fun k talks => by rwa [state_key_endLoad] at talks
  | pulse => exact h.of_links (by simp) (by simp)
  | frameExpiry => exact h.of_links (by simp) (by simp)
  | command => exact h.of_links (by simp) (by simp)
  | abandon => exact h.of_links (by simp) (by simp)
  | report d x => exact h.of_links (by simp) (by simp)
  | confirm d => exact h.of_links (by simp) (by simp)
  | flash => exact h.of_links (by simp) (by simp)
  | talkSend => exact h.of_links (by simp) (by simp [talkSend]; split <;> rfl)
  | tripAgain g n r => exact h.of_links (by simp) (by simp)
  | sample l high => exact h.of_links (by simp) (by simp)

theorem linksLawful_block {c : Instr} {s u : State} (h : LinksLawful s) (e : Block c s u) : LinksLawful u := by
  cases e with
  | same => exact h
  | hello p => exact h.setLink (.entered _) fun _ => rfl
  | quiesce p owed up => exact linksLawful_startQuiesce h up owed
  | owe p owed => exact h.follow_keys (.setLink ⟨rfl, id, rfl, rfl, .refl _⟩) (by simp)
  | subscribe p tag classes _ up => exact h.setLink ((h.link p).resubscribe (by rw [up]; rfl) _) id
  | hold p t up => exact linksLawful_setHoldTimer h fun _ => by rw [up]; rfl
  | keyDown k f session => exact (h.moveKey fun _ => session).refresh
  | keyUp k up session => exact linksLawful_testQuiesced (h.moveKey fun _ => session).refresh _
  | keyDef k f idle =>
    refine h.follow (.of_links (by simp)) fun j talks => ?_
    unfold setKeyDef at talks
    rw [key_setKey] at talks
    split at talks
    next same =>
      subst same
      exact talks
    next => exact talks
  | restore g r => exact h.follow_keys (repliesOnly_restore g r s).follow (by simp)
  | store op => exact linksLawful_storeKeeps.joinStore h op
  | release => exact linksLawful_storeKeeps.startOps _ (linksLawful_storeKeeps.store _ h)
  | releaseRaw =>
    exact linksLawful_storeKeeps.startOps _ (linksLawful_storeKeeps.closeSequence (linksLawful_storeKeeps.store _ h))
  | restart tag => exact linksLawful_restartBlock tag s
  | route o d x => exact h.of_links (by simp) (by simp)
  | lock o kind d => exact h.of_links rfl rfl
  | unlock d => exact h.of_links rfl rfl
  | redefine d x => exact h.of_links (by simp) (by simp)
  | stage o tag raw ps => exact h.of_links (by simp) (by simp)
  | queue o tag raw ps => exact h.of_links (by simp) (by simp)
  | cancel f => exact h.of_links rfl rfl
  | matrix => exact h.of_links rfl rfl
  | record program preview fresh => exact h.of_links (by simp) (by simp)
  | switcher l x => exact h.of_links (by simp) (by simp)
  | map ch x => exact h.of_links (by simp) (by simp)
  | station p m => exact h.of_links rfl rfl
  | party y ch => exact h.of_links rfl rfl
  | arm g => exact h.of_links rfl rfl
  | disarm g => exact h.of_links rfl rfl
  | defineGuard g f => exact h.of_links rfl rfl
  | latches lines values => exact h.of_links rfl rfl
  | line l x => exact h.of_links rfl rfl
  | attention a m => exact h.of_links rfl rfl
  | timing t => exact h.of_links rfl rfl
  | permit on => exact h.of_links rfl rfl
  | grant => exact h.of_links rfl rfl
  | want job w tag => exact h.of_links rfl rfl
  | rawRead start count => exact h.of_links rfl rfl
  | rawWrite raw cs => exact h.of_links rfl rfl

theorem linksLawful_exec {c : Instr} {s t : State} (h : LinksLawful s) (run : exec c s = .next t) : LinksLawful t := by
  rcases exec_cases run with ⟨cause, rfl⟩ | ⟨w, u, v, ⟨-, before⟩, happens, answered, -, rfl⟩
  · exact linksLawful_startUp cause s
  · have start : LinksLawful w := h.of_links (by rw [before]) (by rw [before])
    have done : LinksLawful u := by
      cases happens with
      | same => exact start
      | event e => exact linksLawful_event start e
      | block _ e => exact linksLawful_block start e
    have told : LinksLawful v := done.follow_keys answered.follow (by rw [answered.traffic.rest])
    exact told.settle s

/-! ### Idle transmitters -/

/-- An idle transmitter has nothing it may send. -/
def Link.Rests (l : Link) : Prop :=
  l.sending = none → l.busy = none ∧ l.replies = [] ∧ (l.noticesOpen = true → l.changes = [])

theorem rests_nextFrame (v : State) (p : Pnl) (l : Link) : (nextFrame v p l).Rests := by
  intro idle
  unfold nextFrame at idle ⊢
  split at idle
  · cases idle
  next busy =>
    split at idle
    · cases idle
    next replies =>
      split at idle
      next r rest changes =>
        split at idle
        · cases idle
        next closed => simp [busy, replies, changes, closed]
      next changes => simp [busy, replies, changes]

theorem idleHasNothingToSend_settle (s u : State) : IdleHasNothingToSend (settle s u) := by
  intro p
  rw [link_settle]
  unfold transmitLink
  split
  next x sending =>
    intro idle
    rw [sending] at idle
    cases idle
  next => exact rests_nextFrame _ p _

theorem idleHasNothingToSend_startUp (cause : StartCause) (s : State) : IdleHasNothingToSend (startUp cause s) := by
  intro p _
  rw [startUp_link]
  exact ⟨rfl, rfl, fun _ => rfl⟩

theorem idleHasNothingToSend_tick {s : State} (h : IdleHasNothingToSend s) : IdleHasNothingToSend (tick s) := by
  intro p idle
  rw [tick_link] at idle ⊢
  obtain ⟨busy, replies, changes⟩ := h p idle
  refine ⟨busy, replies, fun open_ => changes ?_⟩
  unfold Link.noticesOpen at open_ ⊢
  cases hold : (s.link p).hold with
  | none => simpa [hold, tickTimer] using open_
  | some n => simp [hold, tickTimer] at open_

/-- Settles O59: the session laws are kept by every effect and by settling, which leaves no transmitter idle that has
something to send. -/
theorem linkRecordsStayLawful : Obligations.LinkRecordsStayLawful := by
  unfold Obligations.LinkRecordsStayLawful
  intro s t watched talk changes idle run
  have lawful : LinksLawful s := (linksLawful_iff s).mpr ⟨watched, talk, changes⟩
  suffices LinksLawful t ∧ IdleHasNothingToSend t by
    obtain ⟨lawful, idle⟩ := this
    obtain ⟨watched, talk, changes⟩ := (linksLawful_iff t).mp lawful
    exact ⟨watched, talk, changes, idle⟩
  rcases step_cases run with rfl | ⟨rest, c, run⟩
  · exact ⟨linksLawful_tick lawful, idleHasNothingToSend_tick idle⟩
  · have behind : LinksLawful { s with pending := rest } := lawful.of_links rfl rfl
    refine ⟨linksLawful_exec behind run, ?_⟩
    rcases exec_cases run with ⟨cause, rfl⟩ | ⟨w, u, v, -, -, -, -, rfl⟩
    · exact idleHasNothingToSend_startUp cause _
    · exact idleHasNothingToSend_settle _ v

end Sys2Proof.Machine
end

section
/-! SUPPORT. What comes into the change sets: the marks of settling and a panel's own SUBSCRIBE; the obligation O52. -/

namespace Sys2Proof.Machine

/-! ### Effects mark nothing -/

/-- The change set of link `p` has gained nothing. -/
def NothingAdded (p : Pnl) (s t : State) : Prop := (t.link p).changes ⊆ (s.link p).changes

theorem NothingAdded.refl (p : Pnl) (s : State) : NothingAdded p s s := List.Subset.refl _

theorem NothingAdded.trans {p : Pnl} {s t u : State} (st : NothingAdded p s t) (tu : NothingAdded p t u) :
    NothingAdded p s u := List.Subset.trans tu st

theorem SessionsFollow.nothingAdded {s t : State} (h : SessionsFollow s t) (p : Pnl) : NothingAdded p s t :=
  (h.link p).changes.subset

theorem NothingAdded.of_links {s t : State} (h : t.links = s.links) (p : Pnl) : NothingAdded p s t :=
  (SessionsFollow.of_links h).nothingAdded p

theorem NothingAdded.setLink {s : State} {p q : Pnl} {l : Link} (h : q = p → l.changes ⊆ (s.link p).changes) :
    NothingAdded p s (s.setLink q l) := by
  unfold NothingAdded
  by_cases same : q = p
  · subst same; simpa using h rfl
  · simp [same]

theorem nothingAdded_linkDown (p q : Pnl) (s : State) : NothingAdded p s (linkDown q s) := by
  unfold NothingAdded
  by_cases same : q = p
  · subst same
    rw [link_linkDown_same]
    exact List.nil_subset _
  · rw [link_linkDown_ne same]
    exact List.Subset.refl _

theorem nothingAdded_testQuiesced (p q : Pnl) (s : State) : NothingAdded p s (testQuiesced q s) := by
  unfold NothingAdded testQuiesced
  split
  · rw [link_enterQuiesced]
    split
    · exact List.nil_subset _
    · exact List.Subset.refl _
  · exact List.Subset.refl _

theorem nothingAdded_startQuiesce (p q : Pnl) (owed : Option Byte) (s : State) :
    NothingAdded p s (startQuiesce q owed s) := by
  have closing : NothingAdded p s (s.setLink q { s.link q with state := .quiescing, quiesceOwed := owed }) :=
    .setLink fun same => same ▸ List.Subset.refl _
  exact (closing.trans ((repliesOnly_quiesceStarted q owed s).follow.nothingAdded p)).trans
    (nothingAdded_testQuiesced p q _)

theorem nothingAdded_silence (p : Pnl) (s : State) : NothingAdded p s (silence s) := by
  have tests : ∀ (ps : List Pnl) (t : State), NothingAdded p t (ps.foldl (fun t q => testQuiesced q t) t) := by
    intro ps
    induction ps with
    | nil => exact fun t => .refl p t
    | cons q ps ih => exact fun t => (nothingAdded_testQuiesced p q t).trans (ih _)
  have off : NothingAdded p s (talkSilenced s) := .of_links (by simp [talkSilenced]) p
  exact (off.trans (tests (fins 8) _)).trans (.of_links (refresh_links _) p)

/-- The store engine's events add nothing to what `s` holds. -/
theorem nothingAdded_storeKeeps (p : Pnl) (s : State) : StoreKeeps (NothingAdded p s) where
  store _ h := h
  response _ _ _ _ h := h
  outcome q i h := h.trans ((repliesOnly_place q i _).follow.nothingAdded p)
  test q h := h.trans (nothingAdded_testQuiesced p q _)
  stage h _ := h.trans (.of_links (by simp) p)
  queue h _ _ := h

theorem nothingAdded_event {s u : State} (p : Pnl) (e : Event s u) : NothingAdded p s u := by
  cases e with
  | bytes q bs => exact (sessionsFollow_takeBytes q bs s).nothingAdded p
  | byteTimeout q => exact (sessionsFollow_setAssembling q [] s).nothingAdded p
  | frameSent q => exact (sessionsFollow_frameEnd q s).nothingAdded p
  | holdEnds q => exact .setLink fun same => same ▸ List.Subset.refl _
  | linkLost q => exact nothingAdded_linkDown p q s
  | wordReady => exact (nothingAdded_storeKeeps p s).wordReady (.refl p s)
  | readDone => exact (nothingAdded_storeKeeps p s).readDone (.refl p s)
  | limit k n => exact (NothingAdded.of_links (by simp) p).trans (nothingAdded_testQuiesced p _ _)
  | silence => exact nothingAdded_silence p s
  | trip g => exact (repliesOnly_trip g s).follow.nothingAdded p
  | restore g n r => exact (repliesOnly_restore g r s).follow.nothingAdded p
  | load => exact .of_links (by simp) p
  | pulse => exact .of_links (by simp) p
  | frameExpiry => exact .of_links (by simp) p
  | command => exact .of_links (by simp) p
  | abandon => exact .of_links (by simp) p
  | report d x => exact .of_links (by simp) p
  | confirm d => exact .of_links (by simp) p
  | flash => exact .of_links (by simp) p
  | threshold k n => exact .of_links (by simp) p
  | talkSend => exact .of_links (by simp) p
  | tripAgain g n r => exact .of_links (by simp) p
  | sample l high => exact .of_links (by simp) p

theorem nothingAdded_block {c : Instr} {s u : State} {p : Pnl} (other : ∀ tag classes, c ≠ .subscribe (.panel p) tag classes)
    (e : Block c s u) : NothingAdded p s u := by
  cases e with
  | same => exact .refl p s
  | hello q => exact .setLink fun _ => List.nil_subset _
  | quiesce q owed => exact nothingAdded_startQuiesce p q owed s
  | owe q owed => exact .setLink fun same => same ▸ List.Subset.refl _
  | subscribe q tag classes own => exact .setLink fun same => absurd own (same ▸ other tag classes)
  | hold q t => exact .setLink fun same => same ▸ List.Subset.refl _
  | keyUp k up => exact (NothingAdded.of_links (by simp) p).trans (nothingAdded_testQuiesced p _ _)
  | restore g r => exact (repliesOnly_restore g r s).follow.nothingAdded p
  | store op => exact (nothingAdded_storeKeeps p s).joinStore (.refl p s) op
  | release => exact (nothingAdded_storeKeeps p s).startOps _ (List.Subset.refl _)
  | releaseRaw => exact (nothingAdded_storeKeeps p s).startOps _ (List.Subset.refl _)
  | restart tag =>
    unfold NothingAdded
    rw [link_restartBlock]
    exact List.nil_subset _
  | keyDown k f => exact .of_links (by simp) p
  | keyDef k f => exact .of_links (by simp) p
  | route o d x => exact .of_links (by simp) p
  | lock o kind d => exact .of_links rfl p
  | unlock d => exact .of_links rfl p
  | redefine d x => exact .of_links (by simp) p
  | stage o tag raw ps => exact .of_links (by simp) p
  | queue o tag raw ps => exact .of_links (by simp) p
  | cancel f => exact .of_links rfl p
  | matrix => exact .of_links rfl p
  | record program preview fresh => exact .of_links (by simp) p
  | switcher l x => exact .of_links (by simp) p
  | map ch x => exact .of_links (by simp) p
  | station q m => exact .of_links rfl p
  | party y ch => exact .of_links rfl p
  | arm g => exact .of_links rfl p
  | disarm g => exact .of_links rfl p
  | defineGuard g f => exact .of_links rfl p
  | latches lines values => exact .of_links rfl p
  | line l x => exact .of_links rfl p
  | attention a m => exact .of_links rfl p
  | timing t => exact .of_links rfl p
  | permit on => exact .of_links rfl p
  | grant => exact .of_links rfl p
  | want job w tag => exact .of_links rfl p
  | rawRead start count => exact .of_links rfl p
  | rawWrite raw cs => exact .of_links rfl p

theorem nothingAdded_effect {c : Instr} {s u : State} {p : Pnl} (other : ∀ tag classes, c ≠ .subscribe (.panel p) tag classes)
    (e : Effect c s u) : NothingAdded p s u := by
  cases e with
  | same => exact .refl p s
  | event e => exact nothingAdded_event p e
  | block _ e => exact nothingAdded_block other e

/-! ### What settling owes -/

/-- After settling a reference is in the change set only if it was there or its record has visibly changed. -/
theorem changes_settle {s u : State} {p : Pnl} {r : Ref} (h : r ∈ ((settle s u).link p).changes) :
    r ∈ (u.link p).changes ∨ ((u.link p).state.session = true ∧ (u.link p).subs.covers r = true ∧
      VisiblyChanged s (settle s u) p r) := by
  obtain ⟨marked, ⟨-, mem⟩, sent⟩ := sent_settle s u p
  have listed : r ∈ (u.link p).changes ++ marked := by
    rcases sent with ⟨changes, -⟩ | ⟨-, -, -, first, changes, -⟩
    · rwa [changes] at h
    · rw [← changes]; exact List.mem_cons_of_mem _ h
  rcases List.mem_append.mp listed with old | new
  · exact .inl old
  · obtain ⟨session, covered, -, changed⟩ := (mem r).mp new
    exact .inr ⟨session, covered, changed⟩

/-- The frame of an idle link's only owed item is the one it is sending. -/
theorem sending_of_outbox {l : Link} {x : Sending} (rests : l.Rests) (h : l.outbox = [x]) : l.sending = some x := by
  unfold Link.outbox at h
  cases sending : l.sending with
  | none =>
    obtain ⟨busy, replies, -⟩ := rests sending
    simp [sending, busy, replies] at h
  | some y =>
    rw [sending, Option.toList_some, List.append_assoc, List.singleton_append] at h
    rw [(List.cons.inj h).1]

/-- What has visibly changed and is covered in a session is owed after settling: in the change set, or its notice has
begun. -/
theorem owed_of_visiblyChanged {s u : State} {p : Pnl} {r : Ref} (session : (u.link p).state.session = true)
    (covered : (u.link p).subs.covers r = true) (changed : VisiblyChanged s (settle s u) p r) :
    r ∈ ((settle s u).link p).changes ∨
      ((settle s u).link p).sending = some ⟨frame (noticeBody (settle s u) p r), false⟩ := by
  obtain ⟨marked, ⟨-, mem⟩, sent⟩ := sent_settle s u p
  have listed : r ∈ (u.link p).changes ++ marked := by
    by_cases old : r ∈ (u.link p).changes
    · exact List.mem_append_left _ old
    · exact List.mem_append_right _ ((mem r).mpr ⟨session, covered, old, changed⟩)
  rcases sent with ⟨changes, -⟩ | ⟨-, -, -, first, changes, outbox⟩
  · rw [changes]; exact .inl listed
  · rw [← changes] at listed
    rcases List.mem_cons.mp listed with rfl | rest
    · exact .inr (sending_of_outbox (idleHasNothingToSend_settle s u p) outbox)
    · exact .inl rest

/-- Settles O52: effects add nothing to a change set, and settling adds what has visibly changed and owes it. -/
theorem everyVisibleChangeIsMarked : Obligations.EveryVisibleChangeIsMarked := by
  unfold Obligations.EveryVisibleChangeIsMarked
  refine ⟨fun c s t p r run other added absent => ?_, fun c s t p run session owed meaning => ?_⟩
  · rcases exec_cases run with ⟨cause, rfl⟩ | ⟨w, u, v, ⟨-, before⟩, happens, answered, -, rfl⟩
    · rw [startUp_link] at added
      cases added
    · have kept : NothingAdded p s v :=
        ((NothingAdded.of_links (by rw [before]) p).trans (nothingAdded_effect other happens)).trans
          (answered.follow.nothingAdded p)
      rcases changes_settle added with old | ⟨open_, covered, changed⟩
      · exact absurd (kept old) absent
      · exact ⟨changed, by simpa using covered, by simpa using open_⟩
  · rcases exec_cases run with ⟨cause, rfl⟩ | ⟨w, u, v, -, -, -, -, rfl⟩
    · rw [startUp_link] at session
      cases session
    · rw [settle_link_state] at session
      rw [settle_link_subs]
      have marks : ∀ r, (v.link p).subs.covers r = true → VisiblyChanged s (settle s v) p r → owed r := fun r covered changed =>
        (meaning r).mpr (owed_of_visiblyChanged session covered changed)
      exact ⟨fun on d => marks (.route d) on, fun on ch => marks (.tally ch) on, fun on i => marks (.key i) on⟩

end Sys2Proof.Machine
end

section
/-! SUPPORT. What the effects leave of the control link and of the store engine, and what can happen before READY; the
obligation O55. -/

namespace Sys2Proof.Machine

/-! ### The control link -/

/-- Of the control link only the response buffer and the attention set may have changed. -/
structure ReportsOnly (s t : State) : Prop where
  ctl : t.ctl = { s.ctl with response := t.ctl.response, attention := t.ctl.attention }

theorem ReportsOnly.of_ctl {s t : State} (h : t.ctl = s.ctl) : ReportsOnly s t := ⟨by rw [h]⟩

theorem ReportsOnly.refl (s : State) : ReportsOnly s s := ⟨rfl⟩

theorem ReportsOnly.trans {s t u : State} (st : ReportsOnly s t) (tu : ReportsOnly t u) : ReportsOnly s u := by
  constructor
  conv_lhs => rw [tu.ctl, st.ctl]

theorem ReportsOnly.ready {s t : State} (h : ReportsOnly s t) : t.ctl.ready = s.ctl.ready := by rw [h.ctl]

theorem ReportsOnly.slot {s t : State} (h : ReportsOnly s t) : SlotKept s t := ⟨by rw [h.ctl], by rw [h.ctl]⟩

theorem ReportsOnly.raise {s t : State} (h : ReportsOnly s t) (c : Cause) : ReportsOnly s (raise c t) := h.trans ⟨rfl⟩

theorem ReportsOnly.refresh {s t : State} (h : ReportsOnly s t) : ReportsOnly s (refresh t) := ⟨h.ctl⟩

theorem ReportsOnly.payQuiesce {s t : State} (h : ReportsOnly s t) (owed : Option Byte) (x : LinkState) :
    ReportsOnly s (payQuiesce owed x t) := h.trans (by cases owed <;> exact ⟨rfl⟩)

theorem ReportsOnly.switcherLost {s t : State} (h : ReportsOnly s t) (p : Pnl) : ReportsOnly s (switcherLost p t) := by
  unfold Machine.switcherLost
  split
  · exact h.trans ⟨rfl⟩
  · exact h

theorem reportsOnly_testQuiesced (p : Pnl) (s : State) : ReportsOnly s (testQuiesced p s) := by
  unfold testQuiesced
  split
  · exact ⟨by rw [ctl_enterQuiesced]⟩
  · exact .refl s

theorem reportsOnly_linkDown (p : Pnl) (s : State) : ReportsOnly s (linkDown p s) := by
  unfold linkDown
  dsimp only
  refine ReportsOnly.refresh (.switcherLost (.raise (.payQuiesce (.of_ctl ?_) _ _) _) p)
  simp

theorem reportsOnly_startQuiesce (p : Pnl) (owed : Option Byte) (s : State) : ReportsOnly s (startQuiesce p owed s) :=
  (ReportsOnly.of_ctl (by simp [quiesceStarted])).trans (reportsOnly_testQuiesced p (quiesceStarted p owed s))

theorem reportsOnly_silence (s : State) : ReportsOnly s (silence s) := by
  have tests : ∀ (ps : List Pnl) (t : State), ReportsOnly t (ps.foldl (fun t q => testQuiesced q t) t) := by
    intro ps
    induction ps with
    | nil => exact .refl
    | cons q ps ih => exact fun t => (reportsOnly_testQuiesced q t).trans (ih _)
  have off : ReportsOnly s (talkSilenced s) := .of_ctl (talkSilenced_kept s).2.1
  exact (off.trans (tests (fins 8) _)).refresh

theorem reportsOnly_storeKeeps (s : State) : StoreKeeps (ReportsOnly s) where
  store _ h := ⟨h.ctl⟩
  response _ _ _ _ h := h.trans ⟨rfl⟩
  outcome q i h := h.trans (.of_ctl (by simp))
  test q h := h.trans (reportsOnly_testQuiesced q _)
  stage h _ := h.trans (.of_ctl (by simp))
  queue h _ _ := h.trans (.of_ctl rfl)

theorem reportsOnly_trip (g : Gid) (s : State) : ReportsOnly s (trip g s) := by
  unfold trip
  dsimp only
  refine .raise (.of_ctl ?_) _
  have held : ∀ (ps : List (Dst × Src)) (t : State), (ps.foldl (holdPair g) t).ctl = t.ctl := by
    intro ps
    induction ps with
    | nil => exact fun _ => rfl
    | cons p ps ih => exact fun t => (ih _).trans (by simp)
  simp [held]

theorem reportsOnly_abandon (s : State) : ReportsOnly s (abandon s) := by
  have back : ∀ (ps : List (Dst × Src)) (t : State), (ps.foldl giveBack t).ctl = t.ctl := by
    intro ps
    induction ps with
    | nil => exact fun _ => rfl
    | cons p ps ih => exact fun t => (ih _).trans (by simp)
  unfold abandon
  split
  · refine .raise (.of_ctl ?_) _
    exact back _ s
  · exact .refl s

theorem reportsOnly_frameExpiry (s : State) : ReportsOnly s (frameExpiry s) := by
  unfold frameExpiry
  dsimp only
  split
  · exact .of_ctl (by simp)
  · split
    · exact ⟨by simp [raise]⟩
    · exact ⟨rfl⟩

theorem reportsOnly_report (d : Dst) (x : Src) (s : State) : ReportsOnly s (report d x s) := by
  unfold report
  dsimp only
  split
  · exact ReportsOnly.refresh (.of_ctl rfl)
  · refine ReportsOnly.refresh (.raise (.of_ctl ?_) _)
    rfl

theorem reportsOnly_confirmExpiry (d : Dst) (s : State) : ReportsOnly s (confirmExpiry d s) := by
  unfold confirmExpiry
  split
  · refine .raise (.of_ctl ?_) _
    rfl
  · exact .refl s

/-- The events report to the control link alone, but for the end of the load. -/
theorem reportsOnly_event {s u : State} (e : Event s u) : ReportsOnly s u ∨ u = endLoad s := by
  cases e with
  | load => exact .inr rfl
  | linkLost p => exact .inl (reportsOnly_linkDown p s)
  | wordReady => exact .inl ((reportsOnly_storeKeeps s).wordReady (.refl s))
  | readDone => exact .inl ((reportsOnly_storeKeeps s).readDone (.refl s))
  | frameExpiry => exact .inl (reportsOnly_frameExpiry s)
  | abandon => exact .inl (reportsOnly_abandon s)
  | report d x => exact .inl (reportsOnly_report d x s)
  | confirm d => exact .inl (reportsOnly_confirmExpiry d s)
  | limit k n => exact .inl ((ReportsOnly.of_ctl (by simp)).trans (reportsOnly_testQuiesced _ _))
  | silence => exact .inl (reportsOnly_silence s)
  | trip g => exact .inl (reportsOnly_trip g s)
  | bytes p bs => exact .inl (.of_ctl (by simp))
  | byteTimeout p => exact .inl (.of_ctl (by simp))
  | frameSent p => exact .inl (.of_ctl (by simp))
  | holdEnds p => exact .inl (.of_ctl (by simp))
  | pulse => exact .inl (.of_ctl (by simp))
  | command => exact .inl (.of_ctl (by simp))
  | flash => exact .inl (.of_ctl (by simp))
  | threshold k n => exact .inl (.of_ctl (by simp))
  | talkSend => exact .inl (.of_ctl (by simp))
  | tripAgain g n r => exact .inl (.of_ctl rfl)
  | restore g n r => exact .inl (.of_ctl (by simp))
  | sample l high => exact .inl (.of_ctl (by simp))

/-- The blocks report to the control link alone, but for the attention requests and RESTART. -/
theorem reportsOnly_block {c : Instr} {s u : State} (e : Block c s u) :
    ReportsOnly s u ∨ (∃ a m, u = { s with ctl := { s.ctl with attention := a, mask := m } }) ∨
      ∃ tag, u = (restartBlock tag s).1 := by
  cases e with
  | attention a m => exact .inr (.inl ⟨a, m, rfl⟩)
  | restart tag => exact .inr (.inr ⟨tag, rfl⟩)
  | quiesce p owed => exact .inl (reportsOnly_startQuiesce p owed s)
  | keyUp k up => exact .inl ((ReportsOnly.of_ctl (by simp)).trans (reportsOnly_testQuiesced _ _))
  | store op => exact .inl ((reportsOnly_storeKeeps s).joinStore (.refl s) op)
  | release => exact .inl ((reportsOnly_storeKeeps s).startOps _ (.of_ctl rfl))
  | releaseRaw => exact .inl ((reportsOnly_storeKeeps s).startOps _ (.of_ctl rfl))
  | same => exact .inl (.refl s)
  | hello p => exact .inl (.of_ctl rfl)
  | owe p owed => exact .inl (.of_ctl rfl)
  | subscribe p tag classes => exact .inl (.of_ctl rfl)
  | hold p t => exact .inl (.of_ctl (by simp))
  | route o d x => exact .inl (.of_ctl (by simp))
  | lock o kind d => exact .inl (.of_ctl rfl)
  | unlock d => exact .inl (.of_ctl rfl)
  | redefine d x => exact .inl (.of_ctl (by simp))
  | stage o tag raw ps => exact .inl (.of_ctl (by simp))
  | queue o tag raw ps => exact .inl (.of_ctl rfl)
  | cancel f => exact .inl (.of_ctl rfl)
  | matrix => exact .inl (.of_ctl rfl)
  | record program preview fresh => exact .inl (.of_ctl (by simp))
  | switcher l x => exact .inl (.of_ctl (by simp))
  | map ch x => exact .inl (.of_ctl (by simp))
  | station q m => exact .inl (.of_ctl rfl)
  | party y ch => exact .inl (.of_ctl rfl)
  | keyDef k f => exact .inl (.of_ctl (by simp))
  | keyDown k f => exact .inl (.of_ctl (by simp))
  | arm g => exact .inl (.of_ctl rfl)
  | disarm g => exact .inl (.of_ctl rfl)
  | restore g r => exact .inl (.of_ctl (by simp))
  | defineGuard g f => exact .inl (.of_ctl rfl)
  | latches lines values => exact .inl (.of_ctl rfl)
  | line l x => exact .inl (.of_ctl rfl)
  | timing t => exact .inl (.of_ctl rfl)
  | permit on => exact .inl (.of_ctl rfl)
  | grant => exact .inl (.of_ctl rfl)
  | want job w tag => exact .inl (.of_ctl rfl)
  | rawRead start count => exact .inl (.of_ctl rfl)
  | rawWrite raw cs => exact .inl (.of_ctl rfl)

end Sys2Proof.Machine
end

section
/-! SUPPORT. Before READY nothing runs, and after it the store engine is not LOADING; the obligation O55. -/

namespace Sys2Proof.Machine

/-! ### The engine after its own events -/

theorem engine_startOps (ops : List StoreOp) (s : State) : (startOps ops s).store.engine ≠ .loading := by
  induction ops generalizing s with
  | nil => exact nofun
  | cons op rest ih =>
    have writes : (if s.store.permit then
        sendPort [.writeEnable, .writeWord op.base emptyHeader]
          (({ s with store := { s.store with engine := .idle, queue := rest } }.setEngine
            (.busy (.write op (op.base, emptyHeader) op.moreWrites false) none)).setLatch true)
        else startOps rest (tellLink op.orig (firstOutcome op .storeLocked true none
          { s with store := { s.store with engine := .idle, queue := rest } }))).store.engine ≠ .loading := by
      split
      · exact nofun
      · exact ih _
    unfold startOps
    cases op.work with
    | recallPreset => exact nofun
    | save ps => exact writes
    | clear => exact writes

theorem engine_afterOp (wanted : Option Byte) (s : State) : (afterOp wanted s).store.engine ≠ .loading := by
  cases wanted with
  | some tag => exact nofun
  | none => exact engine_startOps _ s

theorem engine_endOp (op : StoreOp) (marked : Bool) (wanted : Option Byte) (s : State) :
    (endOp op marked wanted s).store.engine ≠ .loading := engine_afterOp wanted _

theorem engine_wordReady {s : State} (h : s.store.engine ≠ .loading) : (wordReady s).store.engine ≠ .loading := by
  unfold wordReady
  split
  · dsimp only
    split
    · exact nofun
    · exact engine_endOp _ _ _ _
  · exact engine_afterOp _ _
  · dsimp only
    split
    · exact nofun
    · exact nofun
  · exact h

theorem engine_readDone {s : State} (h : s.store.engine ≠ .loading) : (readDone s).store.engine ≠ .loading := by
  unfold readDone
  split
  · exact engine_endOp _ _ _ _
  · exact h

theorem markFor_loading (p : Pnl) (e : Engine) : e.markFor p = .loading ↔ e = .loading := by
  cases e <;> simp [Engine.markFor]

theorem store_linkDown (p : Pnl) (s : State) : (linkDown p s).store = { s.store with
    queue := s.store.queue.filter fun op => op.orig != Origin.panel p, engine := s.store.engine.markFor p } := by
  simp [linkDown, payQuiesce, switcherLost, raise]
  split <;> split <;> simp

/-! ### Running -/

/-- READY is set and the engine is past its load. -/
structure Running (s : State) : Prop where
  ready : s.ctl.ready = true
  loaded : s.store.engine ≠ .loading

theorem Running.keep {s t : State} (h : Running s) (reports : ReportsOnly s t) (store : t.store = s.store) : Running t :=
  ⟨reports.ready.trans h.ready, store ▸ h.loaded⟩

theorem running_endLoad (s : State) : Running (endLoad s) := by
  unfold endLoad
  split
  · exact ⟨rfl, nofun⟩
  · exact ⟨rfl, nofun⟩

theorem running_event {s u : State} (h : Running s) (e : Event s u) : Running u := by
  rcases reportsOnly_event e with reports | rfl
  case inr => exact running_endLoad s
  cases e with
  | load => exact running_endLoad s
  | wordReady => exact ⟨reports.ready.trans h.ready, engine_wordReady h.loaded⟩
  | readDone => exact ⟨reports.ready.trans h.ready, engine_readDone h.loaded⟩
  | linkLost p =>
    refine ⟨reports.ready.trans h.ready, ?_⟩
    rw [store_linkDown]
    exact mt (markFor_loading p _).mp h.loaded
  | bytes p bs => exact h.keep reports (by simp)
  | byteTimeout p => exact h.keep reports (by simp)
  | frameSent p => exact h.keep reports (by simp)
  | holdEnds p => exact h.keep reports (by simp)
  | pulse => exact h.keep reports (by simp)
  | frameExpiry => exact h.keep reports (by simp)
  | command => exact h.keep reports (by simp)
  | abandon => exact h.keep reports (by simp)
  | report d x => exact h.keep reports (by simp)
  | confirm d => exact h.keep reports (by simp)
  | flash => exact h.keep reports (by simp)
  | threshold k n => exact h.keep reports (by simp)
  | limit k n => exact h.keep reports (by simp)
  | talkSend => exact h.keep reports (by simp)
  | silence => exact h.keep reports (by simp)
  | trip g => exact h.keep reports (by simp)
  | tripAgain g n r => exact h.keep reports (by simp)
  | restore g n r => exact h.keep reports (by simp)
  | sample l high => exact h.keep reports (by simp)

theorem engine_restartBlock (tag : Byte) (s : State) : (restartBlock tag s).1.store.engine =
    match s.store.engine.inFlight with
    | some w => .busy (.drain w tag) none
    | none => .idle := rfl

theorem engine_block {c : Instr} {s u : State} (h : s.store.engine ≠ .loading) (e : Block c s u) :
    u.store.engine ≠ .loading := by
  cases e with
  | store op =>
    unfold joinStore
    split
    · exact engine_startOps _ _
    · exact h
  | release => exact engine_startOps _ _
  | releaseRaw => exact engine_startOps _ _
  | restart tag =>
    rw [engine_restartBlock]
    split <;> exact nofun
  | grant => exact nofun
  | want job w tag => exact nofun
  | rawWrite raw cs => exact nofun
  | rawRead start count => exact h
  | permit on => exact h
  | same => exact h
  | hello p => exact h
  | quiesce p owed => simpa using h
  | owe p owed => exact h
  | subscribe p tag classes => exact h
  | hold p t => simpa using h
  | route o d x => simpa using h
  | lock o kind d => exact h
  | unlock d => exact h
  | redefine d x => simpa using h
  | stage o tag raw ps => simpa using h
  | queue o tag raw ps => exact h
  | cancel f => exact h
  | matrix => exact h
  | record program preview fresh => simpa using h
  | switcher l x => simpa using h
  | map ch x => simpa using h
  | station q m => exact h
  | party y ch => exact h
  | keyDef k f => simpa using h
  | keyDown k f => simpa using h
  | keyUp k up => simpa using h
  | arm g => exact h
  | disarm g => exact h
  | restore g r => simpa using h
  | defineGuard g f => exact h
  | latches lines values => exact h
  | line l x => exact h
  | attention a m => exact h
  | timing t => exact h

theorem running_block {c : Instr} {s u : State} (h : Running s) (e : Block c s u) : Running u := by
  refine ⟨?_, engine_block h.loaded e⟩
  rcases reportsOnly_block e with reports | ⟨a, m, rfl⟩ | ⟨tag, rfl⟩
  · exact reports.ready.trans h.ready
  · exact h.ready
  · exact h.ready

/-! ### Waiting for READY -/

/-- Nothing of the entry runs: it has no staged change, lock, hold or interrupter. -/
def Entry.Bare (e : Entry) : Prop := e.staged = none ∧ e.lock = none ∧ e.hold = none ∧ e.interrupters = []

/-- READY is clear, the engine is LOADING and nothing runs. -/
structure Waits (s : State) : Prop where
  notReady : s.ctl.ready = false
  loading : s.store.engine = .loading
  links : ∀ p, (s.link p).state.session = false
  keys : ∀ k, (s.key k).state = .idle
  guards : ∀ g, (s.guard g).state = .disabled
  salvos : s.salvos = []
  queue : s.store.queue = []
  burst : s.take.burst = none
  entries : ∀ d, (s.entry d).Bare

theorem quietUntilReady_iff (s : State) : QuietUntilReady s ↔ Running s ∨ Waits s := by
  constructor
  · rintro ⟨same, quiet⟩
    cases ready : s.ctl.ready with
    | true => exact .inl ⟨ready, fun loading => by rw [same.mpr loading] at ready; cases ready⟩
    | false =>
      obtain ⟨links, keys, guards, salvos, queue, burst, entries⟩ := quiet ready
      exact .inr ⟨ready, same.mp ready, links, keys, guards, salvos, queue, burst, entries⟩
  · rintro (h | h)
    · refine ⟨⟨fun notReady => ?_, fun loading => absurd loading h.loaded⟩, fun notReady => ?_⟩
      · rw [h.ready] at notReady; cases notReady
      · rw [h.ready] at notReady; cases notReady
    · exact ⟨⟨fun _ => h.loading, fun _ => h.notReady⟩,
        fun _ => ⟨h.links, h.keys, h.guards, h.salvos, h.queue, h.burst, h.entries⟩⟩

/-- What has no bearing on waiting may change. -/
theorem Waits.keep {s t : State} (h : Waits s) (reports : ReportsOnly s t) (store : t.store = s.store)
    (links : ∀ p, (t.link p).state = (s.link p).state) (keys : t.talk.keys = s.talk.keys)
    (guards : ∀ g, (t.guard g).state = (s.guard g).state) (salvos : t.salvos = s.salvos)
    (burst : t.take.burst = s.take.burst) (entries : ∀ d, (s.entry d).Bare → (t.entry d).Bare) : Waits t where
  notReady := reports.ready.trans h.notReady
  loading := store ▸ h.loading
  links p := by rw [links]; exact h.links p
  keys k := by rw [key_congr keys]; exact h.keys k
  guards g := by rw [guards]; exact h.guards g
  salvos := salvos.trans h.salvos
  queue := store ▸ h.queue
  burst := burst.trans h.burst
  entries d := entries d (h.entries d)

/-- The records of routes, guards and links stand as they did. -/
theorem Waits.keep_records {s t : State} (h : Waits s) (reports : ReportsOnly s t) (store : t.store = s.store)
    (links : t.links = s.links) (keys : t.talk.keys = s.talk.keys) (guards : t.guards = s.guards)
    (salvos : t.salvos = s.salvos) (burst : t.take.burst = s.take.burst) (entries : ∀ d, (s.entry d).Bare → (t.entry d).Bare) :
    Waits t :=
  h.keep reports store (fun p => by rw [link_congr links p]) keys (fun g => by rw [guard_congr guards g]) salvos burst entries

/-- The records of the links stand in the same session states. -/
theorem Waits.keep_sessions {s t : State} (h : Waits s) (reports : ReportsOnly s t) (store : t.store = s.store)
    (links : SessionsFollow s t) (keys : t.talk.keys = s.talk.keys) (guards : t.guards = s.guards)
    (salvos : t.salvos = s.salvos) (burst : t.take.burst = s.take.burst) (routes : t.routes = s.routes) : Waits t :=
  h.keep reports store (fun p => (links.link p).state) keys (fun g => by rw [guard_congr guards g]) salvos burst
    fun d => by rw [entry_congr routes d]; exact id

theorem Waits.traffic {s t : State} (h : Waits s) (traffic : TrafficOnly s t) : Waits t where
  notReady := traffic.ready.trans h.notReady
  loading := by rw [traffic.rest]; exact h.loading
  links p := by rw [traffic.state]; exact h.links p
  keys := by rw [traffic.rest]; exact h.keys
  guards := by rw [traffic.rest]; exact h.guards
  salvos := by rw [traffic.rest]; exact h.salvos
  queue := by rw [traffic.rest]; exact h.queue
  burst := by rw [traffic.rest]; exact h.burst
  entries := by rw [traffic.rest]; exact h.entries

theorem Running.traffic {s t : State} (h : Running s) (traffic : TrafficOnly s t) : Running t where
  ready := traffic.ready.trans h.ready
  loaded := by rw [traffic.rest]; exact h.loaded

theorem waits_startUp (cause : StartCause) (s : State) : Waits (startUp cause s) where
  notReady := rfl
  loading := rfl
  links p := by rw [startUp_link]; rfl
  keys k := by rw [startUp_key]
  guards g := by
    have fresh : (startUp cause s).guard g = ⟨GuardDef.factory, .disabled⟩ := Tab.at_tabOf _ g
    rw [fresh]
  salvos := rfl
  queue := rfl
  burst := rfl
  entries d := by
    have fresh : (startUp cause s).entry d = Entry.fresh (DestDef.factory d).home := Tab.at_tabOf _ d
    rw [fresh]
    exact ⟨rfl, rfl, rfl, rfl⟩

theorem tickEntry_kept (e : Entry) : tickEntry e = { e with confirmation := (tickEntry e).confirmation } := by
  unfold tickEntry
  split <;> rfl

theorem waits_tick {s : State} (h : Waits s) : Waits (tick s) where
  notReady := h.notReady
  loading := h.loading
  links p := by rw [tick_link]; exact h.links p
  keys k := by
    rw [tick_key, tickKey_other fun n => by rw [h.keys]; exact ⟨nofun, nofun⟩]
    exact h.keys k
  guards g := by
    rw [tick_guard, tickGuard_other fun n r => by rw [h.guards]; exact ⟨nofun, nofun⟩]
    exact h.guards g
  salvos := h.salvos
  queue := h.queue
  burst := by
    show s.take.burst.map _ = none
    rw [h.burst]
    rfl
  entries d := by
    rw [tick_entry, tickEntry_kept]
    exact h.entries d

/-- While waiting a take event does nothing, and a pulse only times the frame. -/
theorem takeIfBegun_notReady {s : State} (h : s.ctl.ready = false) : takeIfBegun s = s := by
  unfold takeIfBegun
  rw [h]
  rfl

theorem pulse_notReady {s : State} (h : s.ctl.ready = false) :
    pulse s = { s with take := { s.take with reference := .ok, missed := 0, frameTimer := framePeriod s } } := by
  unfold pulse
  dsimp only
  split
  · exact takeIfBegun_notReady h
  · split
    · rfl
    · exact takeIfBegun_notReady h

theorem kept_takeIfBegun_notReady {s : State} (h : s.ctl.ready = false) :
    (takeIfBegun s).routes = s.routes ∧ (takeIfBegun s).take.burst = s.take.burst := by
  rw [takeIfBegun_notReady h]
  exact ⟨rfl, rfl⟩

theorem frameExpiry_notReady {s : State} (h : s.ctl.ready = false) :
    (frameExpiry s).routes = s.routes ∧ (frameExpiry s).take.burst = s.take.burst := by
  unfold frameExpiry
  dsimp only
  split
  · exact kept_takeIfBegun_notReady h
  · split
    · exact kept_takeIfBegun_notReady h
    · exact ⟨rfl, rfl⟩

theorem bare_setEntry {s : State} {d : Dst} {e : Entry} (same : (s.entry d).Bare → e.Bare) (i : Dst)
    (h : (s.entry i).Bare) : ((s.setEntry d e).entry i).Bare := by
  by_cases own : d = i
  · subst own; simpa using same h
  · simpa [own] using h

theorem bare_report (d : Dst) (x : Src) (s : State) (i : Dst) (h : (s.entry i).Bare) : ((report d x s).entry i).Bare := by
  have told : ∀ c, ((s.setEntry d { s.entry d with reported := some x, confirmation := c }).entry i).Bare := fun c =>
    bare_setEntry (e := { s.entry d with reported := some x, confirmation := c }) id i h
  unfold report
  dsimp only
  split
  · rw [entry_congr (refresh_frame _).2.2.1]
    exact told _
  · rw [entry_congr (refresh_frame _).2.2.1]
    exact told _

theorem state_guardOnChange_disabled {x : Guard} (h : x.state = .disabled) (l : Lid) (high : Bool) :
    (guardOnChange l high x).state = .disabled := by
  unfold guardOnChange
  split
  · dsimp only
    split
    · simp [becomesMatching, h]
    · simp [stopsMatching, h]
  · exact h

theorem guards_sampleChange (l : Lid) (high : Bool) (s : State) : (sampleChange l high s).guards = s.guards ∨
    (sampleChange l high s).guards = tabOf fun g => guardOnChange l high (s.guard g) := by
  unfold sampleChange
  dsimp only
  split
  · split
    · exact .inl rfl
    · exact .inr rfl
  · exact .inl rfl

theorem waits_event {s u : State} (h : Waits s) (e : Event s u) : Running u ∨ Waits u := by
  rcases reportsOnly_event e with reports | rfl
  case inr => exact .inl (running_endLoad s)
  cases e with
  | load => exact .inl (running_endLoad s)
  | linkLost p session => rw [h.links] at session; cases session
  | threshold k n timing => rw [h.keys] at timing; cases timing
  | limit k n latched => rw [h.keys] at latched; cases latched
  | silence ready => rw [h.notReady] at ready; cases ready
  | trip g waiting =>
    rw [h.guards] at waiting
    rcases waiting with armed | ⟨n, debouncing⟩
    · cases armed
    · cases debouncing
  | tripAgain g n r recovering => rw [h.guards] at recovering; cases recovering
  | restore g n r recovering => rw [h.guards] at recovering; cases recovering
  | wordReady => rw [wordReady_idle (by rw [h.loading]; rfl)]; exact .inr h
  | readDone => rw [readDone_idle (by rw [h.loading]; exact nofun)]; exact .inr h
  | command => rw [sendCommand_idle h.burst]; exact .inr h
  | abandon => rw [abandon_idle h.burst]; exact .inr h
  | bytes p bs => exact .inr (h.keep_sessions reports (by simp) (sessionsFollow_takeBytes p bs s) (by simp) (by simp)
      (by simp) (by simp) (by simp))
  | byteTimeout p =>
    exact .inr (h.traffic ⟨rfl, rfl, fun q => ((sessionsFollow_setAssembling p [] s).link q).state⟩)
  | frameSent p => exact .inr (h.keep_sessions reports (by simp) (sessionsFollow_frameEnd p s) (by simp) (by simp)
      (by simp) (by simp) (by simp))
  | holdEnds p =>
    refine .inr (h.traffic ⟨rfl, rfl, fun q => ?_⟩)
    unfold setHoldTimer
    rw [link_setLink]
    split
    next same => rw [same]
    next => rfl
  | pulse =>
    rw [pulse_notReady h.notReady] at reports ⊢
    exact .inr (h.keep reports rfl (fun _ => rfl) rfl (fun _ => rfl) rfl rfl fun _ => id)
  | frameExpiry =>
    obtain ⟨routes, burst⟩ := frameExpiry_notReady h.notReady
    exact .inr (h.keep_records reports (by simp) (by simp) (by simp) (by simp) (by simp) burst fun d => by
      rw [entry_congr routes d]; exact id)
  | report d x =>
    exact .inr (h.keep_records reports (by simp) (by simp) (by simp) (by simp) (by simp) (by simp) (bare_report d x s))
  | confirm d =>
    refine .inr (h.keep_records reports (by simp) (by simp) (by simp) (by simp) (by simp) (by simp) fun i bare => ?_)
    unfold confirmExpiry
    split
    · exact bare_setEntry (e := { s.entry d with confirmation := some .unconfirmed }) id i bare
    · exact bare
  | flash => exact .inr (h.keep reports rfl (fun _ => rfl) rfl (fun _ => rfl) rfl rfl fun _ => id)
  | talkSend =>
    have keys : (talkSend s).talk.keys = s.talk.keys := by unfold talkSend; split <;> rfl
    exact .inr (h.keep_sessions reports (by simp) (.of_links (by simp)) keys (by simp) (by simp) (by simp) (by simp))
  | sample l high =>
    refine .inr (h.keep reports (by simp) (fun p => ((SessionsFollow.of_links (by simp)).link p).state) (by simp)
      (fun g => ?_) (by simp) (by simp) fun d => by rw [entry_congr (sampleChange_frame l high s).2.2.1 d]; exact id)
    rcases guards_sampleChange l high s with same | changed
    · rw [guard_congr same]
    · have at_ : (sampleChange l high s).guard g = guardOnChange l high (s.guard g) := by
        unfold State.guard
        rw [changed]
        exact Tab.at_tabOf _ g
      rw [at_, state_guardOnChange_disabled (h.guards g), h.guards g]

/-- Nothing is open while the controller waits. -/
theorem Waits.not_open {s : State} (h : Waits s) : ¬Open s := by
  rintro (ready | ⟨p, session⟩)
  · rw [h.notReady] at ready; cases ready
  · rw [h.links] at session; cases session

theorem quiet_traffic {s t : State} (traffic : TrafficOnly s t) (h : QuietUntilReady s) : QuietUntilReady t := by
  rw [quietUntilReady_iff] at h ⊢
  exact h.imp (·.traffic traffic) (·.traffic traffic)

theorem quiet_startUp (cause : StartCause) (s : State) : QuietUntilReady (startUp cause s) :=
  (quietUntilReady_iff _).mpr (.inr (waits_startUp cause s))

theorem quiet_tick {s : State} (h : QuietUntilReady s) : QuietUntilReady (tick s) := by
  rw [quietUntilReady_iff] at h ⊢
  exact h.imp (fun h => ⟨h.ready, h.loaded⟩) waits_tick

theorem quiet_effect {c : Instr} {s u : State} (h : QuietUntilReady s) (e : Effect c s u) : QuietUntilReady u := by
  rw [quietUntilReady_iff] at h ⊢
  rcases h with running | waits
  · cases e with
    | same => exact .inl running
    | event e => exact .inl (running_event running e)
    | block _ e => exact .inl (running_block running e)
  · cases e with
    | same => exact .inr waits
    | event e => exact waits_event waits e
    | block open_ _ => exact absurd open_ waits.not_open

/-- While anything is open the controller runs. -/
theorem running_of_open {s : State} (h : QuietUntilReady s) (open_ : Open s) : Running s :=
  ((quietUntilReady_iff s).mp h).resolve_right fun waits => waits.not_open open_

/-- Settles O55: before READY no request passes a link and no event has anything to end but the load; after it every
effect keeps READY and the engine out of LOADING. -/
theorem nothingRunsBeforeReady : Obligations.NothingRunsBeforeReady := by
  unfold Obligations.NothingRunsBeforeReady
  intro s t law run
  exact step_keeps quiet_traffic quiet_tick (fun cause _ => quiet_startUp cause _) quiet_effect law run

end Sys2Proof.Machine
end

section
/-! SUPPORT. How the route entries move: the operations on keys and sessions shorten interrupter lists alone, those on
salvos and guards change staged changes and holds alone, and the dirty set only grows. -/

namespace Sys2Proof.Machine

/-- From `s` to `t` only staged changes, holds and interrupter lists have changed in the route table, the lists by what
has left them, and the dirty set has grown. -/
structure EntriesMove (s t : State) : Prop where
  entry : ∀ d, t.entry d = { s.entry d with
    staged := (t.entry d).staged, hold := (t.entry d).hold, interrupters := (t.entry d).interrupters }
  shorter : ∀ d, (t.entry d).interrupters.Sublist (s.entry d).interrupters
  take : t.take = { s.take with dirty := t.take.dirty }
  dirty : ∀ d, s.take.dirty.at d = true → t.take.dirty.at d = true

/-- Of those only the interrupter lists have changed. -/
structure ListsShrink (s t : State) : Prop extends EntriesMove s t where
  staged : ∀ d, (t.entry d).staged = (s.entry d).staged
  hold : ∀ d, (t.entry d).hold = (s.entry d).hold

/-- Of those only staged changes and holds have changed. -/
structure StagesOnly (s t : State) : Prop extends EntriesMove s t where
  lists : ∀ d, (t.entry d).interrupters = (s.entry d).interrupters

section
variable {s t u : State}

theorem ListsShrink.of_routes (routes : t.routes = s.routes) (take : t.take = s.take) : ListsShrink s t where
  entry d := by rw [entry_congr routes d]
  shorter d := by rw [entry_congr routes d]
  take := by rw [take]
  dirty d := by rw [take]; exact id
  staged d := by rw [entry_congr routes d]
  hold d := by rw [entry_congr routes d]

theorem EntriesMove.of_routes (routes : t.routes = s.routes) (take : t.take = s.take) : EntriesMove s t :=
  (ListsShrink.of_routes routes take).toEntriesMove

theorem EntriesMove.refl (s : State) : EntriesMove s s := .of_routes rfl rfl

theorem EntriesMove.trans (st : EntriesMove s t) (tu : EntriesMove t u) : EntriesMove s u where
  entry d := by conv_lhs => rw [tu.entry, st.entry]
  shorter d := (tu.shorter d).trans (st.shorter d)
  take := by conv_lhs => rw [tu.take, st.take]
  dirty d h := tu.dirty d (st.dirty d h)

theorem ListsShrink.refl (s : State) : ListsShrink s s := .of_routes rfl rfl

theorem ListsShrink.trans (st : ListsShrink s t) (tu : ListsShrink t u) : ListsShrink s u where
  toEntriesMove := st.toEntriesMove.trans tu.toEntriesMove
  staged d := (tu.staged d).trans (st.staged d)
  hold d := (tu.hold d).trans (st.hold d)

theorem ListsShrink.then_routes (st : ListsShrink s t) (routes : u.routes = t.routes) (take : u.take = t.take) :
    ListsShrink s u := st.trans (.of_routes routes take)

theorem StagesOnly.of_routes (routes : t.routes = s.routes) (take : t.take = s.take) : StagesOnly s t where
  toEntriesMove := .of_routes routes take
  lists d := by rw [entry_congr routes d]

theorem StagesOnly.refl (s : State) : StagesOnly s s := .of_routes rfl rfl

theorem StagesOnly.trans (st : StagesOnly s t) (tu : StagesOnly t u) : StagesOnly s u where
  toEntriesMove := st.toEntriesMove.trans tu.toEntriesMove
  lists d := (tu.lists d).trans (st.lists d)

theorem StagesOnly.then_routes (st : StagesOnly s t) (routes : u.routes = t.routes) (take : u.take = t.take) :
    StagesOnly s u := st.trans (.of_routes routes take)

theorem EntriesMove.then_routes (st : EntriesMove s t) (routes : u.routes = t.routes) (take : u.take = t.take) :
    EntriesMove s u := st.trans (.of_routes routes take)

theorem ListsShrink.refresh (st : ListsShrink s t) : ListsShrink s (refresh t) := st.then_routes (by simp) (by simp)

/-- A loop of operations that each stage or unstage so. -/
theorem StagesOnly.foldl {α : Type} {f : State → α → State} (h : ∀ s a, StagesOnly s (f s a)) (l : List α) (s : State) :
    StagesOnly s (l.foldl f s) := by
  induction l generalizing s with
  | nil => exact .refl s
  | cons a l ih => exact (h s a).trans (ih _)

theorem ListsShrink.foldl {α : Type} {f : State → α → State} (h : ∀ s a, ListsShrink s (f s a)) (l : List α) (s : State) :
    ListsShrink s (l.foldl f s) := by
  induction l generalizing s with
  | nil => exact .refl s
  | cons a l ih => exact (h s a).trans (ih _)

end

/-! ### Keys and sessions -/

theorem listsShrink_leaveTalk (k : KeyId) (x : KeyTarget) (s : State) : ListsShrink s (leaveTalk k x s) := by
  cases x with
  | party y call => cases call <;> exact .of_routes (by simp [leaveTalk]) (by simp [leaveTalk])
  | ifb d =>
    have entry : ∀ e, (leaveTalk k (.ifb d) s).entry e =
        if d = e then { s.entry e with interrupters := (s.entry e).interrupters.filter (· != k) } else s.entry e :=
      fun e => entry_leaveList k d e s
    refine ⟨⟨fun e => ?_, fun e => ?_, rfl, fun e h => ?_⟩, fun e => ?_, fun e => ?_⟩
    · rw [entry]; split <;> rfl
    · rw [entry]
      split
      · exact List.filter_sublist
      · exact .refl _
    · show (s.take.dirty.put d true).at e = true
      rw [Tab.at_put]
      split
      · rfl
      · exact h
    · rw [entry]; split <;> rfl
    · rw [entry]; split <;> rfl

/-- A transition that does not bring its key into talk. -/
theorem listsShrink_moveKey {k : KeyId} {new : KeyState} {s : State}
    (quiet : new.talking = true → (s.key k).state.talking = true) : ListsShrink s (moveKey k new s) := by
  have keyed : ListsShrink s (s.setKey k { s.key k with state := new }) := .of_routes rfl rfl
  unfold moveKey
  dsimp only
  split
  · exact keyed
  · split
    next enters =>
      rw [Bool.and_eq_true] at enters
      rw [quiet enters.2] at enters
      exact absurd enters.1 (by decide)
    · split
      · exact keyed.trans (listsShrink_leaveTalk ..)
      · exact keyed

theorem listsShrink_moveKeys {f : KeyState → KeyState} (quiet : ∀ x, (f x).talking = true → x.talking = true)
    (ks : List KeyId) (s : State) : ListsShrink s (moveKeys ks f s) :=
  .foldl (f := fun t k => moveKey k (f (t.key k).state) t) (fun _ _ => listsShrink_moveKey (quiet _)) ks s

theorem listsShrink_testQuiesced (p : Pnl) (s : State) : ListsShrink s (testQuiesced p s) := by
  unfold testQuiesced
  split
  · have moved : ListsShrink s (moveKeys (stationKeys p) clearingOff s) :=
      listsShrink_moveKeys (fun x h => clearingOff_talking x ▸ h) _ s
    refine moved.then_routes ?_ ?_
    · simp [enterQuiesced]
    · simp [enterQuiesced]
  · exact .refl s

theorem listsShrink_linkDown (p : Pnl) (s : State) : ListsShrink s (linkDown p s) := by
  have moved : ListsShrink s (moveKeys (stationKeys p) (fun _ => .idle) s) := listsShrink_moveKeys (f := fun _ => .idle) (fun _ => nofun) _ s
  refine moved.then_routes ?_ ?_
  · simp [linkDown]
  · simp [linkDown]

theorem listsShrink_quiesceStarted (p : Pnl) (owed : Option Byte) (s : State) :
    ListsShrink s (quiesceStarted p owed s) := by
  have opened : ListsShrink s (s.setLink p { s.link p with state := .quiescing, quiesceOwed := owed }) := .of_routes rfl rfl
  have moved := opened.trans (listsShrink_moveKeys (fun _ => latchedOff_talking) (stationKeys p) _)
  refine moved.then_routes ?_ ?_
  · simp [quiesceStarted]
  · simp [quiesceStarted]

theorem listsShrink_startQuiesce (p : Pnl) (owed : Option Byte) (s : State) : ListsShrink s (startQuiesce p owed s) :=
  (listsShrink_quiesceStarted p owed s).trans (listsShrink_testQuiesced p _)

theorem listsShrink_silence (s : State) : ListsShrink s (silence s) := by
  have off : ListsShrink s (talkSilenced s) :=
    (listsShrink_moveKeys (fun x h => by rw [talkOff_silent] at h; cases h) (fins 128) s).refresh
  exact (off.trans (.foldl (fun t p => listsShrink_testQuiesced p t) (fins 8) _)).refresh

/-! ### Salvos and guards -/

theorem stagesOnly_setEntry {s : State} {d : Dst} {e : Entry}
    (same : e = { s.entry d with staged := e.staged, hold := e.hold }) : StagesOnly s (s.setEntry d e) := by
  have entry : ∀ i, (s.setEntry d e).entry i = { s.entry i with
      staged := ((s.setEntry d e).entry i).staged, hold := ((s.setEntry d e).entry i).hold } := fun i => by
    by_cases own : d = i
    · subst own
      rw [entry_setEntry_same, same]
    · rw [entry_setEntry_ne s e own]
  refine ⟨⟨fun i => ?_, fun i => ?_, rfl, fun i => id⟩, fun i => ?_⟩
  · rw [entry]
  · rw [entry]
  · rw [entry]

theorem dirty_markDirty (d : Dst) (s : State) (i : Dst) (h : s.take.dirty.at i = true) :
    (s.markDirty d).take.dirty.at i = true := by
  show (s.take.dirty.put d true).at i = true
  rw [Tab.at_put]
  split
  · rfl
  · exact h

theorem stagesOnly_markDirty (d : Dst) (s : State) : StagesOnly s (s.markDirty d) :=
  ⟨⟨fun i => by simp, fun i => by simp, rfl, dirty_markDirty d s⟩, fun i => by simp⟩

theorem stagesOnly_stageOn (d : Dst) (x : Staged) (s : State) : StagesOnly s (stageOn d x s) :=
  (stagesOnly_setEntry (e := { s.entry d with staged := some x }) rfl).trans (stagesOnly_markDirty d _)

theorem stagesOnly_stageSalvo (o : Origin) (tag : Byte) (r : Bool) (ps : List (Dst × Src)) (s : State) :
    StagesOnly s (stageSalvo o tag r ps s) := by
  have pairs : ∀ (ps : List (Dst × Src)) (i : Nat) (s : State), StagesOnly s (stagePairs o tag r i ps s) := by
    intro ps
    induction ps with
    | nil => exact fun _ s => .refl s
    | cons p ps ih => exact fun i s => (stagesOnly_stageOn ..).trans (ih (i + 1) _)
  exact pairs ps 0 s

theorem removeSalvo_entry (m : Mark) (s : State) (d : Dst) : (removeSalvo m s).entry d =
    if (s.entry d).inSalvo m.orig m.tag then { s.entry d with staged := none } else s.entry d := Tab.at_tabOf _ d

theorem stagesOnly_removeSalvo (m : Mark) (s : State) : StagesOnly s (removeSalvo m s) := by
  refine ⟨⟨fun d => ?_, fun d => ?_, rfl, fun d => id⟩, fun d => ?_⟩
  · rw [removeSalvo_entry]; split <;> rfl
  · rw [removeSalvo_entry]; split <;> exact .refl _
  · rw [removeSalvo_entry]; split <;> rfl

theorem routes_requeue (x : PendingSalvo) (s : State) : (requeue x s).routes = s.routes ∧ (requeue x s).take = s.take := by
  simp

theorem stagesOnly_unstageSalvos (ds : List Dst) (s : State) : StagesOnly s (unstageSalvos ds s) := by
  refine .foldl (fun t d => ?_) _ s
  unfold unstageAt
  split
  next m _ => exact (stagesOnly_removeSalvo m t).then_routes (by simp) (by simp)
  · exact .refl t

theorem stagesOnly_holdPairs (g : Gid) (ps : List (Dst × Src)) (s : State) : StagesOnly s (ps.foldl (holdPair g) s) :=
  .foldl (f := holdPair g) (fun t p => (stagesOnly_setEntry (e := { t.entry p.1 with hold := some g }) rfl).trans
    (stagesOnly_stageOn p.1 (.guarded p.2 g) _)) ps s

theorem stagesOnly_trip (g : Gid) (s : State) : StagesOnly s (trip g s) := by
  have unstaged := stagesOnly_unstageSalvos ((s.guard g).defn.fallback.map Prod.fst) s
  have held := stagesOnly_holdPairs g (s.guard g).defn.fallback (unstageSalvos ((s.guard g).defn.fallback.map Prod.fst) s)
  exact (unstaged.trans held).then_routes rfl rfl

theorem stagesOnly_stageReturns (g : Gid) (ds : List Dst) (r : List Src) (s : State) :
    StagesOnly s (stageReturns g ds r s) :=
  .foldl (f := fun t (p : Dst × Src) => stageOn p.1 (.guarded p.2 g) t) (fun t p => stagesOnly_stageOn p.1 _ t) _ s

theorem stagesOnly_endHolds (ds : List Dst) (s : State) : StagesOnly s (endHolds ds s) :=
  .foldl (f := fun t d => t.setEntry d { t.entry d with hold := none })
    (fun t d => stagesOnly_setEntry (e := { t.entry d with hold := none }) rfl) ds s

theorem stagesOnly_examine (xs : List PendingSalvo) (s : State) : StagesOnly s (examine xs s).1 := by
  induction xs generalizing s with
  | nil => exact .refl s
  | cons x xs ih =>
    have told : ∀ kind tag code ended detail (u : State), StagesOnly u (outcome x.orig kind tag code ended detail u) :=
      fun _ _ _ _ _ u => .of_routes (by simp) (by simp)
    unfold examine
    split
    · exact ih s
    · dsimp only
      split
      · exact (told ..).trans (ih _)
      · split
        · exact (told ..).trans (ih _)
        · exact ((stagesOnly_stageSalvo ..).trans (told ..)).trans (ih _)

theorem stagesOnly_restore (g : Gid) (r : List Src) (s : State) : StagesOnly s (restore g r s) := by
  have staged := stagesOnly_stageReturns g ((s.guard g).defn.fallback.map Prod.fst) r s
  have ended := staged.trans (stagesOnly_endHolds ((s.guard g).defn.fallback.map Prod.fst) _)
  have armed := ended.then_routes
    (u := (endHolds ((s.guard g).defn.fallback.map Prod.fst)
      (stageReturns g ((s.guard g).defn.fallback.map Prod.fst) r s)).setGuardState g .armed) rfl rfl
  exact (armed.trans (stagesOnly_examine _ _)).then_routes rfl rfl

/-- The store engine's events move the entries so, from a state `s` before. -/
theorem entriesMove_storeKeeps (s : State) : StoreKeeps (EntriesMove s) where
  store _ h := h.then_routes rfl rfl
  response _ _ _ _ h := h.then_routes rfl rfl
  outcome q i h := h.then_routes (by simp) (by simp)
  test q h := h.trans (listsShrink_testQuiesced q _).toEntriesMove
  stage h _ := h.trans (stagesOnly_stageSalvo ..).toEntriesMove
  queue h _ _ := h.then_routes rfl rfl

/-! ### Takes -/

theorem entry_takeDirty (s : State) (d : Dst) : (takeDirty s).entry d =
    if s.take.dirty.at d then applyStaged (s.entry d) else s.entry d := Tab.at_tabOf _ d

/-- A take event leaves an entry as it is or applies what is staged on it. -/
theorem entry_takeIfBegun (s : State) (d : Dst) :
    (takeIfBegun s).entry d = s.entry d ∨ (takeIfBegun s).entry d = applyStaged (s.entry d) := by
  unfold takeIfBegun
  split
  · unfold takeEvent
    dsimp only
    split
    · exact .inl rfl
    · rw [entry_takeDirty]
      split
      · exact .inr rfl
      · exact .inl rfl
  · exact .inl rfl

theorem entry_pulse (s : State) (d : Dst) :
    (pulse s).entry d = s.entry d ∨ (pulse s).entry d = applyStaged (s.entry d) := by
  unfold pulse
  dsimp only
  split
  · exact entry_takeIfBegun _ d
  · split
    · exact .inl rfl
    · exact entry_takeIfBegun _ d

theorem entry_frameExpiry (s : State) (d : Dst) :
    (frameExpiry s).entry d = s.entry d ∨ (frameExpiry s).entry d = applyStaged (s.entry d) := by
  unfold frameExpiry
  dsimp only
  split
  · exact entry_takeIfBegun _ d
  · split
    · exact entry_takeIfBegun _ d
    · exact .inl rfl

/-- What is staged becomes current; the rest of an entry stands. -/
theorem applyStaged_kept (e : Entry) :
    applyStaged e = { e with current := (applyStaged e).current, staged := none } := by
  unfold applyStaged
  split
  · rfl
  next none => rw [← none]

/-! ### Commands and reports -/

/-- From `s` to `t` only what is commanded, reported and confirmed has changed in the route table, and the dirty set has
grown. -/
structure ConfirmsOnly (s t : State) : Prop where
  entry : ∀ d, t.entry d = { s.entry d with
    commanded := (t.entry d).commanded, confirmation := (t.entry d).confirmation, reported := (t.entry d).reported }
  dirty : ∀ d, s.take.dirty.at d = true → t.take.dirty.at d = true

section
variable {s t u : State}

theorem ConfirmsOnly.of_routes (routes : t.routes = s.routes) (dirty : t.take.dirty = s.take.dirty) : ConfirmsOnly s t :=
  ⟨fun d => by rw [entry_congr routes d], fun d => by rw [dirty]; exact id⟩

theorem ConfirmsOnly.refl (s : State) : ConfirmsOnly s s := .of_routes rfl rfl

theorem ConfirmsOnly.trans (st : ConfirmsOnly s t) (tu : ConfirmsOnly t u) : ConfirmsOnly s u where
  entry d := by conv_lhs => rw [tu.entry, st.entry]
  dirty d h := tu.dirty d (st.dirty d h)

theorem confirmsOnly_setEntry {d : Dst} {e : Entry} (same : e = { s.entry d with
    commanded := e.commanded, confirmation := e.confirmation, reported := e.reported }) :
    ConfirmsOnly s (s.setEntry d e) where
  entry i := by
    by_cases own : d = i
    · subst own
      rw [entry_setEntry_same, same]
    · rw [entry_setEntry_ne s e own]
  dirty i := id

end

theorem confirmsOnly_sendCommand (s : State) : ConfirmsOnly s (sendCommand s) := by
  unfold sendCommand
  split
  next d x rest wait _ =>
    have sent : ConfirmsOnly s (s.setEntry d { s.entry d with
        commanded := some x, reported := none, confirmation := some (.awaiting (twoFrames s)) }) :=
      confirmsOnly_setEntry rfl
    exact sent.trans (.of_routes (refresh_frame _).2.2.1 (by simp))
  · exact .refl s

theorem confirmsOnly_abandon (s : State) : ConfirmsOnly s (abandon s) := by
  have back : ∀ (ps : List (Dst × Src)) (t : State), ConfirmsOnly t (ps.foldl giveBack t) := by
    intro ps
    induction ps with
    | nil => exact .refl
    | cons p ps ih =>
      intro t
      have given : ConfirmsOnly t (t.setEntry p.1 { t.entry p.1 with confirmation := some .unconfirmed }) :=
        confirmsOnly_setEntry rfl
      have dirty : ConfirmsOnly (t.setEntry p.1 { t.entry p.1 with confirmation := some .unconfirmed }) (giveBack t p) :=
        ⟨fun d => by simp [giveBack], dirty_markDirty p.1 _⟩
      exact (given.trans dirty).trans (ih _)
  unfold abandon
  split
  next b _ => exact (back b.todo s).trans (.of_routes rfl rfl)
  · exact .refl s

theorem confirmsOnly_report (d : Dst) (x : Src) (s : State) : ConfirmsOnly s (report d x s) := by
  have told : ∀ c, ConfirmsOnly s (s.setEntry d { s.entry d with reported := some x, confirmation := c }) := fun c =>
    confirmsOnly_setEntry rfl
  unfold report
  dsimp only
  split
  · exact (told _).trans (.of_routes (refresh_frame _).2.2.1 (by simp))
  · exact (told (some .mismatch)).trans (.of_routes (refresh_frame _).2.2.1 (by simp [raise]))

theorem confirmsOnly_confirmExpiry (d : Dst) (s : State) : ConfirmsOnly s (confirmExpiry d s) := by
  unfold confirmExpiry
  split
  · have told : ConfirmsOnly s (s.setEntry d { s.entry d with confirmation := some .unconfirmed }) :=
      confirmsOnly_setEntry rfl
    exact told.trans (.of_routes rfl rfl)
  · exact .refl s

end Sys2Proof.Machine
end

section
/-! SUPPORT. A key's transition into talk, and the three kinds of transition side by side; the obligations O25, O26 and
O27. -/

namespace Sys2Proof.Machine

/-! ### A hold count that rises (R100) -/

theorem holdCount_holdUp (p q : Pnl) (y z : Pty) (s : State) :
    (holdUp p y s).holdCount q z = s.holdCount q z + if p = q ∧ y = z then 1 else 0 := by
  have up : (holdUp p y s).holdCount q z = (s.setHold p y (s.holdCount p y + 1)).holdCount q z := by
    unfold holdUp
    dsimp only
    split
    · simp only [State.holdCount, talk_handCrosspoint]; rfl
    · rfl
  rw [up, holdCount_setHold]
  split
  next same => rw [same.1, same.2]
  next => rfl

theorem crosspoint_holdUp (p q : Pnl) (y z : Pty) (s : State) :
    (holdUp p y s).crosspoint q z = if (p = q ∧ y = z) ∧ s.holdCount q z = 0 then true else s.crosspoint q z := by
  unfold holdUp
  dsimp only
  split
  next zero =>
    have closed : (handCrosspoint p y ((s.setHold p y (s.holdCount p y + 1)).setCrosspoint p y true)).crosspoint q z =
        ((s.setHold p y (s.holdCount p y + 1)).setCrosspoint p y true).crosspoint q z := by
      simp only [State.crosspoint, talk_handCrosspoint]
    rw [closed, crosspoint_setCrosspoint, crosspoint_setHold]
    refine if_congr ?_ rfl rfl
    exact ⟨fun same => ⟨same, by rw [← same.1, ← same.2, zero]⟩, fun h => h.1⟩
  next more =>
    rw [crosspoint_setHold, if_neg]
    rintro ⟨⟨rfl, rfl⟩, zero⟩
    exact more zero

theorem sendList_holdUp (p : Pnl) (y : Pty) (s : State) :
    (holdUp p y s).talk.sendList = s.talk.sendList ++
      if s.holdCount p y = 0 ∧ (p, y) ∉ s.talk.sendList then [(p, y)] else [] := by
  unfold holdUp
  dsimp only
  by_cases zero : s.holdCount p y = 0
  · by_cases there : (p, y) ∈ s.talk.sendList
    · simp [zero, there, talk_handCrosspoint]
    · simp [zero, there, talk_handCrosspoint]
  · simp [zero]

/-- What a hold count's rise leaves of the talk engine. -/
theorem talk_holdUp (p : Pnl) (y : Pty) (s : State) : (holdUp p y s).talk = { s.talk with
    holds := (holdUp p y s).talk.holds, closed := (holdUp p y s).talk.closed
    sendList := (holdUp p y s).talk.sendList } := by
  unfold holdUp
  dsimp only
  split
  · rw [talk_handCrosspoint]; rfl
  · rfl

theorem talk_holdDown_eq (p : Pnl) (y : Pty) (s : State) : (holdDown p y s).talk = { s.talk with
    holds := (holdDown p y s).talk.holds, closed := (holdDown p y s).talk.closed
    sendList := (holdDown p y s).talk.sendList } := by
  unfold holdDown
  dsimp only
  split
  · rw [talk_handCrosspoint]; rfl
  · rfl

/-- A state is known by its records. -/
theorem State.eq_of_records {s t : State} (timing : t.timing = s.timing) (defs : t.defs = s.defs)
    (routes : t.routes = s.routes) (salvos : t.salvos = s.salvos) (take : t.take = s.take) (tally : t.tally = s.tally)
    (talk : t.talk = s.talk) (guards : t.guards = s.guards) (lines : t.lines = s.lines) (links : t.links = s.links)
    (ctl : t.ctl = s.ctl) (store : t.store = s.store) (free : t.free = s.free) (pending : t.pending = s.pending) :
    t = s := by
  cases s
  cases t
  subst timing defs routes salvos take tally talk guards lines links ctl store free pending
  rfl

/-! ### Entering and leaving a target -/

theorem talk_enterTalk_party (k : KeyId) (y : Pty) (call : Bool) (s : State) :
    (enterTalk k (.party y call) s).talk = (holdUp (stationOf k) y s).talk := by
  cases call with
  | false => rfl
  | true => simp [enterTalk]

theorem channel_enterTalk_party (k : KeyId) (y : Pty) (call : Bool) (s : State) (c : Chn) :
    (enterTalk k (.party y call) s).channel c =
      if call = true ∧ s.talk.parties.at y = some c
      then { s.channel c with calls := (s.channel c).calls + 1 } else s.channel c := by
  obtain ⟨-, -, -, -, -, tally, -⟩ := holdUp_frame (stationOf k) y s
  have same : (holdUp (stationOf k) y s).channel c = s.channel c := channel_congr (congrArg TallyUnit.channels tally) c
  cases call with
  | false => simpa [enterTalk] using same
  | true =>
    have counted := channel_countCall y (· + 1) (holdUp (stationOf k) y s) c
    rw [same, talk_holdUp] at counted
    simpa [enterTalk] using counted

/-- Of the state only the talk engine's counts and the channels' calls move with a party target. -/
theorem enterTalk_party_eq (k : KeyId) (y : Pty) (call : Bool) (s : State) :
    enterTalk k (.party y call) s = { s with
      talk := { s.talk with
        holds := (enterTalk k (.party y call) s).talk.holds, closed := (enterTalk k (.party y call) s).talk.closed
        sendList := (enterTalk k (.party y call) s).talk.sendList }
      tally := { s.tally with channels := (enterTalk k (.party y call) s).tally.channels } } := by
  have talk := (talk_enterTalk_party k y call s).trans (talk_holdUp (stationOf k) y s)
  rw [← talk_enterTalk_party k y call s] at talk
  have routes : (enterTalk k (.party y call) s).routes = s.routes ∧ (enterTalk k (.party y call) s).take = s.take := by
    cases call <;> simp [enterTalk]
  exact State.eq_of_records (by simp) (by simp) routes.1 (by simp) routes.2 (enterTalk_kept k _ s).2 talk (by simp)
    (by simp) (by simp) (by simp) (by simp) (by simp) (by simp)

theorem leaveTalk_party_eq (k : KeyId) (y : Pty) (call : Bool) (s : State) :
    leaveTalk k (.party y call) s = { s with
      talk := { s.talk with
        holds := (leaveTalk k (.party y call) s).talk.holds, closed := (leaveTalk k (.party y call) s).talk.closed
        sendList := (leaveTalk k (.party y call) s).talk.sendList }
      tally := { s.tally with channels := (leaveTalk k (.party y call) s).tally.channels } } := by
  have talk := (talk_leaveTalk_party k y call s).trans (talk_holdDown_eq (stationOf k) y s)
  rw [← talk_leaveTalk_party k y call s] at talk
  have routes : (leaveTalk k (.party y call) s).routes = s.routes ∧ (leaveTalk k (.party y call) s).take = s.take := by
    cases call <;> simp [leaveTalk]
  obtain ⟨-, -, -, -, tally⟩ := leaveTalk_kept k (.party y call) s
  exact State.eq_of_records (by simp) (by simp) routes.1 (by simp) routes.2 tally talk (by simp)
    (by simp) (by simp) (by simp) (by simp) (by simp) (by simp)

/-! ### The kinds of transition -/

section
variable {k : KeyId} {new : KeyState} {s : State} {f : KeyDef}

/-- A move between talk states, or between the others, moves the key alone. -/
theorem moveKey_of_same (same : (s.key k).state.talking = new.talking) :
    moveKey k new s = s.setKey k { s.key k with state := new } := by
  unfold moveKey
  dsimp only
  split
  · rfl
  · rw [same]
    cases new.talking <;> rfl

theorem moveKey_of_entering (defn : (s.key k).defn = some f) (off : (s.key k).state.talking = false)
    (on : new.talking = true) : moveKey k new s = enterTalk k f.target (s.setKey k { s.key k with state := new }) := by
  simp [moveKey, defn, off, on]

theorem moveKey_of_leaving (defn : (s.key k).defn = some f) (on : (s.key k).state.talking = true)
    (off : new.talking = false) : moveKey k new s = leaveTalk k f.target (s.setKey k { s.key k with state := new }) := by
  simp [moveKey, defn, on, off]

theorem entry_moveKey_entering_ifb {d : Dst} (defn : (s.key k).defn = some f) (target : f.target = .ifb d)
    (off : (s.key k).state.talking = false) (on : new.talking = true) (e : Dst) :
    (moveKey k new s).entry e = if d = e then { s.entry e with interrupters := (s.entry e).interrupters ++ [k] }
      else s.entry e := by
  rw [moveKey_of_entering defn off on, target]
  simp only [enterTalk, joinList, entry_markDirty, entry_setEntry, entry_setKey]
  split
  next same => rw [same]
  next => rfl

theorem entry_moveKey_entering_party {y : Pty} {call : Bool} (defn : (s.key k).defn = some f)
    (target : f.target = .party y call) (off : (s.key k).state.talking = false) (on : new.talking = true) (e : Dst) :
    (moveKey k new s).entry e = s.entry e := by
  rw [moveKey_of_entering defn off on, target, enterTalk_party_eq]
  rfl

end

/-- Settles O26: the same-kind transition moves the key alone; one into or out of talk moves the target's counts, by the
rise or the fall of a hold count or by the interrupter list. -/
theorem talkTransitionsMoveTheirCounts : Obligations.TalkTransitionsMoveTheirCounts := by
  unfold Obligations.TalkTransitionsMoveTheirCounts
  rintro s k new f defn _ rfl
  refine ⟨?_, fun j other => ?_, fun same => ?_, fun differs => ⟨?_, ?_⟩⟩
  · rw [key_moveKey, if_pos rfl, ← defn]
  · rw [key_moveKey, if_neg (Ne.symm other)]
  · rw [moveKey_of_same same]; rfl
  · rintro y call target p n rfl rfl
    cases on : new.talking with
    | true =>
      have off : (s.key k).state.talking = false := by simpa [on] using differs
      rw [moveKey_of_entering defn off on, target]
      have talk := talk_enterTalk_party k y call (s.setKey k { s.key k with state := new })
      have counts : ∀ q z, (enterTalk k (.party y call) (s.setKey k { s.key k with state := new })).holdCount q z =
          s.holdCount q z + if stationOf k = q ∧ y = z then 1 else 0 := fun q z =>
        (holdCount_congr talk q z).trans (holdCount_holdUp ..)
      have points : ∀ q z, (enterTalk k (.party y call) (s.setKey k { s.key k with state := new })).crosspoint q z =
          if (stationOf k = q ∧ y = z) ∧ s.holdCount q z = 0 then true else s.crosspoint q z := fun q z =>
        (crosspoint_congr talk q z).trans (crosspoint_holdUp ..)
      refine ⟨fun q z other => ?_, ?_, ?_, ?_, fun c => ?_, ?_⟩
      · have ne : ¬(stationOf k = q ∧ y = z) := fun same => other (by rw [same.1, same.2])
        rw [counts, points]
        simp [ne]
      · simp [counts]
      · simp [points]
      · rw [talk, sendList_holdUp]
        by_cases first : s.holdCount (stationOf k) y = 0 ∧ (stationOf k, y) ∉ s.talk.sendList
        · simp [first]
        · simp [first]
      · rw [channel_enterTalk_party]; rfl
      · rw [enterTalk_party_eq]; rfl
    | false =>
      have talks : (s.key k).state.talking = true := by simpa [on] using differs
      rw [moveKey_of_leaving defn talks on, target]
      have talk := talk_leaveTalk_party k y call (s.setKey k { s.key k with state := new })
      have counts : ∀ q z, (leaveTalk k (.party y call) (s.setKey k { s.key k with state := new })).holdCount q z =
          s.holdCount q z - if stationOf k = q ∧ y = z then 1 else 0 := fun q z =>
        (holdCount_congr talk q z).trans (holdCount_holdDown ..)
      have points : ∀ q z, (leaveTalk k (.party y call) (s.setKey k { s.key k with state := new })).crosspoint q z =
          if (stationOf k = q ∧ y = z) ∧ s.holdCount q z = 1 then false else s.crosspoint q z := fun q z =>
        (crosspoint_congr talk q z).trans (crosspoint_holdDown ..)
      refine ⟨fun q z other => ?_, ?_, ?_, ?_, fun c => ?_, ?_⟩
      · have ne : ¬(stationOf k = q ∧ y = z) := fun same => other (by rw [same.1, same.2])
        rw [counts, points]
        simp [ne]
      · simp [counts]
      · simp [points]
      · rw [talk, sendList_holdDown]
        by_cases last : s.holdCount (stationOf k) y = 1 ∧ (stationOf k, y) ∉ s.talk.sendList
        · simp [last]
        · simp [last]
      · rw [channel_leaveTalk_party]; rfl
      · rw [leaveTalk_party_eq]; rfl
  · intro d target
    cases on : new.talking with
    | true =>
      have off : (s.key k).state.talking = false := by simpa [on] using differs
      rw [moveKey_of_entering defn off on, target]
      refine ⟨?_, ?_⟩
      · simp [enterTalk, joinList]
      · simp [enterTalk, joinList, State.setEntry, State.markDirty, State.entry, State.setKey]
    | false =>
      have talks : (s.key k).state.talking = true := by simpa [on] using differs
      rw [moveKey_of_leaving defn talks on, target]
      refine ⟨?_, ?_⟩
      · simp [leaveTalk, leaveList, bne, beq_eq_decide]
      · simp [leaveTalk, leaveList, State.setEntry, State.markDirty, State.entry, State.setKey]

/-! ### KEY UP and the key timers -/

theorem keyUpBlock_range {s : State} {p : Pnl} {n : Nat}
    (h : ¬n < 16 ∨ ∃ i : Fin 16, i.1 = n ∧ (s.key (keyOf p i)).defn = none) :
    keyUpBlock (.panel p) n s = refuseWith .range s := by
  simp only [keyUpBlock, keyAt_eq_none h]

theorem keyUpBlock_released {s : State} {p : Pnl} {i : Fin 16} {f : KeyDef} {x : KeyState}
    (assigned : (s.key (keyOf p i)).defn = some f)
    (table : released s (decide ((s.link p).state = .up)) (s.key (keyOf p i)).state = x) :
    keyUpBlock (.panel p) i.1 s = okWith (testQuiesced p (refresh (moveKey (keyOf p i) x s))) := by
  subst table
  simp only [keyUpBlock, keyAt_of_assigned assigned]

theorem moveKey_stays (k : KeyId) (s : State) : moveKey k (s.key k).state s = s := by
  rw [moveKey_of_same rfl]
  have same : s.talk.keys.put k (s.key k) = s.talk.keys := Tab.put_at _ k
  show { s with talk := { s.talk with keys := s.talk.keys.put k (s.key k) } } = s
  rw [same]

theorem minutes_eq (n : Nat) : Config.minutes n = n * 60000000 := rfl

/-- Settles O25: the row of the release table the key stands in gives its next state. -/
theorem keyUpFollowsTheStateTable : Obligations.KeyUpFollowsTheStateTable := by
  unfold Obligations.KeyUpFollowsTheStateTable
  intro s p tag admitted
  refine ⟨fun n h => answers_of_block rfl admitted (keyUpBlock_range h), ?_⟩
  rintro i f assigned _ _ _ rfl rfl rfl _ rfl
  have release : ∀ {x}, released s (decide ((s.link p).state = .up)) (s.key (keyOf p i)).state = x →
      Answers (.keyUp (.panel p) tag i.1) s (testQuiesced p (refresh (moveKey (keyOf p i) x s))) (.panel p) .keyUp tag
        .ok [] := fun table => answers_of_block rfl admitted (keyUpBlock_released assigned table)
  have stays : released s (decide ((s.link p).state = .up)) (s.key (keyOf p i)).state = (s.key (keyOf p i)).state →
      Answers (.keyUp (.panel p) tag i.1) s (testQuiesced p (refresh s)) (.panel p) .keyUp tag .ok [] := fun table => by
    have same := release table
    rwa [moveKey_stays] at same
  refine ⟨fun n timing up => ⟨fun unlimited => ?_, fun limited => ?_⟩, fun n timing closing => ?_, ?_, ?_⟩
  · exact release (by simp [timing, up, released, limitTimer, unlimited])
  · exact release (by simp [timing, up, released, limitTimer, limited, minutes_eq])
  · exact release (by simp [timing, closing, released])
  · rintro (held | clearing)
    · exact release (by rw [held]; rfl)
    · exact release (by rw [clearing]; rfl)
  · rintro (idle | ⟨n, latched⟩)
    · exact stays (by rw [idle]; rfl)
    · exact stays (by rw [latched]; rfl)

/-- Settles O27: the expiries by the key's state, and the talk port by the head of its list. -/
theorem keyTimersAndTheTalkPort : Obligations.KeyTimersAndTheTalkPort := by
  unfold Obligations.KeyTimersAndTheTalkPort
  refine ⟨fun s k n timing => becomes_of_finish ?_, fun s k n latched => becomes_of_finish ?_,
    fun s p y rest queued => becomes_of_finish ?_⟩
  · have expires : thresholdExpiry k s = moveKey k .held s := by unfold thresholdExpiry; rw [timing]
    exact congrArg (finish s) expires
  · have expires : latchLimitExpiry k s = testQuiesced (stationOf k) (refresh (moveKey k .idle s)) := by
      unfold latchLimitExpiry
      rw [latched]
    exact congrArg (finish s) expires
  · have sends : talkSend s = { s with talk := { s.talk with
        sendList := rest
        talkWord := BitVec.ofNat 16 ((if s.crosspoint p y then 256 else 0) + p.1 * 32 + y.1) } } := by
      unfold talkSend
      rw [queued]
      rfl
    exact congrArg (finish s) sends

end Sys2Proof.Machine
end

section
/-! SUPPORT. Queues, lists, confirmations and the store: what every effect keeps within its bounds; the obligation O60. -/

namespace Sys2Proof.Machine

/-! ### Queues, lists and confirmations -/

/-- An entry's interrupter list is within its capacity and its confirmation agrees with its sources. -/
structure Entry.Good (e : Entry) : Prop where
  room : e.interrupters.length ≤ 8
  confirmed : ConfirmationLawful e

/-- The entries are good, the salvo queue is within its capacity and the send list holds each crosspoint once. -/
structure Roomy (s : State) : Prop where
  entries : ∀ d, (s.entry d).Good
  salvos : s.salvos.length ≤ 4
  sends : s.talk.sendList.Nodup

theorem Entry.Good.move {e f : Entry} (h : e.Good)
    (same : f = { e with staged := f.staged, hold := f.hold, interrupters := f.interrupters })
    (shorter : f.interrupters.Sublist e.interrupters) : f.Good where
  room := shorter.length_le.trans h.room
  confirmed := by
    rw [same]
    exact h.confirmed

/-- Entries that move, with the salvo queue no longer and the send list as it was. -/
theorem Roomy.move {s t : State} (h : Roomy s) (m : EntriesMove s t) (salvos : t.salvos.length ≤ 4)
    (sends : t.talk.sendList.Nodup) : Roomy t where
  entries d := (h.entries d).move (m.entry d) (m.shorter d)
  salvos := salvos
  sends := sends

theorem Roomy.of_same {s t : State} (h : Roomy s) (routes : t.routes = s.routes) (salvos : t.salvos = s.salvos)
    (sends : t.talk.sendList = s.talk.sendList) : Roomy t where
  entries d := by rw [entry_congr routes d]; exact h.entries d
  salvos := salvos ▸ h.salvos
  sends := sends ▸ h.sends

/-- New entries, each good if the old one was, with the queue and the list as they were. -/
theorem Roomy.of_entries {s t : State} (h : Roomy s) (entries : ∀ d, (s.entry d).Good → (t.entry d).Good)
    (salvos : t.salvos = s.salvos) (sends : t.talk.sendList = s.talk.sendList) : Roomy t where
  entries d := entries d (h.entries d)
  salvos := salvos ▸ h.salvos
  sends := sends ▸ h.sends

/-! ### The send list -/

theorem sendsOnce_handed {l : List (Pnl × Pty)} {x : Pnl × Pty} {c : Prop} [Decidable c] (h : l.Nodup) :
    (l ++ if c ∧ x ∉ l then [x] else []).Nodup := by
  split
  next handed =>
    refine h.append (List.nodup_singleton x) fun y hy single => ?_
    rw [List.mem_singleton] at single
    exact handed.2 (single ▸ hy)
  next => simpa using h

theorem sendsOnce_enterTalk {s : State} (h : s.talk.sendList.Nodup) (k : KeyId) (x : KeyTarget) :
    (enterTalk k x s).talk.sendList.Nodup := by
  cases x with
  | ifb d => exact h
  | party y call =>
    rw [talk_enterTalk_party, sendList_holdUp]
    exact sendsOnce_handed h

theorem sendsOnce_leaveTalk {s : State} (h : s.talk.sendList.Nodup) (k : KeyId) (x : KeyTarget) :
    (leaveTalk k x s).talk.sendList.Nodup := by
  cases x with
  | ifb d => exact h
  | party y call =>
    rw [talk_leaveTalk_party, sendList_holdDown]
    exact sendsOnce_handed h

theorem sendsOnce_moveKey {s : State} (h : s.talk.sendList.Nodup) (k : KeyId) (new : KeyState) :
    (moveKey k new s).talk.sendList.Nodup := by
  have keyed : (s.setKey k { s.key k with state := new }).talk.sendList.Nodup := h
  unfold moveKey
  dsimp only
  split
  · exact keyed
  · split
    · exact sendsOnce_enterTalk keyed _ _
    · split
      · exact sendsOnce_leaveTalk keyed _ _
      · exact keyed

theorem sendsOnce_moveKeys {s : State} (h : s.talk.sendList.Nodup) (ks : List KeyId) (f : KeyState → KeyState) :
    (moveKeys ks f s).talk.sendList.Nodup :=
  moveKeys_induction (P := fun t => t.talk.sendList.Nodup) (fun _ _ once => sendsOnce_moveKey once _ _) ks h

theorem sendsOnce_testQuiesced {s : State} (h : s.talk.sendList.Nodup) (p : Pnl) :
    (testQuiesced p s).talk.sendList.Nodup := by
  unfold testQuiesced
  split
  · have talk : (enterQuiesced p s).talk = (moveKeys (stationKeys p) clearingOff s).talk := by simp [enterQuiesced]
    rw [talk]
    exact sendsOnce_moveKeys h _ _
  · exact h

theorem sendsOnce_linkDown {s : State} (h : s.talk.sendList.Nodup) (p : Pnl) : (linkDown p s).talk.sendList.Nodup := by
  have talk : (linkDown p s).talk = (moveKeys (stationKeys p) (fun _ => .idle) s).talk := by simp [linkDown]
  rw [talk]
  exact sendsOnce_moveKeys h _ _

theorem sendsOnce_quiesceStarted {s : State} (h : s.talk.sendList.Nodup) (p : Pnl) (owed : Option Byte) :
    (quiesceStarted p owed s).talk.sendList.Nodup := by
  have talk : (quiesceStarted p owed s).talk = (moveKeys (stationKeys p) latchedOff
      (s.setLink p { s.link p with state := .quiescing, quiesceOwed := owed })).talk := by simp [quiesceStarted]
  rw [talk]
  exact sendsOnce_moveKeys (s := s.setLink p { s.link p with state := .quiescing, quiesceOwed := owed }) h _ _

theorem refresh_talk (s : State) : (refresh s).talk = s.talk := by simp

theorem sendsOnce_silence {s : State} (h : s.talk.sendList.Nodup) : (silence s).talk.sendList.Nodup := by
  have tests : ∀ (ps : List Pnl) (t : State), t.talk.sendList.Nodup →
      (ps.foldl (fun t p => testQuiesced p t) t).talk.sendList.Nodup := by
    intro ps
    induction ps with
    | nil => exact fun _ => id
    | cons p ps ih => exact fun t once => ih _ (sendsOnce_testQuiesced once p)
  have talk : (silence s).talk = ((fins 8).foldl (fun t p => testQuiesced p t) (talkSilenced s)).talk :=
    refresh_talk _
  have off : (talkSilenced s).talk = (moveKeys (fins 128) talkOff s).talk := refresh_talk _
  have silent : (talkSilenced s).talk.sendList.Nodup := by
    rw [off]
    exact sendsOnce_moveKeys h _ _
  rw [talk]
  exact tests _ _ silent

/-! ### The salvo queue -/

theorem salvos_requeue {s : State} (h : s.salvos.length ≤ 4) (x : PendingSalvo) : (requeue x s).salvos.length ≤ 4 := by
  have joined : ¬salvosFull s = true → (joinSalvos x s).salvos.length ≤ 4 := fun room => by
    rw [salvosFull_iff] at room
    simp only [joinSalvos, List.length_append, List.length_singleton]
    omega
  unfold requeue
  dsimp only
  split
  · split
    · split
      · simpa using h
      next room => simpa using joined room
    · simpa using h
    · exact h
    · exact h
  · split
    · exact h
    next room => exact joined room

theorem salvos_unstageSalvos {s : State} (h : s.salvos.length ≤ 4) (ds : List Dst) :
    (unstageSalvos ds s).salvos.length ≤ 4 := by
  unfold unstageSalvos
  generalize (fins 48).filter (fun d => ds.contains d) = es
  induction es generalizing s with
  | nil => exact h
  | cons d es ih =>
    refine ih ?_
    unfold unstageAt
    split
    · exact salvos_requeue (s := removeSalvo _ s) h _
    · exact h

theorem salvos_trip {s : State} (h : s.salvos.length ≤ 4) (g : Gid) : (trip g s).salvos.length ≤ 4 := by
  have held : ∀ (ps : List (Dst × Src)) (t : State), (ps.foldl (holdPair g) t).salvos = t.salvos := by
    intro ps
    induction ps with
    | nil => exact fun _ => rfl
    | cons p ps ih => exact fun t => (ih _).trans (by simp)
  have same : (trip g s).salvos = (unstageSalvos ((s.guard g).defn.fallback.map Prod.fst) s).salvos := by
    simp [trip, raise, held]
  rw [same]
  exact salvos_unstageSalvos h _

theorem examine_sublist (xs : List PendingSalvo) (s : State) : (examine xs s).2.Sublist xs := by
  induction xs generalizing s with
  | nil => exact .refl _
  | cons x xs ih =>
    unfold examine
    split
    · exact (ih s).cons_cons x
    · dsimp only
      split
      · exact (ih _).cons x
      · split
        · exact (ih _).cons x
        · exact (ih _).cons x

theorem salvos_restore {s : State} (g : Gid) (r : List Src) :
    (restore g r s).salvos.Sublist s.salvos := by
  unfold restore
  dsimp only
  have same : ∀ t : State, (driveLines (examineQueue t)).salvos = (examine t.salvos t).2 := fun _ => rfl
  rw [same]
  have before : ((endHolds ((s.guard g).defn.fallback.map Prod.fst)
      (stageReturns g ((s.guard g).defn.fallback.map Prod.fst) r s)).setGuardState g .armed).salvos = s.salvos := by simp
  conv_rhs => rw [← before]
  exact examine_sublist _ _

theorem salvos_dropSalvos (p : Pnl) (s : State) :
    (dropSalvos p s).salvos = s.salvos.filter fun x => x.orig != Origin.panel p := by
  have kept : ∀ (xs : List PendingSalvo) (t : State),
      (xs.foldl (fun t x => outcome (.panel p) (salvoKind x.isRecall) x.tag .dropped true 255 t) t).salvos = t.salvos := by
    intro xs
    induction xs with
    | nil => exact fun _ => rfl
    | cons x xs ih => exact fun t => (ih _).trans (by simp)
  exact kept _ _

theorem salvos_quiesceStarted (p : Pnl) (owed : Option Byte) (s : State) :
    (quiesceStarted p owed s).salvos = s.salvos.filter fun x => x.orig != Origin.panel p := by
  have same : (quiesceStarted p owed s).salvos = (dropSalvos p (moveKeys (stationKeys p) latchedOff
      (s.setLink p { s.link p with state := .quiescing, quiesceOwed := owed }))).salvos := by simp [quiesceStarted]
  rw [same, salvos_dropSalvos]
  simp

/-! ### The effects -/

theorem roomy_storeKeeps : StoreKeeps Roomy where
  store _ h := ⟨h.entries, h.salvos, h.sends⟩
  response _ _ _ _ h := ⟨h.entries, h.salvos, h.sends⟩
  outcome p i h := h.of_same (by simp) (by simp) (by simp)
  test p h := h.move (listsShrink_testQuiesced p _).toEntriesMove (by simpa using h.salvos)
    (sendsOnce_testQuiesced h.sends p)
  stage h _ := h.move (stagesOnly_stageSalvo ..).toEntriesMove (by simpa using h.salvos) (by simpa using h.sends)
  queue h _ room := h.move (.of_routes rfl rfl) (by simpa [joinSalvos] using room) h.sends

theorem roomy_moveKey_quiet {s : State} (h : Roomy s) {k : KeyId} {new : KeyState}
    (quiet : new.talking = true → (s.key k).state.talking = true) : Roomy (moveKey k new s) :=
  h.move (listsShrink_moveKey quiet).toEntriesMove (by simpa using h.salvos) (sendsOnce_moveKey h.sends k new)

theorem Roomy.refresh {s : State} (h : Roomy s) : Roomy (refresh s) := h.of_same (by simp) (by simp) (by simp)

/-- A press brings an IFB key into talk only with room in its target's list (R99). -/
theorem pressed_talking {s : State} {f : KeyDef} {x : KeyState} (off : x.talking = false)
    (on : (pressed s f x).1.talking = true) : listFull s f.target = false := by
  cases x with
  | idle =>
    by_contra full
    rw [Bool.not_eq_false] at full
    rw [pressed_idle_full full] at on
    cases on
  | clearing => cases on
  | timing n => cases off
  | held => cases off
  | latched n => cases off

theorem good_moveKey_pressed {s : State} {k : KeyId} {f : KeyDef} (defn : (s.key k).defn = some f) (d : Dst)
    (h : (s.entry d).Good) : ((moveKey k (pressed s f (s.key k).state).1 s).entry d).Good := by
  by_cases quiet : (pressed s f (s.key k).state).1.talking = true → (s.key k).state.talking = true
  · have moved := listsShrink_moveKey quiet
    exact h.move (moved.entry d) (moved.shorter d)
  · rw [Classical.not_imp, Bool.not_eq_true] at quiet
    obtain ⟨on, off⟩ := quiet
    have room := pressed_talking off on
    cases target : f.target with
    | party y call =>
      rw [entry_moveKey_entering_party defn target off on]
      exact h
    | ifb e =>
      rw [entry_moveKey_entering_ifb defn target off on]
      split
      next same =>
        subst same
        refine ⟨?_, h.confirmed⟩
        have short : ¬8 ≤ (s.entry e).interrupters.length := fun full => by
          rw [(listFull_iff s f.target).mpr ⟨e, target, full⟩] at room
          cases room
        simp only [List.length_append, List.length_singleton]
        omega
      · exact h

theorem roomy_setEntry {s : State} (h : Roomy s) {d : Dst} {e : Entry} (good : e.Good) : Roomy (s.setEntry d e) where
  entries i := by
    by_cases own : d = i
    · subst own; simpa using good
    · simpa [own] using h.entries i
  salvos := h.salvos
  sends := h.sends

theorem roomy_command {s : State} (h : Roomy s) : Roomy (sendCommand s) := by
  unfold sendCommand
  split
  · refine Roomy.refresh (Roomy.of_same (roomy_setEntry h ?_) rfl rfl rfl)
    exact ⟨(h.entries _).room, rfl, rfl⟩
  · exact h

theorem roomy_abandon {s : State} (h : Roomy s) : Roomy (abandon s) := by
  have back : ∀ (ps : List (Dst × Src)) (t : State), Roomy t → Roomy (ps.foldl giveBack t) := by
    intro ps
    induction ps with
    | nil => exact fun _ => id
    | cons p ps ih =>
      refine fun t good => ih _ (Roomy.of_same (roomy_setEntry good (d := p.1)
        (e := { t.entry p.1 with confirmation := some .unconfirmed }) ?_) rfl rfl rfl)
      exact ⟨(good.entries _).room, trivial⟩
  unfold abandon
  split
  next b _ => exact (back b.todo s h).of_same rfl rfl rfl
  · exact h

theorem roomy_report {s : State} (h : Roomy s) (d : Dst) (x : Src) : Roomy (report d x s) := by
  unfold report
  dsimp only
  split
  next commanded =>
    refine Roomy.refresh (roomy_setEntry h ⟨(h.entries d).room, ?_⟩)
    exact ⟨by rw [commanded]; rfl, commanded.symm⟩
  next other =>
    have told : Roomy (s.setEntry d { s.entry d with reported := some x, confirmation := some .mismatch }) :=
      roomy_setEntry h ⟨(h.entries d).room, rfl, fun same => other same.symm⟩
    exact Roomy.refresh (told.of_same rfl rfl rfl)

theorem roomy_confirmExpiry {s : State} (h : Roomy s) (d : Dst) : Roomy (confirmExpiry d s) := by
  unfold confirmExpiry
  split
  · exact Roomy.of_same (roomy_setEntry h (e := { s.entry d with confirmation := some .unconfirmed })
      ⟨(h.entries d).room, trivial⟩) rfl rfl rfl
  · exact h

theorem good_applyStaged {e : Entry} (h : e.Good) : (applyStaged e).Good := by
  unfold applyStaged
  split
  · exact ⟨h.room, h.confirmed⟩
  · exact h

/-- A take event of either kind: what is staged is applied, and no list or confirmation changes. -/
theorem Roomy.taken {s t : State} (h : Roomy s) (entries : ∀ d, t.entry d = s.entry d ∨ t.entry d = applyStaged (s.entry d))
    (salvos : t.salvos = s.salvos) (sends : t.talk.sendList = s.talk.sendList) : Roomy t := by
  refine h.of_entries (fun d good => ?_) salvos sends
  rcases entries d with same | applied
  · rw [same]; exact good
  · rw [applied]; exact good_applyStaged good

theorem entry_install (c : Loaded) (s : State) (d : Dst) :
    (install c s).entry d = { s.entry d with current := (c.defs.at d).home } := Tab.at_tabOf _ d

theorem roomy_endLoad {s : State} (h : Roomy s) : Roomy (endLoad s) := by
  have installed : ∀ c, Roomy (install c s) := fun c => by
    refine h.of_entries (fun d good => ?_) rfl rfl
    rw [entry_install]
    exact ⟨good.room, good.confirmed⟩
  unfold endLoad
  split
  next c _ => exact (installed c).of_same (by simp [enterReady]) (by simp [enterReady]) (by simp [enterReady])
  next => exact (installed .factory).of_same (by simp [enterReady]) (by simp [enterReady]) (by simp [enterReady])

theorem roomy_event {s u : State} (h : Roomy s) (e : Event s u) : Roomy u := by
  cases e with
  | load => exact roomy_endLoad h
  | wordReady => exact roomy_storeKeeps.wordReady h
  | readDone => exact roomy_storeKeeps.readDone h
  | pulse => exact h.taken (entry_pulse s) (by simp) (by simp)
  | frameExpiry => exact h.taken (entry_frameExpiry s) (by simp) (by simp)
  | command => exact roomy_command h
  | abandon => exact roomy_abandon h
  | report d x => exact roomy_report h d x
  | confirm d => exact roomy_confirmExpiry h d
  | linkLost p =>
    refine h.move (listsShrink_linkDown p s).toEntriesMove ?_ (sendsOnce_linkDown h.sends p)
    have fewer : (linkDown p s).salvos = s.salvos.filter fun x => x.orig != Origin.panel p := by simp [linkDown]
    rw [fewer]
    exact (List.length_filter_le _ _).trans h.salvos
  | threshold k n timing => exact roomy_moveKey_quiet h fun _ => by rw [timing]; rfl
  | limit k n => exact roomy_storeKeeps.test _ (roomy_moveKey_quiet (new := .idle) h nofun).refresh
  | silence => exact h.move (listsShrink_silence s).toEntriesMove (by simpa using h.salvos) (sendsOnce_silence h.sends)
  | trip g => exact h.move (stagesOnly_trip g s).toEntriesMove (salvos_trip h.salvos g) (by simpa using h.sends)
  | restore g n r =>
    exact h.move (stagesOnly_restore g r s).toEntriesMove ((salvos_restore g r).length_le.trans h.salvos) (by simpa using h.sends)
  | talkSend =>
    refine h.move (.of_routes (by simp) (by simp)) (by simpa using h.salvos) ?_
    unfold talkSend
    split
    · exact h.sends
    next queued => exact (queued ▸ h.sends).of_cons
  | bytes p bs => exact h.of_same (by simp) (by simp) (by simp)
  | byteTimeout p => exact h.of_same (by simp) (by simp) (by simp)
  | frameSent p => exact h.of_same (by simp) (by simp) (by simp)
  | holdEnds p => exact h.of_same (by simp) (by simp) (by simp)
  | flash => exact h.of_same (by simp) (by simp) (by simp)
  | tripAgain g n r => exact h.of_same rfl rfl rfl
  | sample l high => exact h.of_same (by simp) (by simp) (by simp)

theorem good_restartEntry {e : Entry} (h : e.Good) (wait : Nat) : (restartEntry wait e).Good where
  room := Nat.zero_le _
  confirmed := by
    have before := h.confirmed
    obtain ⟨current, staged, lock, hold, interrupters, commanded, confirmation, reported⟩ := e
    rcases confirmation with _ | (_ | n | _ | _)
    · exact before
    · exact before
    · exact before
    · exact before
    · exact before

theorem entry_restartBlock (tag : Byte) (s : State) (d : Dst) :
    (restartBlock tag s).1.entry d = restartEntry (twoFrames s) (s.entry d) := by
  have same : (restartBlock tag s).1.routes = (restartRoutes s).routes :=
    (refresh_frame (restartLinks (restartGuards (restartTalk (restartRoutes s))))).2.2.1
  rw [entry_congr same d]
  exact Tab.at_tabOf _ d

theorem roomy_block {c : Instr} {s u : State} (h : Roomy s) (e : Block c s u) : Roomy u := by
  cases e with
  | same => exact h
  | quiesce p owed =>
    have fewer : (quiesceStarted p owed s).salvos.length ≤ 4 := by
      rw [salvos_quiesceStarted]
      exact (List.length_filter_le _ _).trans h.salvos
    rw [startQuiesce_eq]
    exact roomy_storeKeeps.test p (h.move (listsShrink_quiesceStarted p owed s).toEntriesMove fewer
      (sendsOnce_quiesceStarted h.sends p owed))
  | route o d x => exact h.move (stagesOnly_stageOn ..).toEntriesMove h.salvos h.sends
  | stage o tag raw ps =>
    exact h.move (stagesOnly_stageSalvo ..).toEntriesMove (by simpa using h.salvos) (by simpa using h.sends)
  | queue o tag raw ps _ room => exact h.move (.of_routes rfl rfl) (by simpa [joinSalvos] using room) h.sends
  | cancel f => exact h.move (.of_routes rfl rfl) ((List.length_filter_le _ _).trans h.salvos) h.sends
  | store op => exact roomy_storeKeeps.joinStore h op
  | release => exact roomy_storeKeeps.startOps _ (roomy_storeKeeps.store _ h)
  | releaseRaw => exact roomy_storeKeeps.startOps _ (roomy_storeKeeps.closeSequence (roomy_storeKeeps.store _ h))
  | keyDown k f _ defn =>
    refine Roomy.refresh ⟨fun d => good_moveKey_pressed defn d (h.entries d), by simpa using h.salvos, ?_⟩
    exact sendsOnce_moveKey h.sends _ _
  | keyUp k up => exact roomy_storeKeeps.test _ (roomy_moveKey_quiet h fun on => released_talking on).refresh
  | restore g r =>
    exact h.move (stagesOnly_restore g r s).toEntriesMove ((salvos_restore g r).length_le.trans h.salvos) (by simpa using h.sends)
  | restart tag =>
    refine ⟨fun d => ?_, Nat.zero_le _, .nil⟩
    rw [entry_restartBlock]
    exact good_restartEntry (h.entries d) _
  | lock o kind d => exact roomy_setEntry h ⟨(h.entries d).room, (h.entries d).confirmed⟩
  | unlock d => exact roomy_setEntry h ⟨(h.entries d).room, (h.entries d).confirmed⟩
  | hello p => exact h.of_same rfl rfl rfl
  | owe p owed => exact h.of_same rfl rfl rfl
  | subscribe p tag classes => exact h.of_same rfl rfl rfl
  | hold p t => exact h.of_same rfl rfl rfl
  | redefine d x => exact h.of_same (by simp) (by simp) (by simp)
  | matrix => exact h.of_same rfl rfl rfl
  | record program preview fresh => exact h.of_same (by simp) (by simp) (by simp)
  | switcher l x => exact h.of_same (by simp) (by simp) (by simp)
  | map ch x => exact h.of_same (by simp) (by simp) (by simp)
  | station p m => exact h.of_same rfl rfl rfl
  | party y ch => exact h.of_same rfl rfl rfl
  | keyDef k f => exact h.of_same (by simp) (by simp) rfl
  | arm g => exact h.of_same rfl rfl rfl
  | disarm g => exact h.of_same rfl rfl rfl
  | defineGuard g f => exact h.of_same rfl rfl rfl
  | latches lines values => exact h.of_same rfl rfl rfl
  | line l x => exact h.of_same rfl rfl rfl
  | attention a m => exact h.of_same rfl rfl rfl
  | timing t => exact h.of_same rfl rfl rfl
  | permit on => exact h.of_same rfl rfl rfl
  | grant => exact h.of_same rfl rfl rfl
  | want job w tag => exact h.of_same rfl rfl rfl
  | rawRead start count => exact h.of_same rfl rfl rfl
  | rawWrite raw cs => exact h.of_same rfl rfl rfl

end Sys2Proof.Machine
end

section
/-! SUPPORT. The store engine's own invariant and the urgent slot; the obligation O60. -/

namespace Sys2Proof.Machine

/-! ### The store -/

/-- The store's memory is canonical, its latch set exactly within a write sequence, its queue within its capacity and
empty under an engine that is IDLE or LOADING. -/
structure StoreEngine.Good (x : StoreEngine) : Prop where
  canonical : Memory.wf x.mem = true
  latched : x.latch = true ↔ x.engine.inFlight.isSome = true
  idle : x.engine = .idle ∨ x.engine = .loading → x.queue = []
  room : x.queue.length ≤ 4

/-- The store is between operations: nothing is in a write sequence and the queue is within its capacity. -/
structure StoreEngine.Between (x : StoreEngine) : Prop where
  canonical : Memory.wf x.mem = true
  unlatched : x.latch = false
  room : x.queue.length ≤ 4

theorem good_startOps {ops : List StoreOp} {s : State} (mem : Memory.wf s.store.mem = true) (latch : s.store.latch = false)
    (short : ops.length ≤ 4) : (startOps ops s).store.Good := by
  induction ops generalizing s with
  | nil =>
    refine ⟨mem, ⟨fun on => ?_, nofun⟩, fun _ => rfl, Nat.zero_le _⟩
    exact absurd (latch.symm.trans on) (by decide)
  | cons op rest ih =>
    have fewer : rest.length ≤ 4 := Nat.le_of_succ_le short
    have writes : (if s.store.permit then
        sendPort [.writeEnable, .writeWord op.base emptyHeader]
          (({ s with store := { s.store with engine := .idle, queue := rest } }.setEngine
            (.busy (.write op (op.base, emptyHeader) op.moreWrites false) none)).setLatch true)
        else startOps rest (tellLink op.orig (firstOutcome op .storeLocked true none
          { s with store := { s.store with engine := .idle, queue := rest } }))).store.Good := by
      split
      · exact ⟨mem, ⟨fun _ => rfl, fun _ => rfl⟩, nofun, fewer⟩
      · exact ih (by simpa using mem) (by simpa using latch) fewer
    unfold startOps
    cases op.work with
    | recallPreset =>
      refine ⟨mem, ⟨fun on => ?_, nofun⟩, nofun, fewer⟩
      exact absurd (latch.symm.trans on) (by decide)
    | save ps => exact writes
    | clear => exact writes

theorem good_afterOp {s : State} (h : s.store.Between) (wanted : Option Byte) : (afterOp wanted s).store.Good := by
  cases wanted with
  | some tag =>
    refine ⟨h.canonical, ⟨fun on => ?_, nofun⟩, nofun, h.room⟩
    exact absurd (h.unlatched.symm.trans on) (by decide)
  | none => exact good_startOps h.canonical h.unlatched h.room

theorem good_endOp {s : State} (h : s.store.Between) (op : StoreOp) (marked : Bool) (wanted : Option Byte) :
    (endOp op marked wanted s).store.Good := by
  refine good_afterOp ?_ wanted
  split
  · exact ⟨h.canonical, h.unlatched, h.room⟩
  · rw [(tellLink_frame op.orig _).2.2.2.2.1]
    exact ⟨h.canonical, h.unlatched, h.room⟩

theorem between_landed {s : State} (h : s.store.Good) (w : Nat × Word) : (closeSequence (landWord w s)).store.Between :=
  ⟨memWrite_wf _ _ _ h.canonical, rfl, h.room⟩

/-- An engine with no word in flight has its latch clear. -/
theorem StoreEngine.Good.unlatched {x : StoreEngine} (h : x.Good) (none : x.engine.inFlight = none) : x.latch = false := by
  rw [← Bool.not_eq_true, h.latched, none]
  exact nofun

theorem StoreEngine.Good.isLatched {x : StoreEngine} (h : x.Good) {w : Nat × Word} (flies : x.engine.inFlight = some w) :
    x.latch = true := by
  rw [h.latched, flies]
  rfl

theorem good_wordReady {s : State} (h : s.store.Good) : (wordReady s).store.Good := by
  have mem : ∀ w : Nat × Word, Memory.wf (memWrite s.store.mem w.1 w.2) = true := fun w => memWrite_wf _ _ _ h.canonical
  unfold wordReady
  split
  next op first rest marked wanted writing =>
    have latch : s.store.latch = true := h.isLatched (w := first) (by rw [writing]; rfl)
    dsimp only
    split
    · exact ⟨mem first, ⟨fun _ => rfl, fun _ => latch⟩, nofun, h.room⟩
    · refine good_endOp ?_ op marked wanted
      split
      · exact between_landed h first
      · rw [(firstOutcome_frame op _ _ _ _).2.2.2.2.2.2.2.2.2.1]
        exact between_landed h first
  next w tag wanted _ =>
    refine good_afterOp ?_ wanted
    exact ⟨mem w, rfl, h.room⟩
  next raw granted =>
    have latch : s.store.latch = true := h.isLatched (w := raw.first) (by rw [granted]; rfl)
    dsimp only
    split
    · exact ⟨mem raw.first, ⟨fun _ => rfl, fun _ => latch⟩, nofun, h.room⟩
    · exact ⟨mem raw.first, ⟨nofun, nofun⟩, nofun, h.room⟩
  · exact h

theorem good_readDone {s : State} (h : s.store.Good) : (readDone s).store.Good := by
  unfold readDone
  split
  next op marked wanted reading =>
    have between : (openPort s).store.Between :=
      ⟨h.canonical, h.unlatched (by rw [reading]; rfl), h.room⟩
    refine good_endOp ?_ op marked wanted
    split
    · exact between
    · rw [(recallResult_frame op _).2.2.2.2.2.2.1]
      exact between
  · exact h

theorem inFlight_markFor (p : Pnl) (e : Engine) : (e.markFor p).inFlight = e.inFlight := by
  rcases e with _ | _ | ⟨_ | _ | _, _⟩ | _ <;> rfl

theorem markFor_idle (p : Pnl) (e : Engine) : e.markFor p = .idle ↔ e = .idle := by
  cases e <;> simp [Engine.markFor]

theorem good_linkDown {s : State} (h : s.store.Good) (p : Pnl) : (linkDown p s).store.Good := by
  rw [store_linkDown]
  refine ⟨h.canonical, h.latched.trans ?_, fun ended => ?_, (List.length_filter_le _ _).trans h.room⟩
  · rw [inFlight_markFor]
  · rw [markFor_idle, markFor_loading] at ended
    show s.store.queue.filter _ = []
    rw [h.idle ended]
    rfl

theorem store_endLoad (s : State) : (endLoad s).store =
    { s.store with engine := .idle, queue := [], permit := false } := by
  unfold endLoad
  split
  · simp [enterReady, install]
  · simp [enterReady, install, raise]

theorem good_event {s u : State} (h : s.store.Good) (e : Event s u) : u.store.Good := by
  cases e with
  | load loading =>
    rw [store_endLoad]
    exact ⟨h.canonical, h.latched.trans (by rw [loading]; exact Iff.rfl), fun _ => rfl, Nat.zero_le _⟩
  | linkLost p => exact good_linkDown h p
  | wordReady => exact good_wordReady h
  | readDone => exact good_readDone h
  | bytes p bs => simpa using h
  | byteTimeout p => simpa using h
  | frameSent p => simpa using h
  | holdEnds p => simpa using h
  | pulse => simpa using h
  | frameExpiry => simpa using h
  | command => simpa using h
  | abandon => simpa using h
  | report d x => simpa using h
  | confirm d => simpa using h
  | flash => simpa using h
  | threshold k n => simpa using h
  | limit k n => simpa using h
  | talkSend => simpa using h
  | silence => simpa using h
  | trip g => simpa using h
  | tripAgain g n r => exact h
  | restore g n r => simpa using h
  | sample l high => simpa using h

theorem good_joinStore {s : State} (h : s.store.Good) (loaded : s.store.engine ≠ .loading) (op : StoreOp)
    (room : s.store.queue.length < 4) : (joinStore op s).store.Good := by
  have longer : (s.store.queue ++ [op]).length ≤ 4 := by simpa using room
  unfold joinStore
  split
  next idle => exact good_startOps h.canonical (h.unlatched (by rw [idle]; rfl)) longer
  next busy => exact ⟨h.canonical, h.latched, fun ended => absurd ended (not_or.mpr ⟨busy, loaded⟩), longer⟩

theorem good_restartBlock {s : State} (h : s.store.Good) (tag : Byte) : (restartBlock tag s).1.store.Good := by
  have store : (restartBlock tag s).1.store = { s.store with
      engine := match s.store.engine.inFlight with
        | some w => .busy (.drain w tag) none
        | none => .idle
      queue := [], permit := false } := rfl
  rw [store]
  refine ⟨h.canonical, h.latched.trans ?_, fun _ => rfl, Nat.zero_le _⟩
  cases s.store.engine.inFlight with
  | none => exact Iff.rfl
  | some w => exact ⟨fun _ => rfl, fun _ => rfl⟩

theorem good_block {c : Instr} {s u : State} (h : s.store.Good) (loaded : s.store.engine ≠ .loading) (e : Block c s u) :
    u.store.Good := by
  cases e with
  | store op room => exact good_joinStore h loaded op room
  | release granted => exact good_startOps h.canonical (h.unlatched (by rw [granted]; rfl)) h.room
  | releaseRaw raw => exact good_startOps h.canonical rfl h.room
  | restart tag => exact good_restartBlock h tag
  | grant idle =>
    exact ⟨h.canonical, h.latched.trans (by rw [idle]; exact Iff.rfl), nofun, h.room⟩
  | want job w tag busy =>
    refine ⟨h.canonical, h.latched.trans ?_, nofun, h.room⟩
    rw [busy]
    cases job <;> exact Iff.rfl
  | rawRead start count => exact ⟨h.canonical, h.latched, h.idle, h.room⟩
  | rawWrite raw cs held => exact ⟨h.canonical, ⟨fun _ => rfl, fun _ => rfl⟩, nofun, h.room⟩
  | permit on => exact ⟨h.canonical, h.latched, h.idle, h.room⟩
  | same => exact h
  | hello p => exact h
  | quiesce p owed => simpa using h
  | owe p owed => exact h
  | subscribe p tag classes => exact h
  | hold p t => simpa using h
  | route o d x => simpa using h
  | lock o kind d => exact h
  | unlock d => exact h
  | redefine d x => simpa using h
  | stage o tag raw ps => simpa using h
  | queue o tag raw ps => exact h
  | cancel f => exact h
  | matrix => exact h
  | record program preview fresh => simpa using h
  | switcher l x => simpa using h
  | map ch x => simpa using h
  | station q m => exact h
  | party y ch => exact h
  | keyDef k f => simpa using h
  | keyDown k f => simpa using h
  | keyUp k up => simpa using h
  | arm g => exact h
  | disarm g => exact h
  | restore g r => simpa using h
  | defineGuard g f => exact h
  | latches lines values => exact h
  | line l x => exact h
  | attention a m => exact h
  | timing t => exact h

/-! ### The urgent slot -/

theorem ctl_endLoad (s : State) : (endLoad s).ctl =
    { s.ctl with ready := true, attention := (endLoad s).ctl.attention } := by
  unfold endLoad
  split
  · simp [enterReady, install]
  · simp [enterReady, install, raise]

/-- The effects leave the urgent slot as it stands, or free it. -/
theorem slotKept_effect {c : Instr} {s u : State} (e : Effect c s u) : SlotKept s u ∨ UrgentSlotFree u := by
  cases e with
  | same => exact .inl ⟨rfl, rfl⟩
  | event e =>
    rcases reportsOnly_event e with reports | rfl
    · exact .inl reports.slot
    · exact .inl ⟨by rw [ctl_endLoad], by rw [ctl_endLoad]⟩
  | block _ e =>
    rcases reportsOnly_block e with reports | ⟨a, m, rfl⟩ | ⟨tag, rfl⟩
    · exact .inl reports.slot
    · exact .inl ⟨rfl, rfl⟩
    · exact .inr ⟨rfl, rfl⟩

theorem SlotKept.free {s t : State} (h : SlotKept s t) (free : UrgentSlotFree s) : UrgentSlotFree t :=
  ⟨h.1.trans free.1, h.2.trans free.2⟩

theorem Answered.slot {u v : State} (h : Answered u v) (free : UrgentSlotFree u) : UrgentSlotFree v := by
  cases h with
  | nothing => exact free
  | reply o typ tag code ps => cases o <;> exact free
  | later typ tag => exact free
  | discard o typ tag => exact SlotKept.free ⟨by simp, by simp⟩ free
  | urgent r => exact ⟨rfl, rfl⟩

theorem urgentSlotFree_exec {c : Instr} {s t : State} (free : UrgentSlotFree s) (run : exec c s = .next t) :
    UrgentSlotFree t := by
  rcases exec_cases run with ⟨cause, rfl⟩ | ⟨w, u, v, -, happens, answered, slot, rfl⟩
  · exact ⟨rfl, rfl⟩
  · have ended : UrgentSlotFree v := by
      rcases slot with kept | ⟨r, rfl⟩
      · exact answered.slot ((slotKept_effect happens).elim (·.free (kept.free free)) id)
      · exact ⟨rfl, rfl⟩
    exact SlotKept.free ⟨by simp, by simp⟩ ended

/-! ### The law -/

/-- What O60 claims beside the urgent slot, with what it needs to be kept. -/
structure Stocked (s : State) : Prop where
  quiet : QuietUntilReady s
  store : s.store.Good
  roomy : Roomy s

theorem Stocked.traffic {s t : State} (traffic : TrafficOnly s t) (h : Stocked s) : Stocked t where
  quiet := quiet_traffic traffic h.quiet
  store := by rw [traffic.rest]; exact h.store
  roomy := h.roomy.of_same (by rw [traffic.rest]) (by rw [traffic.rest]) (by rw [traffic.rest])

theorem good_tickEntry {e : Entry} (h : e.Good) : (tickEntry e).Good where
  room := by rw [tickEntry_kept]; exact h.room
  confirmed := by
    by_cases waits : ∃ n, e.confirmation = some (.awaiting n)
    · obtain ⟨n, waits⟩ := waits
      have before := h.confirmed
      rw [tickEntry_awaiting waits]
      unfold ConfirmationLawful at before ⊢
      rw [waits] at before
      exact before
    · rw [tickEntry_other fun n waiting => waits ⟨n, waiting⟩]
      exact h.confirmed

theorem Stocked.tick {s : State} (h : Stocked s) : Stocked (tick s) where
  quiet := quiet_tick h.quiet
  store := h.store
  roomy := h.roomy.of_entries (fun d => by rw [tick_entry]; exact good_tickEntry) rfl rfl

theorem stocked_startUp {s : State} (cause : StartCause) (h : Stocked s) : Stocked (startUp cause s) where
  quiet := quiet_startUp cause s
  store := by
    refine ⟨?_, ⟨nofun, nofun⟩, fun _ => rfl, Nat.zero_le _⟩
    show Memory.wf (memAfterCut s) = true
    unfold memAfterCut
    split
    · split
      · exact memWrite_wf _ _ _ h.store.canonical
      · exact h.store.canonical
    · exact h.store.canonical
  roomy := by
    refine ⟨fun d => ?_, Nat.zero_le _, .nil⟩
    have fresh : (startUp cause s).entry d = Entry.fresh (DestDef.factory d).home := Tab.at_tabOf _ d
    rw [fresh]
    exact ⟨Nat.zero_le _, rfl, rfl⟩

theorem Stocked.effect {c : Instr} {s u : State} (h : Stocked s) (e : Effect c s u) : Stocked u := by
  refine ⟨quiet_effect h.quiet e, ?_, ?_⟩
  · cases e with
    | same => exact h.store
    | event e => exact good_event h.store e
    | block open_ e => exact good_block h.store (running_of_open h.quiet open_).loaded e
  · cases e with
    | same => exact h.roomy
    | event e => exact roomy_event h.roomy e
    | block _ e => exact roomy_block h.roomy e

/-- Settles O60: the store's invariant, the bounds of the lists and the confirmations are kept by every effect, and the
urgent slot by every command. -/
theorem storesQueuesAndConfirmationsStayLawful : Obligations.StoresQueuesAndConfirmationsStayLawful := by
  unfold Obligations.StoresQueuesAndConfirmationsStayLawful
  rintro s t quiet canonical ⟨latched, idle⟩ ⟨salvos, queue, lists, sends⟩ confirmed free run
  have before : Stocked s := ⟨quiet, ⟨canonical, latched, idle, queue⟩, fun d => ⟨lists d, confirmed d⟩, salvos, sends⟩
  have after : Stocked t := step_keeps .traffic .tick stocked_startUp .effect before run
  have slot : UrgentSlotFree t := by
    rcases step_cases run with rfl | ⟨rest, c, run⟩
    · exact free
    · exact urgentSlotFree_exec (s := { s with pending := rest }) free run
  obtain ⟨-, store, roomy⟩ := after
  exact ⟨store.canonical, ⟨store.latched, store.idle⟩,
    ⟨roomy.salvos, store.room, fun d => (roomy.entries d).room, roomy.sends⟩, fun d => (roomy.entries d).confirmed, slot⟩

end Sys2Proof.Machine
end

section
/-! SUPPORT. What the lamps and the driven lines are computed from, and that every effect leaves them computed; the
obligation O56. -/

namespace Sys2Proof.Machine

/-! ### What the outputs are computed from -/

theorem line_driveLines (s : State) (l : Lid) : (driveLines s).line l = drivenLine s l := Tab.at_tabOf _ l

/-- Every channel shows its lamps as computed. -/
def LampsFollow (s : State) : Prop := ∀ c, lit s (s.channel c) = s.channel c

/-- Every OUT line is driven as computed. -/
def LinesFollow (s : State) : Prop := ∀ l, drivenLine s l = s.line l

theorem lampsFollow_iff (s : State) : LampsFollow s ↔ recompute s = s := by
  refine ⟨fun h => ?_, fun h c => ?_⟩
  · have same : (tabOf fun c => lit s (s.channel c)) = s.tally.channels := Tab.ext_at fun c => (Tab.at_tabOf _ c).trans (h c)
    unfold recompute
    rw [same]
  · rw [← channel_recompute, h]

theorem linesFollow_iff (s : State) : LinesFollow s ↔ driveLines s = s := by
  refine ⟨fun h => ?_, fun h l => ?_⟩
  · have same : tabOf (drivenLine s) = s.lines.recs := Tab.ext_at fun l => (Tab.at_tabOf _ l).trans (h l)
    unfold driveLines
    rw [same]
  · rw [← line_driveLines, h]

theorem outputsFollow_iff (s : State) : OutputsFollow s ↔ LampsFollow s ∧ LinesFollow s := by
  rw [lampsFollow_iff, linesFollow_iff]
  rfl

/-- From `s` to `t` nothing that a lamp is computed from has changed. -/
structure LampsKept (s t : State) : Prop where
  defs : t.defs = s.defs
  sources : ∀ d, (t.entry d).tallySource = (s.entry d).tallySource
  tally : t.tally = { s.tally with
    switcher := t.tally.switcher, flashLit := t.tally.flashLit, flashTimer := t.tally.flashTimer }

/-- Nor anything that a line is driven from, but that a line may have turned to IN or shown a new sample. -/
structure OutputsKept (s t : State) : Prop extends LampsKept s t where
  holds : t.talk.holds = s.talk.holds
  forced : ∀ l, forced t l = forced s l
  recs : ∀ l, t.line l = s.line l ∨ ∃ sample, t.line l = .input sample

section
variable {s t : State}

theorem LampsKept.channel (h : LampsKept s t) (c : Chn) : t.channel c = s.channel c := channel_congr (by rw [h.tally]) c

theorem LampsKept.conditions (h : LampsKept s t) (x : Src) : conditions t x = conditions s x := by
  have given : ∀ f y, givenBy t f y = givenBy s f y := fun f y => by simp only [givenBy, h.defs, h.sources]
  have program : t.tally.program = s.tally.program := by rw [h.tally]
  have preview : t.tally.preview = s.tally.preview := by rw [h.tally]
  have source : t.tally.programSource = s.tally.programSource := by rw [h.tally]
  unfold Machine.conditions programGate carriedIn
  simp only [given, program, preview, source]

theorem LampsKept.lit (h : LampsKept s t) (c : Channel) : lit t c = lit s c := by
  have fresh : t.tally.fresh = s.tally.fresh := by rw [h.tally]
  unfold Machine.lit
  simp only [h.conditions, fresh]

theorem LampsKept.follow (h : LampsKept s t) (before : LampsFollow s) : LampsFollow t := fun c => by
  rw [h.lit, h.channel]
  exact before c

theorem OutputsKept.modeValue (h : OutputsKept s t) (mode : OutMode) (latch : Bool) :
    modeValue t mode latch = modeValue s mode latch := by
  have counts : ∀ p y, t.holdCount p y = s.holdCount p y := fun p y => by simp only [State.holdCount, h.holds]
  cases mode with
  | manual => rfl
  | tally x => simp only [Machine.modeValue, redShown, h.channel]
  | talk y => simp only [Machine.modeValue, partyHeard, counts]

theorem OutputsFollow.keep (before : OutputsFollow s) (h : OutputsKept s t) : OutputsFollow t := by
  rw [outputsFollow_iff] at before ⊢
  obtain ⟨lamps, lines⟩ := before
  refine ⟨h.toLampsKept.follow lamps, fun l => ?_⟩
  rcases h.recs l with same | ⟨sample, input⟩
  · have driven : drivenLine t l = drivenLine s l := by
      unfold drivenLine drivenValue
      simp only [same, h.forced, h.modeValue]
    rw [driven, same]
    exact lines l
  · unfold drivenLine
    rw [input]

/-- The lamps follow as long as nothing they are computed from changes; driving the lines brings those after. -/
theorem LampsFollow.driveLines (h : LampsFollow t) : OutputsFollow (driveLines t) := by
  refine ⟨?_, driveLines_driveLines t⟩
  have lamps : recompute t = t := (lampsFollow_iff t).mp h
  have apart : recompute (Machine.driveLines t) = { Machine.driveLines t with tally := (recompute t).tally } := rfl
  rw [apart, lamps]
  rfl

theorem forced_congr (same : ∀ g, (t.guard g).state.holding = (s.guard g).state.holding ∧
    ((s.guard g).state.holding = true → (t.guard g).defn.action = (s.guard g).defn.action)) (l : Lid) :
    forced t l = forced s l := by
  unfold forced
  congr 1
  funext g
  obtain ⟨holding, action⟩ := same g
  rw [holding]
  split
  next holds => rw [action holds]
  next => rfl

theorem OutputsKept.of_records (defs : t.defs = s.defs) (sources : ∀ d, (t.entry d).tallySource = (s.entry d).tallySource)
    (tally : t.tally = s.tally) (holds : t.talk.holds = s.talk.holds) (guards : t.guards = s.guards)
    (recs : t.lines.recs = s.lines.recs) : OutputsKept s t where
  defs := defs
  sources := sources
  tally := by rw [tally]
  holds := holds
  forced := forced_congr fun g => by rw [guard_congr guards g]; exact ⟨rfl, fun _ => rfl⟩
  recs l := .inl (line_congr recs l)

theorem OutputsKept.of_same (defs : t.defs = s.defs) (routes : t.routes = s.routes) (tally : t.tally = s.tally)
    (talk : t.talk = s.talk) (guards : t.guards = s.guards) (lines : t.lines = s.lines) : OutputsKept s t :=
  .of_records defs (fun d => by rw [entry_congr routes d]) tally (by rw [talk]) guards (by rw [lines])

theorem EntriesMove.tallySource (h : EntriesMove s t) (d : Dst) : (t.entry d).tallySource = (s.entry d).tallySource := by
  rw [h.entry]
  rfl

theorem TrafficOnly.outputs (h : TrafficOnly s t) : OutputsKept s t := by
  refine .of_same ?_ ?_ ?_ ?_ ?_ ?_ <;> rw [h.rest]

end

/-! ### The effects -/

theorem outputsFollow_testQuiesced {s : State} (h : OutputsFollow s) (p : Pnl) : OutputsFollow (testQuiesced p s) := by
  unfold testQuiesced
  split
  · exact refresh_follows _
  · exact h

theorem outputsFollow_storeKeeps : StoreKeeps OutputsFollow where
  store _ h := h.keep (.of_same rfl rfl rfl rfl rfl rfl)
  response _ _ _ _ h := h.keep (.of_same rfl rfl rfl rfl rfl rfl)
  outcome p i h := h.keep (.of_same (by simp) (by simp) (by simp) (by simp) (by simp) (by simp))
  test p h := outputsFollow_testQuiesced h p
  stage h _ := h.keep (.of_records (by simp) (stagesOnly_stageSalvo ..).tallySource (by simp) (by simp) (by simp) (by simp))
  queue h _ _ := h.keep (.of_same rfl rfl rfl rfl rfl rfl)

theorem holding_tickGuard (x : Guard) : (tickGuard x).state.holding = x.state.holding := by
  unfold tickGuard
  split
  next n debouncing => rw [debouncing]; rfl
  next n r recovering => rw [recovering]; rfl
  next => rfl

theorem holding_guardOnChange (l : Lid) (high : Bool) (x : Guard) :
    (guardOnChange l high x).state.holding = x.state.holding := by
  have matches_ : (becomesMatching x).holding = x.state.holding := by
    unfold becomesMatching
    cases x.state <;> rfl
  have stops : (stopsMatching x).holding = x.state.holding := by
    unfold stopsMatching
    cases x.state with
    | tripped r => dsimp only; split <;> rfl
    | _ => rfl
  unfold guardOnChange
  split
  · dsimp only
    split
    · exact matches_
    · exact stops
  · rfl

theorem defn_guardOnChange (l : Lid) (high : Bool) (x : Guard) : (guardOnChange l high x).defn = x.defn := by
  unfold guardOnChange
  split <;> rfl

theorem guard_sampleChange (l : Lid) (high : Bool) (s : State) (g : Gid) : (sampleChange l high s).guard g = s.guard g ∨
    (sampleChange l high s).guard g = guardOnChange l high (s.guard g) := by
  rcases guards_sampleChange l high s with same | changed
  · exact .inl (guard_congr same g)
  · right
    unfold State.guard
    rw [changed]
    exact Tab.at_tabOf _ g

theorem line_sampleChange (l : Lid) (high : Bool) (s : State) (i : Lid) :
    (sampleChange l high s).line i = s.line i ∨ (sampleChange l high s).line i = .input high := by
  unfold sampleChange
  dsimp only
  split
  · split
    · exact .inl rfl
    · show ((setPin l high s).setLine l (.input high)).line i = s.line i ∨ _
      rw [line_setLine]
      split
      · exact .inr (by simp_all [State.line, State.setLine])
      · exact .inl rfl
  · exact .inl rfl

theorem outputsKept_sampleChange (l : Lid) (high : Bool) (s : State) : OutputsKept s (sampleChange l high s) where
  defs := by simp
  sources d := by rw [entry_congr (sampleChange_frame l high s).2.2.1 d]
  tally := by simp
  holds := by simp
  forced := forced_congr fun g => by
    rcases guard_sampleChange l high s g with same | changed
    · rw [same]; exact ⟨rfl, fun _ => rfl⟩
    · rw [changed, holding_guardOnChange, defn_guardOnChange]; exact ⟨rfl, fun _ => rfl⟩
  recs i := (line_sampleChange l high s i).imp id fun input => ⟨high, input⟩

/-- A guard set to a state that holds its line action exactly if it did before. -/
theorem outputsKept_setGuardState {s : State} {g : Gid} {x : GuardState} (same : x.holding = (s.guard g).state.holding) :
    OutputsKept s (s.setGuardState g x) where
  defs := rfl
  sources _ := rfl
  tally := rfl
  holds := rfl
  forced := forced_congr fun h => by
    by_cases own : g = h
    · subst own; rw [guard_setGuardState_same]; exact ⟨same, fun _ => rfl⟩
    · rw [guard_setGuardState_ne s x own]; exact ⟨rfl, fun _ => rfl⟩
  recs _ := .inl rfl

theorem holding_armedState (s : State) (f : GuardDef) : (armedState s f).holding = false := by
  unfold armedState
  split <;> rfl

theorem outputsFollow_armAtStart {s : State} (h : OutputsFollow s) : OutputsFollow (armAtStart s) := by
  unfold armAtStart
  generalize fins 4 = gs
  induction gs generalizing s with
  | nil => exact h
  | cons g gs ih =>
    rw [List.foldl_cons]
    refine ih ?_
    split
    · rw [armBlock_inRange]
      split
      · exact h
      next disabled =>
        split
        · exact h
        · have state : (s.guard g).state = .disabled := (isDisabled_iff _).mp (by simpa using disabled)
          exact h.keep (outputsKept_setGuardState (by rw [holding_armedState, state]; rfl))
    · exact h

theorem outputsFollow_endLoad (s : State) : OutputsFollow (endLoad s) := by
  have ready : ∀ t, OutputsFollow t → OutputsFollow (enterReady t) := fun t follows =>
    follows.keep (.of_same rfl rfl rfl rfl rfl rfl)
  unfold endLoad
  split
  · exact ready _ (outputsFollow_armAtStart (refresh_follows _))
  · exact ready _ (outputsFollow_armAtStart (refresh_follows _))

theorem tallySource_applyStaged (e : Entry) : (applyStaged e).tallySource = e.tallySource := by
  unfold applyStaged
  split <;> rfl

/-- A take event changes no tally source. -/
theorem sources_taken {s t : State} (entries : ∀ d, t.entry d = s.entry d ∨ t.entry d = applyStaged (s.entry d)) (d : Dst) :
    (t.entry d).tallySource = (s.entry d).tallySource := by
  rcases entries d with same | applied
  · rw [same]
  · rw [applied, tallySource_applyStaged]

theorem sources_setEntry {s : State} {d : Dst} {e : Entry} (same : e.tallySource = (s.entry d).tallySource) (i : Dst) :
    ((s.setEntry d e).entry i).tallySource = (s.entry i).tallySource := by
  by_cases own : d = i
  · subst own; simpa using same
  · rw [entry_setEntry_ne s e own]

theorem sources_abandon (s : State) (d : Dst) : ((abandon s).entry d).tallySource = (s.entry d).tallySource := by
  have back : ∀ (ps : List (Dst × Src)) (t : State),
      ((ps.foldl giveBack t).entry d).tallySource = (t.entry d).tallySource := by
    intro ps
    induction ps with
    | nil => exact fun _ => rfl
    | cons p ps ih =>
      intro t
      refine (ih _).trans ?_
      exact sources_setEntry (e := { t.entry p.1 with confirmation := some .unconfirmed }) rfl d
  unfold abandon
  split
  · exact back _ s
  · rfl

theorem sources_confirmExpiry (c d : Dst) (s : State) :
    ((confirmExpiry c s).entry d).tallySource = (s.entry d).tallySource := by
  unfold confirmExpiry
  split
  · exact sources_setEntry (e := { s.entry c with confirmation := some .unconfirmed }) rfl d
  · rfl

/-- The trip action before the lines are driven. -/
def tripped (g : Gid) (s : State) : State :=
  ((s.guard g).defn.fallback.foldl (holdPair g) (unstageSalvos ((s.guard g).defn.fallback.map Prod.fst) s)).setGuardState g
    (.tripped ((s.guard g).defn.fallback.map fun p =>
      ((unstageSalvos ((s.guard g).defn.fallback.map Prod.fst) s).entry p.1).current))

theorem trip_eq (g : Gid) (s : State) : trip g s = raise (.guardTrip g) (driveLines (tripped g s)) := rfl

theorem outputsFollow_trip {s : State} (h : OutputsFollow s) (g : Gid) : OutputsFollow (trip g s) := by
  have tally : (tripped g s).tally = s.tally := (trip_frame g s).2.2.1
  have lamps : LampsKept s (tripped g s) := ⟨(trip_frame g s).2.1, (stagesOnly_trip g s).tallySource, by rw [tally]⟩
  rw [trip_eq]
  exact (lamps.follow ((outputsFollow_iff s).mp h).1).driveLines.keep (.of_same rfl rfl rfl rfl rfl rfl)

/-- The restore action before the lines are driven. -/
def restored (g : Gid) (r : List Src) (s : State) : State :=
  examineQueue ((endHolds ((s.guard g).defn.fallback.map Prod.fst)
    (stageReturns g ((s.guard g).defn.fallback.map Prod.fst) r s)).setGuardState g .armed)

theorem restore_eq (g : Gid) (r : List Src) (s : State) : restore g r s = driveLines (restored g r s) := rfl

theorem outputsFollow_restore {s : State} (h : OutputsFollow s) (g : Gid) (r : List Src) :
    OutputsFollow (restore g r s) := by
  have tally : (restored g r s).tally = s.tally := (restore_frame g r s).2.2.1
  have lamps : LampsKept s (restored g r s) :=
    ⟨(restore_frame g r s).2.1, (stagesOnly_restore g r s).tallySource, by rw [tally]⟩
  rw [restore_eq]
  exact (lamps.follow ((outputsFollow_iff s).mp h).1).driveLines

theorem talk_moveKey_same {k : KeyId} {new : KeyState} {s : State} (same : (s.key k).state.talking = new.talking) :
    OutputsKept s (moveKey k new s) := by
  rw [moveKey_of_same same]
  exact .of_records rfl (fun _ => rfl) rfl rfl rfl rfl

theorem outputsFollow_event {s u : State} (h : OutputsFollow s) (e : Event s u) : OutputsFollow u := by
  cases e with
  | load => exact outputsFollow_endLoad s
  | linkLost p => exact refresh_follows _
  | silence => exact refresh_follows _
  | limit k n => exact outputsFollow_testQuiesced (refresh_follows _) _
  | command =>
    unfold sendCommand
    split
    · exact refresh_follows _
    · exact h
  | report d x =>
    unfold report
    dsimp only
    split <;> exact refresh_follows _
  | wordReady => exact outputsFollow_storeKeeps.wordReady h
  | readDone => exact outputsFollow_storeKeeps.readDone h
  | trip g => exact outputsFollow_trip h g
  | restore g n r => exact outputsFollow_restore h g r
  | tripAgain g n r recovering => exact h.keep (outputsKept_setGuardState (by rw [recovering]; rfl))
  | sample l high => exact h.keep (outputsKept_sampleChange l high s)
  | threshold k n timing => exact h.keep (talk_moveKey_same (by rw [timing]; rfl))
  | pulse => exact h.keep (.of_records (by simp) (sources_taken (entry_pulse s)) (by simp) (by simp) (by simp) (by simp))
  | frameExpiry => exact h.keep (.of_records (by simp) (sources_taken (entry_frameExpiry s)) (by simp) (by simp) (by simp) (by simp))
  | abandon => exact h.keep (.of_records (by simp) (sources_abandon s) (by simp) (by simp) (by simp) (by simp))
  | confirm d => exact h.keep (.of_records (by simp) (fun i => sources_confirmExpiry d i s) (by simp) (by simp) (by simp) (by simp))
  | talkSend =>
    unfold talkSend
    split
    · exact h
    · exact h.keep (.of_records rfl (fun _ => rfl) rfl rfl rfl rfl)
  | flash => exact h.keep ⟨⟨rfl, fun _ => rfl, rfl⟩, rfl, fun _ => rfl, fun _ => .inl rfl⟩
  | bytes p bs => exact h.keep (.of_same (by simp) (by simp) (by simp) (by simp) (by simp) (by simp))
  | byteTimeout p => exact h.keep (.of_same rfl rfl rfl rfl rfl rfl)
  | frameSent p => exact h.keep (.of_same (by simp) (by simp) (by simp) (by simp) (by simp) (by simp))
  | holdEnds p => exact h.keep (.of_same rfl rfl rfl rfl rfl rfl)

/-- Lines that are set anew are driven at once. -/
theorem outputsFollow_driveLines_of_lines {s t : State} (h : OutputsFollow s) (defs : t.defs = s.defs)
    (routes : t.routes = s.routes) (tally : t.tally = s.tally) : OutputsFollow (driveLines t) := by
  have lamps : LampsKept s t := ⟨defs, fun d => by rw [entry_congr routes d], by rw [tally]⟩
  exact (lamps.follow ((outputsFollow_iff s).mp h).1).driveLines

theorem outputsFollow_restartStore {s : State} (h : OutputsFollow s) (tag : Byte) : OutputsFollow (restartStore tag s) :=
  h.keep (.of_same rfl rfl rfl rfl rfl rfl)

theorem outputsFollow_block {c : Instr} {s u : State} (h : OutputsFollow s) (e : Block c s u) : OutputsFollow u := by
  cases e with
  | same => exact h
  | quiesce p owed =>
    rw [startQuiesce_eq]
    exact outputsFollow_testQuiesced (refresh_follows _) p
  | redefine d x => exact refresh_follows _
  | record program preview fresh => exact refresh_follows _
  | switcher l x =>
    unfold setSwitcher
    dsimp only
    split <;> exact refresh_follows _
  | map ch x => exact refresh_follows _
  | keyDown k f => exact refresh_follows _
  | keyUp k up => exact outputsFollow_testQuiesced (refresh_follows _) _
  | restart tag => exact outputsFollow_restartStore (refresh_follows _) tag
  | restore g r => exact outputsFollow_restore h g r
  | latches lines values => exact outputsFollow_driveLines_of_lines h rfl rfl rfl
  | line l x => exact outputsFollow_driveLines_of_lines h rfl rfl rfl
  | store op => exact outputsFollow_storeKeeps.joinStore h op
  | release => exact outputsFollow_storeKeeps.startOps _ (outputsFollow_storeKeeps.store _ h)
  | releaseRaw =>
    exact outputsFollow_storeKeeps.startOps _
      (outputsFollow_storeKeeps.closeSequence (outputsFollow_storeKeeps.store _ h))
  | route o d x =>
    exact h.keep (.of_records rfl (stagesOnly_stageOn d (.routed x o) s).tallySource rfl rfl rfl rfl)
  | stage o tag raw ps =>
    exact h.keep (.of_records (by simp) (stagesOnly_stageSalvo ..).tallySource (by simp) (by simp) (by simp) (by simp))
  | lock o kind d => exact h.keep (.of_records rfl (sources_setEntry rfl) rfl rfl rfl rfl)
  | unlock d => exact h.keep (.of_records rfl (sources_setEntry rfl) rfl rfl rfl rfl)
  | arm g disabled => exact h.keep (outputsKept_setGuardState (by rw [holding_armedState, disabled]; rfl))
  | disarm g idle => exact h.keep (outputsKept_setGuardState (by rw [idle]; rfl))
  | defineGuard g f _ disabled =>
    refine h.keep ⟨⟨rfl, fun _ => rfl, rfl⟩, rfl, forced_congr fun i => ?_, fun _ => .inl rfl⟩
    by_cases own : g = i
    · subst own
      rw [guard_setGuard_same]
      exact ⟨rfl, fun holding => absurd (disabled ▸ holding : GuardState.disabled.holding = true) (by decide)⟩
    · rw [guard_setGuard_ne s _ own]; exact ⟨rfl, fun _ => rfl⟩
  | hello p => exact h.keep (.of_same rfl rfl rfl rfl rfl rfl)
  | owe p owed => exact h.keep (.of_same rfl rfl rfl rfl rfl rfl)
  | subscribe p tag classes => exact h.keep (.of_same rfl rfl rfl rfl rfl rfl)
  | hold p t => exact h.keep (.of_same rfl rfl rfl rfl rfl rfl)
  | queue o tag raw ps => exact h.keep (.of_same rfl rfl rfl rfl rfl rfl)
  | cancel f => exact h.keep (.of_same rfl rfl rfl rfl rfl rfl)
  | matrix => exact h.keep (.of_same rfl rfl rfl rfl rfl rfl)
  | station p m => exact h.keep (.of_records rfl (fun _ => rfl) rfl rfl rfl rfl)
  | party y ch => exact h.keep (.of_records rfl (fun _ => rfl) rfl rfl rfl rfl)
  | keyDef k f => exact h.keep (.of_records rfl (fun _ => rfl) rfl rfl rfl rfl)
  | attention a m => exact h.keep (.of_same rfl rfl rfl rfl rfl rfl)
  | timing t => exact h.keep (.of_same rfl rfl rfl rfl rfl rfl)
  | permit on => exact h.keep (.of_same rfl rfl rfl rfl rfl rfl)
  | grant => exact h.keep (.of_same rfl rfl rfl rfl rfl rfl)
  | want job w tag => exact h.keep (.of_same rfl rfl rfl rfl rfl rfl)
  | rawRead start count => exact h.keep (.of_same rfl rfl rfl rfl rfl rfl)
  | rawWrite raw cs => exact h.keep (.of_same rfl rfl rfl rfl rfl rfl)

theorem defn_of_tick (s : State) (g : Gid) : ((tick s).guard g).defn = (s.guard g).defn := by
  rw [tick_guard, tickGuard_defn]

theorem outputsKept_tick (s : State) : OutputsKept s (tick s) where
  defs := rfl
  sources d := by
    rw [tick_entry, tickEntry_kept]
    rfl
  tally := rfl
  holds := rfl
  forced := forced_congr fun g => by
    rw [tick_guard, holding_tickGuard, tickGuard_defn]
    exact ⟨rfl, fun _ => rfl⟩
  recs _ := .inl rfl

theorem outputsFollow_startUp (cause : StartCause) (s : State) : OutputsFollow (startUp cause s) := by
  rw [outputsFollow_iff]
  refine ⟨fun c => ?_, fun l => ?_⟩
  · have dark : (startUp cause s).channel c = Channel.dark := Tab.at_tabOf _ c
    rw [dark]
    rfl
  · have input : (startUp cause s).line l = .input (s.lines.pins.at l) := Tab.at_tabOf _ l
    unfold drivenLine
    rw [input]

/-- Red and green come from one computation, which puts green out while red shows (R69). -/
theorem neverRedAndGreen_of_follow {s : State} (h : OutputsFollow s) : NeverRedAndGreen s := by
  intro c
  rw [← ((outputsFollow_iff s).mp h).1 c]
  unfold lit
  split
  · exact .inl rfl
  · dsimp only [greenLamp]
    split
    next out => exact .inl out
    next => exact .inr rfl

/-- Settles O56: every effect refreshes the outputs or leaves what they are computed from. -/
theorem outputsAlwaysFollow : Obligations.OutputsAlwaysFollow := by
  unfold Obligations.OutputsAlwaysFollow
  refine ⟨fun s t law run => ?_, fun s => neverRedAndGreen_of_follow⟩
  refine step_keeps (fun traffic h => h.keep traffic.outputs) (fun h => h.keep (outputsKept_tick _))
    (fun cause _ => outputsFollow_startUp cause _) (fun h e => ?_) law run
  cases e with
  | same => exact h
  | event e => exact outputsFollow_event h e
  | block _ e => exact outputsFollow_block h e

end Sys2Proof.Machine
end

section
/-! SUPPORT. The counts of the talk engine in step with its keys, through every transition; the obligation O57. -/

namespace Sys2Proof.Machine

/-! ### The counts -/

/-- The hold counts with their crosspoints, the call counts and the interrupter lists are those of the talking keys. -/
structure Counted (s : State) : Prop where
  holds : HoldCountsExact s
  calls : CallCountsExact s
  lists : InterruptersExact s

/-- From `s` to `t` no key has begun to talk, ceased to, or changed what it talks to, and the counts stand. -/
structure SameTalk (s t : State) : Prop where
  target : ∀ k, (t.key k).talkTarget = (s.key k).talkTarget
  called : ∀ k c, callsChannel t k c = callsChannel s k c
  counts : ∀ p y, t.holdCount p y = s.holdCount p y
  points : ∀ p y, t.crosspoint p y = s.crosspoint p y
  calls : ∀ c, (t.channel c).calls = (s.channel c).calls
  lists : ∀ d, (t.entry d).interrupters = (s.entry d).interrupters

theorem talksTo_congr {x y : Key} (h : x.talkTarget = y.talkTarget) (z : Pty) : x.talksTo z = y.talksTo z := by
  rw [Bool.eq_iff_iff, talksTo_iff, talksTo_iff, h]

theorem Counted.follow {s t : State} (h : Counted s) (same : SameTalk s t) : Counted t where
  holds p y := by
    have talks : ∀ k, (t.key k).talksTo y = (s.key k).talksTo y := fun k => talksTo_congr (same.target k) y
    simp only [talks, same.counts, same.points]
    exact h.holds p y
  calls c := by
    simp only [same.called, same.calls]
    exact h.calls c
  lists d := by
    have members := h.lists d
    simp only [interrupts_iff] at members ⊢
    simp only [same.target, same.lists]
    exact members

/-- Keys, counts and party table stand, and so do the calls and the lists. -/
theorem SameTalk.of_talk {s t : State} (target : ∀ k, (t.key k).talkTarget = (s.key k).talkTarget)
    (parties : t.talk.parties = s.talk.parties) (holds : t.talk.holds = s.talk.holds)
    (closed : t.talk.closed = s.talk.closed) (calls : ∀ c, (t.channel c).calls = (s.channel c).calls)
    (lists : ∀ d, (t.entry d).interrupters = (s.entry d).interrupters) : SameTalk s t where
  target := target
  called k c := by rw [Bool.eq_iff_iff, callsChannel_iff, callsChannel_iff, target, parties]
  counts p y := by simp only [State.holdCount, holds]
  points p y := by simp only [State.crosspoint, closed]
  calls := calls
  lists := lists

theorem SameTalk.of_same {s t : State} (talk : t.talk = s.talk) (tally : t.tally.channels = s.tally.channels)
    (routes : t.routes = s.routes) : SameTalk s t :=
  .of_talk (fun k => by rw [key_congr (show t.talk.keys = s.talk.keys by rw [talk]) k]) (by rw [talk]) (by rw [talk]) (by rw [talk])
    (fun c => by rw [channel_congr tally c]) (fun d => by rw [entry_congr routes d])

/-- No key talks and every count is at its start. -/
theorem counted_of_silent {s : State} (silent : ∀ k, (s.key k).talkTarget = none)
    (counts : ∀ p y, s.holdCount p y = 0 ∧ s.crosspoint p y = false) (calls : ∀ c, (s.channel c).calls = 0)
    (lists : ∀ d, (s.entry d).interrupters = []) : Counted s where
  holds p y := by
    have none : ((stationKeys p).filter fun k => (s.key k).talksTo y) = [] := by
      refine List.filter_eq_nil_iff.mpr fun k _ => ?_
      rw [talksTo_iff, silent]
      exact nofun
    rw [(counts p y).1, (counts p y).2, none]
    simp
  calls c := by
    have none : ((fins 128).filter fun k => callsChannel s k c) = [] := by
      refine List.filter_eq_nil_iff.mpr fun k _ => ?_
      rw [callsChannel_iff, silent]
      exact nofun
    rw [calls, none]
    rfl
  lists d := by
    simp only [interrupts_iff, lists, silent]
    exact ⟨.nil, fun k => ⟨nofun, nofun⟩⟩

/-! ### A key that begins to talk -/

/-- One member more passes a test that it failed before, and the others as before. -/
theorem length_filter_of_on {α : Type} [DecidableEq α] {l : List α} (nodup : l.Nodup) {f g : α → Bool} {k : α}
    (same : ∀ j, j ≠ k → g j = f j) (off : f k = false) :
    (l.filter g).length = (l.filter f).length + if k ∈ l ∧ g k = true then 1 else 0 := by
  have fewer := length_filter_of_off nodup (f := g) (g := f) (fun j other => (same j other).symm) off
  split at fewer
  next there =>
    have some : 0 < (l.filter g).length := List.length_pos_of_mem (List.mem_filter.mpr there)
    rw [if_pos there]
    omega
  next absent =>
    rw [if_neg absent]
    omega

section
variable {k : KeyId} {new : KeyState} {s : State} {f : KeyDef}

theorem talkTarget_moveKey_on (defn : (s.key k).defn = some f) (on : new.talking = true) (j : KeyId) :
    ((moveKey k new s).key j).talkTarget = if k = j then some f.target else (s.key j).talkTarget := by
  rw [key_moveKey]
  split
  · exact talkTarget_eq_some.mpr ⟨on, f.mode, defn⟩
  · rfl

theorem talkTarget_of_quiet (off : (s.key k).state.talking = false) : (s.key k).talkTarget = none := by
  by_contra talks
  obtain ⟨t, some⟩ := Option.ne_none_iff_exists'.mp talks
  rw [(talkTarget_eq_some.mp some).1] at off
  cases off

theorem parties_moveKey_on (defn : (s.key k).defn = some f) (off : (s.key k).state.talking = false)
    (on : new.talking = true) : (moveKey k new s).talk.parties = s.talk.parties := by
  rw [moveKey_of_entering defn off on]
  cases f.target with
  | ifb d => rfl
  | party y call => rw [enterTalk_party_eq]; rfl

theorem holdCountsExact_moveKey_on (defn : (s.key k).defn = some f) (off : (s.key k).state.talking = false)
    (on : new.talking = true) (counts : HoldCountsExact s) : HoldCountsExact (moveKey k new s) := by
  intro p z
  obtain ⟨count, closed⟩ := counts p z
  have quiet := talkTarget_of_quiet off
  have more := length_filter_of_on (nodup_stationKeys p) (k := k) (f := fun j => (s.key j).talksTo z)
    (g := fun j => ((moveKey k new s).key j).talksTo z)
    (fun j other => talksTo_congr (by rw [talkTarget_moveKey_on defn on, if_neg (Ne.symm other)]) z)
    (by rw [← Bool.not_eq_true, talksTo_iff, quiet]; exact nofun)
  simp only [mem_stationKeys, talksTo_iff (((moveKey k new s).key k)) z, talkTarget_moveKey_on defn on, if_true,
    Option.some.injEq] at more
  rw [more, ← count]
  rw [moveKey_of_entering defn off on]
  cases target : f.target with
  | ifb d =>
    have same : ∀ q w, (enterTalk k (.ifb d) (s.setKey k { s.key k with state := new })).holdCount q w = s.holdCount q w ∧
        (enterTalk k (.ifb d) (s.setKey k { s.key k with state := new })).crosspoint q w = s.crosspoint q w :=
      fun q w => ⟨rfl, rfl⟩
    rw [(same p z).1, (same p z).2]
    simpa using closed
  | party y call =>
    have talk := talk_enterTalk_party k y call (s.setKey k { s.key k with state := new })
    rw [holdCount_congr talk, crosspoint_congr talk, holdCount_holdUp, crosspoint_holdUp, holdCount_setKey,
      crosspoint_setKey]
    by_cases joins : stationOf k = p ∧ y = z
    · obtain ⟨rfl, rfl⟩ := joins
      by_cases first : s.holdCount (stationOf k) y = 0
      · simp [first]
      · simp [first, closed]; omega
    · have other : ¬(stationOf k = p ∧ ∃ call', KeyTarget.party y call = .party z call') := by
        rintro ⟨own, call', same⟩
        exact joins ⟨own, by injection same⟩
      simp only [joins, other, if_false, false_and, Nat.add_zero, true_and]
      exact closed

theorem callCountsExact_moveKey_on (defn : (s.key k).defn = some f) (off : (s.key k).state.talking = false)
    (on : new.talking = true) (counts : CallCountsExact s) : CallCountsExact (moveKey k new s) := by
  intro c
  have quiet := talkTarget_of_quiet off
  have parties := parties_moveKey_on defn off on
  have more := length_filter_of_on (nodup_fins 128) (k := k) (f := fun j => callsChannel s j c)
    (g := fun j => callsChannel (moveKey k new s) j c)
    (fun j other => by
      rw [Bool.eq_iff_iff, callsChannel_iff, callsChannel_iff, talkTarget_moveKey_on defn on, if_neg (Ne.symm other),
        parties])
    (by rw [← Bool.not_eq_true, callsChannel_iff, quiet]; exact nofun)
  simp only [mem_fins, true_and, callsChannel_iff (moveKey k new s) k c, talkTarget_moveKey_on defn on, if_true,
    parties, Option.some.injEq] at more
  rw [more, ← counts c, moveKey_of_entering defn off on]
  cases target : f.target with
  | ifb d => simp [enterTalk, State.channel]
  | party y call =>
    rw [channel_enterTalk_party]
    have same : (∃ y', KeyTarget.party y call = .party y' true ∧ s.talk.parties.at y' = some c) ↔
        (call = true ∧ s.talk.parties.at y = some c) := by
      constructor
      · rintro ⟨y', same, mapped⟩
        injection same with party call'
        exact ⟨call', party ▸ mapped⟩
      · rintro ⟨rfl, mapped⟩
        exact ⟨y, rfl, mapped⟩
    simp only [same]
    split
    next called => rw [if_pos (by exact called)]; rfl
    next uncalled => rw [if_neg (by exact uncalled)]; rfl

theorem interruptersExact_moveKey_on (defn : (s.key k).defn = some f) (off : (s.key k).state.talking = false)
    (on : new.talking = true) (counts : InterruptersExact s) : InterruptersExact (moveKey k new s) := by
  intro d
  obtain ⟨nodup, members⟩ := counts d
  have quiet := talkTarget_of_quiet off
  simp only [interrupts_iff] at members ⊢
  simp only [talkTarget_moveKey_on defn on]
  have absent : k ∉ (s.entry d).interrupters := by rw [members, quiet]; exact nofun
  have joined : ((moveKey k new s).entry d).interrupters =
      if f.target = .ifb d then (s.entry d).interrupters ++ [k] else (s.entry d).interrupters := by
    cases target : f.target with
    | party y call => rw [entry_moveKey_entering_party defn target off on]; simp
    | ifb e =>
      rw [entry_moveKey_entering_ifb defn target off on]
      by_cases same : e = d
      · subst same; simp
      · simp [same]
  rw [joined]
  split
  next own =>
    refine ⟨nodup.append (List.nodup_singleton k) fun j hj single => ?_, fun j => ?_⟩
    · rw [List.mem_singleton] at single
      exact absent (single ▸ hj)
    · rw [List.mem_append, members, List.mem_singleton]
      by_cases same : k = j
      · subst same; simp [own]
      · simp [same, Ne.symm same]
  next other =>
    refine ⟨nodup, fun j => ?_⟩
    by_cases same : k = j
    · subst same; simp [absent, other]
    · simp [same, members]

theorem Counted.moveKey (h : Counted s) (k : KeyId) (new : KeyState) : Counted (moveKey k new s) := by
  cases on : new.talking with
  | false =>
    refine ⟨holdCountsExact_moveKey_off on h.holds, fun c => ?_, interruptersExact_moveKey_off on h.lists⟩
    have fewer := callers_moveKey_off (k := k) on s c
    unfold callers at fewer
    rw [fewer, channel_moveKey_off on, h.calls c]
  | true =>
    cases defn : (s.key k).defn with
    | none =>
      have keyed : Machine.moveKey k new s = s.setKey k { s.key k with state := new } := by simp [Machine.moveKey, defn]
      rw [keyed]
      refine h.follow (.of_talk (fun j => ?_) rfl rfl rfl (fun _ => rfl) fun _ => rfl)
      rw [key_setKey]
      split
      next same => subst same; simp [Key.talkTarget, defn]
      next => rfl
    | some f =>
      cases talks : (s.key k).state.talking with
      | false =>
        exact ⟨holdCountsExact_moveKey_on defn talks on h.holds, callCountsExact_moveKey_on defn talks on h.calls,
          interruptersExact_moveKey_on defn talks on h.lists⟩
      | true =>
        rw [moveKey_of_same (talks.trans on.symm)]
        refine h.follow (.of_talk (fun j => ?_) rfl rfl rfl (fun _ => rfl) fun _ => rfl)
        rw [key_setKey]
        split
        next same => subst same; simp [Key.talkTarget, defn, talks, on]
        next => rfl

end

theorem Counted.moveKeys {s : State} (h : Counted s) (ks : List KeyId) (f : KeyState → KeyState) :
    Counted (moveKeys ks f s) :=
  moveKeys_induction (P := Counted) (fun _ k counted => counted.moveKey k _) ks h

end Sys2Proof.Machine
end

section
/-! SUPPORT. The talk engine's law, counts and definitions together, kept by every effect; the obligation O57. -/

namespace Sys2Proof.Machine

/-! ### Definitions of keys -/

/-- From `s` to `t` classes, mic sources and key definitions stand, and an unassigned IDLE key is IDLE still. -/
structure KeysFollow (s t : State) : Prop where
  defs : t.defs = s.defs
  mics : t.talk.mics = s.talk.mics
  defn : ∀ k, (t.key k).defn = (s.key k).defn
  idle : ∀ k, (s.key k).defn = none → (s.key k).state = .idle → (t.key k).state = .idle

theorem targetsIfb_congr {x y : Key} (h : x.defn = y.defn) (d : Dst) : x.targetsIfb d = y.targetsIfb d := by
  rw [Bool.eq_iff_iff, targetsIfb_iff, targetsIfb_iff, h]

/-- The counts of the talk engine are exact and its keys well defined. -/
structure TalkLaw (s : State) : Prop where
  counted : Counted s
  keys : KeysWellDefined s

section
variable {s t : State}

theorem keysWellDefined_follow (h : KeysWellDefined s) (f : KeysFollow s t) : KeysWellDefined t := by
  intro k
  obtain ⟨targets, unassigned⟩ := h k
  refine ⟨fun d own => ?_, fun none => ?_⟩
  · rw [f.defs, f.mics]
    exact targets d (targetsIfb_congr (f.defn k) d ▸ own)
  · rw [f.defn k] at none
    exact f.idle k none (unassigned none)

theorem TalkLaw.follow (h : TalkLaw s) (same : SameTalk s t) (keys : KeysFollow s t) : TalkLaw t :=
  ⟨h.counted.follow same, keysWellDefined_follow h.keys keys⟩

theorem KeysFollow.of_talk (defs : t.defs = s.defs) (mics : t.talk.mics = s.talk.mics) (keys : t.talk.keys = s.talk.keys) :
    KeysFollow s t where
  defs := defs
  mics := mics
  defn k := by rw [key_congr keys k]
  idle k _ idle := by rw [key_congr keys k]; exact idle

/-- Neither the talk engine nor what its counts stand in has changed. -/
theorem TalkLaw.of_same (h : TalkLaw s) (defs : t.defs = s.defs) (talk : t.talk = s.talk)
    (calls : ∀ c, (t.channel c).calls = (s.channel c).calls)
    (lists : ∀ d, (t.entry d).interrupters = (s.entry d).interrupters) : TalkLaw t :=
  h.follow (.of_talk (fun k => by rw [key_congr (show t.talk.keys = s.talk.keys by rw [talk]) k]) (by rw [talk]) (by rw [talk]) (by rw [talk]) calls lists)
    (.of_talk defs (by rw [talk]) (by rw [talk]))

theorem TalkLaw.of_records (h : TalkLaw s) (defs : t.defs = s.defs) (talk : t.talk = s.talk)
    (tally : t.tally.channels = s.tally.channels) (routes : t.routes = s.routes) : TalkLaw t :=
  h.of_same defs talk (fun c => by rw [channel_congr tally c]) fun d => by rw [entry_congr routes d]

/-- Entries that move with their lists as they were. -/
theorem TalkLaw.of_entries (h : TalkLaw s) (defs : t.defs = s.defs) (talk : t.talk = s.talk)
    (tally : t.tally.channels = s.tally.channels)
    (lists : ∀ d, (t.entry d).interrupters = (s.entry d).interrupters) : TalkLaw t :=
  h.of_same defs talk (fun c => by rw [channel_congr tally c]) lists

theorem calls_refresh (s : State) (c : Chn) : ((refresh s).channel c).calls = (s.channel c).calls := by
  have same : (refresh s).channel c = lit s (s.channel c) := channel_recompute s c
  rw [same, lit_calls]

theorem TalkLaw.refresh (h : TalkLaw s) : TalkLaw (refresh s) :=
  h.of_same (by simp) (by simp) (calls_refresh s) fun d => by rw [entry_congr (refresh_frame s).2.2.1 d]

/-! ### Transitions -/

theorem mics_moveKey (k : KeyId) (new : KeyState) (s : State) : (moveKey k new s).talk.mics = s.talk.mics := by
  have entered : ∀ (x : KeyTarget) (t : State), (enterTalk k x t).talk.mics = t.talk.mics := fun x t => by
    cases x with
    | ifb d => rfl
    | party y call => rw [enterTalk_party_eq]
  unfold moveKey
  dsimp only
  split
  · rfl
  · split
    · exact entered _ _
    · split
      · exact (leaveTalk_kept _ _ _).2.1
      · rfl

theorem keysFollow_moveKey {k : KeyId} {new : KeyState} (idle : (s.key k).state = .idle → (s.key k).defn = none → new = .idle) :
    KeysFollow s (moveKey k new s) where
  defs := by simp
  mics := mics_moveKey k new s
  defn j := defn_moveKey k j new s
  idle j none at_ := by
    rw [key_moveKey]
    split
    next same => subst same; exact idle at_ none
    next => exact at_

theorem TalkLaw.moveKey (h : TalkLaw s) {k : KeyId} {new : KeyState}
    (idle : (s.key k).state = .idle → (s.key k).defn = none → new = .idle) : TalkLaw (moveKey k new s) :=
  ⟨h.counted.moveKey k new, keysWellDefined_follow h.keys (keysFollow_moveKey idle)⟩

theorem TalkLaw.moveKeys (h : TalkLaw s) (ks : List KeyId) {f : KeyState → KeyState} (idle : f .idle = .idle) :
    TalkLaw (moveKeys ks f s) :=
  moveKeys_induction (P := TalkLaw) (fun _ _ law => law.moveKey fun at_ _ => by rw [at_, idle]) ks h

theorem talkLaw_testQuiesced (h : TalkLaw s) (p : Pnl) : TalkLaw (testQuiesced p s) := by
  unfold testQuiesced
  split
  · have moved := h.moveKeys (stationKeys p) (f := clearingOff) rfl
    have left : TalkLaw (switcherLost p (payQuiesce ((moveKeys (stationKeys p) clearingOff s).link p).quiesceOwed .quiesced
        ((moveKeys (stationKeys p) clearingOff s).setLink p
          ((moveKeys (stationKeys p) clearingOff s).link p).quiesced))) :=
      moved.of_records (by simp) (by simp) (by simp [tally_switcherLost]) (by simp)
    exact left.refresh
  · exact h

theorem talkLaw_linkDown (h : TalkLaw s) (p : Pnl) : TalkLaw (linkDown p s) := by
  have moved := h.moveKeys (stationKeys p) (f := fun _ => .idle) rfl
  unfold linkDown
  dsimp only
  refine TalkLaw.refresh (moved.of_records (by simp) (by simp) ?_ (by simp))
  simp [tally_switcherLost]

theorem talkLaw_quiesceStarted (h : TalkLaw s) (p : Pnl) (owed : Option Byte) : TalkLaw (quiesceStarted p owed s) := by
  have closing : TalkLaw (s.setLink p { s.link p with state := .quiescing, quiesceOwed := owed }) :=
    h.of_records rfl rfl rfl rfl
  have moved := closing.moveKeys (stationKeys p) (f := latchedOff) rfl
  exact TalkLaw.refresh (moved.of_records (by simp) (by simp) (by simp) (by simp))

theorem talkLaw_silence (h : TalkLaw s) : TalkLaw (silence s) := by
  have tests : ∀ (ps : List Pnl) (t : State), TalkLaw t → TalkLaw (ps.foldl (fun t p => testQuiesced p t) t) := by
    intro ps
    induction ps with
    | nil => exact fun _ => id
    | cons p ps ih => exact fun t law => ih _ (talkLaw_testQuiesced law p)
  exact (tests _ _ (h.moveKeys (fins 128) (f := talkOff) rfl).refresh).refresh

end

/-! ### The effects -/

/-- Staging and holding leave the talk engine and its lists. -/
theorem TalkLaw.staged {s t : State} (h : TalkLaw s) (m : StagesOnly s t) (defs : t.defs = s.defs) (talk : t.talk = s.talk)
    (tally : t.tally = s.tally) : TalkLaw t := h.of_entries defs talk (by rw [tally]) m.lists

theorem talkLaw_storeKeeps : StoreKeeps TalkLaw where
  store _ h := h.of_records rfl rfl rfl rfl
  response _ _ _ _ h := h.of_records rfl rfl rfl rfl
  outcome p i h := h.of_records (by simp) (by simp) (by simp) (by simp)
  test p h := talkLaw_testQuiesced h p
  stage h _ := h.staged (stagesOnly_stageSalvo ..) (by simp) (by simp) (by simp)
  queue h _ _ := h.of_records rfl rfl rfl rfl

/-- Commands, reports and confirmations leave the lists. -/
theorem ConfirmsOnly.lists {s t : State} (h : ConfirmsOnly s t) (d : Dst) :
    (t.entry d).interrupters = (s.entry d).interrupters := by rw [h.entry]

theorem lists_taken {s t : State} (entries : ∀ d, t.entry d = s.entry d ∨ t.entry d = applyStaged (s.entry d)) (d : Dst) :
    (t.entry d).interrupters = (s.entry d).interrupters := by
  rcases entries d with same | applied
  · rw [same]
  · rw [applied, applyStaged_kept]

theorem calls_sendCommand (s : State) (c : Chn) : ((sendCommand s).channel c).calls = (s.channel c).calls := by
  unfold sendCommand
  split
  · exact calls_refresh _ c
  · rfl

theorem calls_report (d : Dst) (x : Src) (s : State) (c : Chn) : ((report d x s).channel c).calls = (s.channel c).calls := by
  unfold report
  dsimp only
  split
  · exact calls_refresh _ c
  · exact calls_refresh _ c

theorem talkTarget_idle {x : Key} (h : x.state = .idle) : x.talkTarget = none := by
  simp [Key.talkTarget, h, KeyState.talking]

/-- With no key talking, exact counts are all zero. -/
theorem Counted.zero {s : State} (h : Counted s) (silent : ∀ k, (s.key k).talkTarget = none) (p : Pnl) (y : Pty) :
    s.holdCount p y = 0 ∧ s.crosspoint p y = false := by
  obtain ⟨count, closed⟩ := h.holds p y
  have none : ((stationKeys p).filter fun k => (s.key k).talksTo y) = [] := by
    refine List.filter_eq_nil_iff.mpr fun k _ => ?_
    rw [talksTo_iff, silent]
    exact nofun
  rw [none] at count
  refine ⟨count, ?_⟩
  rw [← Bool.not_eq_true, closed, count]
  exact Nat.lt_irrefl 0

theorem Counted.uncalled {s : State} (h : Counted s) (silent : ∀ k, (s.key k).talkTarget = none) (c : Chn) :
    (s.channel c).calls = 0 := by
  rw [h.calls c]
  refine List.length_eq_zero_iff.mpr (List.filter_eq_nil_iff.mpr fun k _ => ?_)
  rw [callsChannel_iff, silent]
  exact nofun

/-- The configuration that a load puts in force. -/
def loadedConfig (s : State) : Loaded := (storedConfig s.store.mem).getD .factory

/-- The end of a load is the installation of the configuration found, refreshed, with its guards armed. -/
theorem endLoad_eq (s : State) : ∃ v, endLoad s = enterReady (armAtStart (refresh v)) ∧
    (v = install (loadedConfig s) s ∨ v = raise .configDefaulted (install (loadedConfig s) s)) := by
  unfold endLoad loadedConfig
  split
  next c stored => rw [stored]; exact ⟨_, rfl, .inl rfl⟩
  next stored => rw [stored]; exact ⟨_, rfl, .inr rfl⟩

theorem talk_endLoad (s : State) : (endLoad s).talk = (install (loadedConfig s) s).talk ∧
    (endLoad s).defs = (loadedConfig s).defs := by
  obtain ⟨v, loaded, rfl | rfl⟩ := endLoad_eq s
  · rw [loaded]; simp [enterReady, install]
  · rw [loaded]; simp [enterReady, install, raise]

theorem routes_endLoad (s : State) : (endLoad s).routes = (install (loadedConfig s) s).routes := by
  obtain ⟨v, loaded, rfl | rfl⟩ := endLoad_eq s
  · rw [loaded]; simp [enterReady]
  · rw [loaded]; simp [enterReady, raise]

theorem channel_install (c : Loaded) (s : State) (i : Chn) :
    (install c s).channel i = { s.channel i with mapped := c.mapped.at i } := Tab.at_tabOf _ i

theorem calls_endLoad (s : State) (c : Chn) : ((endLoad s).channel c).calls = (s.channel c).calls := by
  have ready : ∀ v, ((enterReady (armAtStart (refresh v))).channel c).calls = (v.channel c).calls := fun v => by
    have same : (enterReady (armAtStart (refresh v))).tally.channels = (refresh v).tally.channels := by simp [enterReady]
    rw [channel_congr same, calls_refresh]
  obtain ⟨v, loaded, rfl | rfl⟩ := endLoad_eq s
  · rw [loaded, ready, channel_install]
  · rw [loaded, ready]
    show ((install (loadedConfig s) s).channel c).calls = _
    rw [channel_install]

/-- The configuration in force after a load has good IFB keys, stored or factory (R188). -/
theorem keyGood_loadedConfig (s : State) (k : KeyId) : keyGood (loadedConfig s) k = true := by
  unfold loadedConfig
  cases stored : storedConfig s.store.mem with
  | none =>
    have factory : Loaded.factory.keys.at k = none := Tab.at_tabOf _ k
    show keyGood Loaded.factory k = true
    unfold keyGood
    rw [factory]
  | some c =>
    unfold storedConfig judge at stored
    split at stored
    · split at stored
      next c' _ =>
        split at stored
        next checks =>
          cases stored
          simp only [crossChecks, Bool.and_eq_true, List.all_eq_true] at checks
          exact checks.2 k (mem_fins k)
        next => cases stored
      next => cases stored
    · cases stored

theorem talkLaw_endLoad {s : State} (h : TalkLaw s) (waits : Waits s) : TalkLaw (endLoad s) := by
  obtain ⟨talk, defs⟩ := talk_endLoad s
  have key : ∀ k, (endLoad s).key k = { s.key k with defn := (loadedConfig s).keys.at k } := fun k =>
    (key_congr (congrArg TalkEngine.keys talk) k).trans (key_install ..)
  have idle : ∀ k, ((endLoad s).key k).state = .idle := fun k => by rw [key]; exact waits.keys k
  have silent : ∀ k, (s.key k).talkTarget = none := fun k => talkTarget_idle (waits.keys k)
  refine ⟨counted_of_silent (fun k => talkTarget_idle (idle k)) (fun p y => ?_) (fun c => ?_) fun d => ?_, fun k => ?_⟩
  · have same : (endLoad s).holdCount p y = s.holdCount p y ∧ (endLoad s).crosspoint p y = s.crosspoint p y := by
      simp only [State.holdCount, State.crosspoint, talk]
      exact ⟨rfl, rfl⟩
    rw [same.1, same.2]
    exact h.counted.zero silent p y
  · rw [calls_endLoad]
    exact h.counted.uncalled silent c
  · rw [entry_congr (routes_endLoad s), entry_install]
    exact (waits.entries d).2.2.2
  · refine ⟨fun d targets => ?_, fun _ => idle k⟩
    obtain ⟨m, defn⟩ := (targetsIfb_iff _ d).mp targets
    rw [key] at defn
    have good := keyGood_loadedConfig s k
    unfold keyGood at good
    rw [show (loadedConfig s).keys.at k = some ⟨m, .ifb d⟩ from defn] at good
    rw [defs, talk]
    exact (Bool.and_eq_true _ _ ▸ good : _ ∧ _).imp_left of_decide_eq_true

theorem talkLaw_event {s u : State} (h : TalkLaw s) (quiet : QuietUntilReady s) (e : Event s u) : TalkLaw u := by
  cases e with
  | load loading =>
    refine talkLaw_endLoad h (((quietUntilReady_iff s).mp quiet).resolve_left fun running => running.loaded loading)
  | linkLost p => exact talkLaw_linkDown h p
  | wordReady => exact talkLaw_storeKeeps.wordReady h
  | readDone => exact talkLaw_storeKeeps.readDone h
  | threshold k n timing => exact h.moveKey fun idle => by rw [timing] at idle; cases idle
  | limit k n => exact talkLaw_testQuiesced (h.moveKey (new := .idle) fun _ _ => rfl).refresh _
  | silence => exact talkLaw_silence h
  | trip g => exact h.staged (stagesOnly_trip g s) (by simp) (by simp) (by simp)
  | restore g n r => exact h.staged (stagesOnly_restore g r s) (by simp) (by simp) (by simp)
  | pulse => exact h.of_entries (by simp) (by simp) (by simp) (lists_taken (entry_pulse s))
  | frameExpiry => exact h.of_entries (by simp) (by simp) (by simp) (lists_taken (entry_frameExpiry s))
  | command => exact h.of_same (by simp) (by simp) (calls_sendCommand s) (confirmsOnly_sendCommand s).lists
  | abandon => exact h.of_entries (by simp) (by simp) (by simp) (confirmsOnly_abandon s).lists
  | report d x => exact h.of_same (by simp) (by simp) (calls_report d x s) (confirmsOnly_report d x s).lists
  | confirm d => exact h.of_entries (by simp) (by simp) (by simp) (confirmsOnly_confirmExpiry d s).lists
  | talkSend =>
    unfold talkSend
    split
    · exact h
    · exact h.follow (.of_talk (fun _ => rfl) rfl rfl rfl (fun _ => rfl) fun _ => rfl) (.of_talk rfl rfl rfl)
  | bytes p bs => exact h.of_records (by simp) (by simp) (by simp) (by simp)
  | byteTimeout p => exact h.of_records rfl rfl rfl rfl
  | frameSent p => exact h.of_records (by simp) (by simp) (by simp) (by simp)
  | holdEnds p => exact h.of_records rfl rfl rfl rfl
  | flash => exact h.of_records rfl rfl rfl rfl
  | tripAgain g n r => exact h.of_records rfl rfl rfl rfl
  | sample l high => exact h.of_records (by simp) (by simp) (by simp) (by simp)

theorem talkLaw_redefine {s : State} (h : TalkLaw s) {d : Dst} {x : DestDef}
    (free : (s.defs.at d).cls = .ifb → x.cls ≠ .ifb → ifbInUse s d = false) : TalkLaw (redefine d x s) := by
  refine TalkLaw.refresh ⟨h.counted.follow (.of_same rfl rfl rfl), fun k => ⟨fun e targets => ?_, (h.keys k).2⟩⟩
  obtain ⟨ifb, mic⟩ := (h.keys k).1 e targets
  refine ⟨?_, mic⟩
  show ((s.defs.put d x).at e).cls = .ifb
  rw [Tab.at_put]
  split
  next same =>
    subst same
    by_contra other
    have unused := free ifb other
    rw [ifbInUse, Bool.or_eq_false_iff, List.any_eq_false] at unused
    exact unused.1 k (mem_fins k) targets
  next => exact ifb

theorem talkLaw_station {s : State} (h : TalkLaw s) {p : Pnl} {m : Option Src}
    (served : m.isNone = true → stationOwnsIfb s p = false) :
    TalkLaw { s with talk := { s.talk with mics := s.talk.mics.put p m } } := by
  refine ⟨h.counted.follow (.of_talk (fun _ => rfl) rfl rfl rfl (fun _ => rfl) fun _ => rfl), fun k => ⟨fun d targets => ?_, (h.keys k).2⟩⟩
  obtain ⟨ifb, mic⟩ := (h.keys k).1 d targets
  refine ⟨ifb, ?_⟩
  show ((s.talk.mics.put p m).at (stationOf k)).isSome = true
  rw [Tab.at_put]
  split
  next own =>
    by_contra gone
    have unserved := served (by simpa using gone)
    rw [stationOwnsIfb, List.any_eq_false] at unserved
    refine unserved k (mem_stationKeys.mpr own.symm) ?_
    obtain ⟨m, defn⟩ := (targetsIfb_iff _ d).mp targets
    simp only [Key.isIfb, show (s.key k).defn = some ⟨m, .ifb d⟩ from defn]
  next => exact mic

theorem talkLaw_party {s : State} (h : TalkLaw s) {y : Pty} (ch : Option Chn) (silent : partyCalled s y = false) :
    TalkLaw { s with talk := { s.talk with parties := s.talk.parties.put y ch } } := by
  refine h.follow ⟨fun _ => rfl, fun k c => ?_, fun _ _ => rfl, fun _ _ => rfl, fun _ => rfl, fun _ => rfl⟩
    (.of_talk rfl rfl rfl)
  rw [Bool.eq_iff_iff, callsChannel_iff, callsChannel_iff]
  refine exists_congr fun z => and_congr_right fun talks => ?_
  have other : y ≠ z := fun same => by
    subst same
    obtain ⟨talking, m, defn⟩ := talkTarget_eq_some.mp talks
    rw [partyCalled, List.any_eq_false] at silent
    refine silent k (mem_fins k) ?_
    have called : (s.key k).callsParty y = true := by
      simp [Key.callsParty, show (s.key k).defn = some ⟨m, .party y true⟩ from defn]
    rw [called, show (s.key k).state.talking = true from talking]
    rfl
  show (s.talk.parties.put y ch).at z = some c ↔ _
  rw [Tab.at_put, if_neg other]

theorem talkLaw_setKeyDef {s : State} (h : TalkLaw s) {k : KeyId} {f : Option KeyDef} (idle : (s.key k).state = .idle)
    (good : ∀ m d, f = some ⟨m, .ifb d⟩ →
      (s.defs.at d).cls = .ifb ∧ (s.talk.mics.at (stationOf k)).isSome = true) : TalkLaw (setKeyDef k f s) := by
  have key : ∀ j, (setKeyDef k f s).key j = if k = j then { s.key k with defn := f } else s.key j := fun j =>
    key_setKey s k j _
  refine ⟨h.counted.follow (.of_talk (fun j => ?_) rfl rfl rfl (fun _ => rfl) fun _ => rfl), fun j => ?_⟩
  · rw [key]
    split
    next same =>
      subst same
      rw [talkTarget_idle idle]
      exact talkTarget_idle idle
    next => rfl
  · rw [key]
    split
    next same =>
      subst same
      refine ⟨fun d targets => ?_, fun _ => idle⟩
      obtain ⟨m, defn⟩ := (targetsIfb_iff _ d).mp targets
      exact good m d defn
    next => exact h.keys j

theorem channels_restartBlock (tag : Byte) (s : State) (c : Chn) : ((restartBlock tag s).1.channel c).calls = 0 := by
  have same : (restartBlock tag s).1.channel c =
      (refresh (restartLinks (restartGuards (restartTalk (restartRoutes s))))).channel c := rfl
  have cleared : (restartLinks (restartGuards (restartTalk (restartRoutes s)))).channel c = { s.channel c with calls := 0 } :=
    Tab.at_tabOf _ c
  rw [same, calls_refresh, cleared]

theorem talkLaw_restartBlock {s : State} (h : TalkLaw s) (tag : Byte) : TalkLaw (restartBlock tag s).1 := by
  have idle : ∀ k, ((restartBlock tag s).1.key k).state = .idle := fun k => by rw [key_restartBlock]
  refine ⟨counted_of_silent (fun k => talkTarget_idle (idle k)) (fun p y => ⟨?_, ?_⟩) (channels_restartBlock tag s)
    fun d => by rw [entry_restartBlock]; rfl, fun k => ⟨fun d targets => ?_, fun _ => idle k⟩⟩
  · show ((tabOf fun _ => tabOf fun _ => 0 : Tab (Tab Nat 32) 8).at p).at y = 0
    simp
  · show ((tabOf fun _ => tabOf fun _ => false : Tab (Tab Bool 32) 8).at p).at y = false
    simp
  · rw [key_restartBlock] at targets
    exact (h.keys k).1 d targets

theorem talkLaw_block {c : Instr} {s u : State} (h : TalkLaw s) (e : Block c s u) : TalkLaw u := by
  cases e with
  | same => exact h
  | quiesce p owed => exact talkLaw_testQuiesced (talkLaw_quiesceStarted h p owed) p
  | redefine d x _ free => exact talkLaw_redefine h free
  | station p m _ served => exact talkLaw_station h served
  | party y ch silent => exact talkLaw_party h ch silent
  | keyDef k f idle good => exact talkLaw_setKeyDef h idle good
  | keyDown k f _ defn =>
    exact (h.moveKey fun _ none => by rw [defn] at none; cases none).refresh
  | keyUp k up => exact talkLaw_testQuiesced (h.moveKey fun idle _ => by rw [idle]; rfl).refresh _
  | restart tag => exact talkLaw_restartBlock h tag
  | restore g r => exact h.staged (stagesOnly_restore g r s) (by simp) (by simp) (by simp)
  | store op => exact talkLaw_storeKeeps.joinStore h op
  | release => exact talkLaw_storeKeeps.startOps _ (talkLaw_storeKeeps.store _ h)
  | releaseRaw =>
    exact talkLaw_storeKeeps.startOps _ (talkLaw_storeKeeps.closeSequence (talkLaw_storeKeeps.store _ h))
  | route o d x => exact h.staged (stagesOnly_stageOn ..) rfl rfl rfl
  | stage o tag raw ps => exact h.staged (stagesOnly_stageSalvo ..) (by simp) (by simp) (by simp)
  | lock o kind d =>
    refine h.of_entries rfl rfl rfl fun i => ?_
    rw [entry_setEntry]
    split
    next same => rw [same]
    next => rfl
  | unlock d =>
    refine h.of_entries rfl rfl rfl fun i => ?_
    rw [entry_setEntry]
    split
    next same => rw [same]
    next => rfl
  | record program preview fresh => exact TalkLaw.refresh (h.of_records rfl rfl rfl rfl)
  | switcher l x =>
    unfold setSwitcher
    dsimp only
    split
    · exact TalkLaw.refresh (h.of_records rfl rfl rfl rfl)
    · exact TalkLaw.refresh (h.of_records rfl rfl rfl rfl)
  | map ch x =>
    refine TalkLaw.refresh (h.of_same rfl rfl (fun c => ?_) fun _ => rfl)
    rw [channel_setChannel]
    split
    next same => rw [same]
    next => rfl
  | hello p => exact h.of_records rfl rfl rfl rfl
  | owe p owed => exact h.of_records rfl rfl rfl rfl
  | subscribe p tag classes => exact h.of_records rfl rfl rfl rfl
  | hold p t => exact h.of_records rfl rfl rfl rfl
  | queue o tag raw ps => exact h.of_records rfl rfl rfl rfl
  | cancel f => exact h.of_records rfl rfl rfl rfl
  | matrix => exact h.of_records rfl rfl rfl rfl
  | arm g => exact h.of_records rfl rfl rfl rfl
  | disarm g => exact h.of_records rfl rfl rfl rfl
  | defineGuard g f => exact h.of_records rfl rfl rfl rfl
  | latches lines values => exact h.of_records rfl rfl rfl rfl
  | line l x => exact h.of_records rfl rfl rfl rfl
  | attention a m => exact h.of_records rfl rfl rfl rfl
  | timing t => exact h.of_records rfl rfl rfl rfl
  | permit on => exact h.of_records rfl rfl rfl rfl
  | grant => exact h.of_records rfl rfl rfl rfl
  | want job w tag => exact h.of_records rfl rfl rfl rfl
  | rawRead start count => exact h.of_records rfl rfl rfl rfl
  | rawWrite raw cs => exact h.of_records rfl rfl rfl rfl

/-! ### Time and the starts -/

theorem talkTarget_tickKey (x : Key) : (tickKey x).talkTarget = x.talkTarget := by
  unfold Key.talkTarget
  rw [tickKey_talking, tickKey_defn]

theorem talkLaw_tick {s : State} (h : TalkLaw s) : TalkLaw (tick s) := by
  refine h.follow (.of_talk (fun k => ?_) rfl rfl rfl (fun _ => rfl) fun d => ?_)
    ⟨rfl, rfl, fun k => ?_, fun k _ idle => ?_⟩
  · rw [tick_key, talkTarget_tickKey]
  · rw [tick_entry, tickEntry_kept]
  · rw [tick_key, tickKey_defn]
  · rw [tick_key, tickKey_other fun n => by rw [idle]; exact ⟨nofun, nofun⟩]
    exact idle

theorem talkLaw_startUp (cause : StartCause) (s : State) : TalkLaw (startUp cause s) := by
  have waits := waits_startUp cause s
  refine ⟨counted_of_silent (fun k => talkTarget_idle (waits.keys k)) (fun p y => ⟨?_, ?_⟩) (fun c => ?_)
    fun d => (waits.entries d).2.2.2, fun k => ⟨fun d targets => ?_, fun _ => waits.keys k⟩⟩
  · show ((tabOf fun _ => tabOf fun _ => 0 : Tab (Tab Nat 32) 8).at p).at y = 0
    simp
  · show ((tabOf fun _ => tabOf fun _ => false : Tab (Tab Bool 32) 8).at p).at y = false
    simp
  · have dark : (startUp cause s).channel c = Channel.dark := Tab.at_tabOf _ c
    rw [dark]
    rfl
  · rw [startUp_key] at targets
    cases targets

theorem TalkLaw.traffic {s t : State} (h : TalkLaw s) (traffic : TrafficOnly s t) : TalkLaw t := by
  refine h.of_records ?_ ?_ ?_ ?_ <;> rw [traffic.rest]

/-- Settles O57: a transition moves exactly the counts of its key's target, and the other effects leave counts and keys. -/
theorem talkCountsStayExact : Obligations.TalkCountsStayExact := by
  unfold Obligations.TalkCountsStayExact
  intro s t quiet holds calls lists keys run
  have law := step_keeps (P := fun s => QuietUntilReady s ∧ TalkLaw s)
    (fun traffic h => ⟨quiet_traffic traffic h.1, h.2.traffic traffic⟩) (fun h => ⟨quiet_tick h.1, talkLaw_tick h.2⟩)
    (fun cause _ => ⟨quiet_startUp cause _, talkLaw_startUp cause _⟩)
    (fun h e => ⟨quiet_effect h.1 e, by
      cases e with
      | same => exact h.2
      | event e => exact talkLaw_event h.2 h.1 e
      | block _ e => exact talkLaw_block h.2 e⟩)
    ⟨quiet, ⟨holds, calls, lists⟩, keys⟩ run
  obtain ⟨-, counted, defined⟩ := law
  exact ⟨counted.holds, counted.calls, counted.lists, defined⟩

end Sys2Proof.Machine
end

section
/-! SUPPORT. The store engine's word events, take events and the feed matrix port: the obligations O12, O15, O16 and
O17. -/

namespace Sys2Proof.Machine

/-! ### A word write ends (R181, R183, R186, R187) -/

/-- The word that awaits ready has landed and the sequence is closed. -/
def sequenceClosed (w : Nat × Word) (s : State) : State := closeSequence (landWord w s)

section
variable {s : State} {op : StoreOp} {w next : Nat × Word} {more : List (Nat × Word)} {marked : Bool}
  {wanted : Option Byte} {tag : Byte}

theorem wordReady_write_next (h : s.store.engine = .busy (.write op w (next :: more) marked) wanted) :
    wordReady s = sendWord next ((landWord w s).setEngine (.busy (.write op next more marked) wanted)) := by
  simp only [wordReady, h]

theorem wordReady_write_last (h : s.store.engine = .busy (.write op w [] false) wanted) :
    wordReady s = endOp op false wanted (firstOutcome op .ok true none (sequenceClosed w s)) := by
  simp only [wordReady, h]
  rfl

theorem wordReady_write_marked (h : s.store.engine = .busy (.write op w [] true) wanted) :
    wordReady s = endOp op true wanted (sequenceClosed w s) := by
  simp only [wordReady, h]
  rfl

theorem wordReady_drain (h : s.store.engine = .busy (.drain w tag) wanted) : wordReady s =
    afterOp wanted (placeResponse ReqKind.restart.code tag .ok [] ((sequenceClosed w s).setEngine .idle)) := by
  simp only [wordReady, h]
  rfl

theorem wordReady_raw_next (h : s.store.engine = .granted (some ⟨tag, w, next :: more⟩)) :
    wordReady s = sendWord next ((landWord w s).setEngine (.granted (some ⟨tag, next, more⟩))) := by
  simp only [wordReady, h]

theorem wordReady_raw_last (h : s.store.engine = .granted (some ⟨tag, w, []⟩)) : wordReady s =
    placeResponse ReqKind.rawWrite.code tag .ok [] ((sequenceClosed w s).setEngine (.granted none)) := by
  simp only [wordReady, h]
  rfl

end

theorem becomes_wordReady {s u : State} (h : wordReady s = u) : Becomes .storeWordReady s u :=
  becomes_of_finish (congrArg (finish s) h)

/-- Settles O12: one equation of `wordReady` for each form of the engine that has a word in flight. -/
theorem wordReadyLandsOneWord : Obligations.WordReadyLandsOneWord := by
  rintro s w mem - rfl closed rfl
  exact ⟨fun _ _ _ _ _ h => becomes_wordReady (wordReady_write_next h),
    fun _ _ h => becomes_wordReady (wordReady_write_last h),
    fun _ _ h => becomes_wordReady (wordReady_write_marked h),
    fun _ _ h => becomes_wordReady (wordReady_drain h),
    fun _ _ _ h => becomes_wordReady (wordReady_raw_next h),
    fun _ h => becomes_wordReady (wordReady_raw_last h)⟩

/-! ### Take events (R42 to R49) -/

theorem takeIfBegun_ready {s : State} (h : s.ctl.ready = true) : takeIfBegun s = takeEvent s := if_pos h

/-- The take engine as a take event begins. -/
def takeRestarted (s : State) : State :=
  { s with take := { s.take with frameTimer := framePeriod s, sinceTake := some 0 } }

theorem takeEvent_skipped {s : State} (h : s.take.burst.isSome = true) : takeEvent s = takeRestarted s := by
  obtain ⟨b, burst⟩ := Option.isSome_iff_exists.mp h
  simp only [takeEvent, burst, takeRestarted]

theorem takeEvent_taken {s : State} (h : s.take.burst = none) : takeEvent s = takeDirty (takeRestarted s) := by
  simp only [takeEvent, h, takeRestarted]

theorem take_takeDirty (s : State) : (takeDirty s).take =
    { s.take with dirty := tabOf fun _ => false, burst := burstOf (twoFrames s) (applyDirty s) (dirtyList s) } := rfl

theorem sinceTake_takeEvent (s : State) : (takeEvent s).take.sinceTake = some 0 := by
  cases burst : s.take.burst with
  | none =>
    rw [takeEvent_taken burst]
    rfl
  | some b =>
    rw [takeEvent_skipped (by rw [burst]; rfl)]
    rfl

/-- A reference pulse as the monitor notes it, before any take event. -/
def pulseNoted (s : State) : State :=
  { s with take := { s.take with reference := .ok, missed := 0, frameTimer := Config.nominalPeriod s.timing.rate } }

theorem pulse_of_due {s : State} (h : s.take.reference = .ok ∨ justTaken s = false) :
    pulse s = takeIfBegun (pulseNoted s) := by
  unfold pulse
  cases reference : s.take.reference with
  | ok => rfl
  | lost =>
    rw [reference] at h
    exact if_neg (by simpa using h)

theorem pulse_of_justTaken {s : State} (lost : s.take.reference = .lost) (h : justTaken s = true) :
    pulse s = pulseNoted s := by
  unfold pulse
  rw [lost]
  exact if_pos h

theorem justTaken_iff (s : State) :
    justTaken s = true ↔ ∃ n, s.take.sinceTake = some n ∧ n < Config.quarterPeriod s.timing.rate := by
  unfold justTaken
  cases s.take.sinceTake <;> simp

/-- The frame timer runs again after its expiry. -/
def frameNoted (s : State) : State :=
  { s with take := { s.take with frameTimer := Config.nominalPeriod s.timing.rate } }

theorem frameExpiry_lost {s : State} (h : s.take.reference = .lost) : frameExpiry s = takeIfBegun (frameNoted s) := by
  unfold frameExpiry
  rw [h]
  rfl

theorem frameExpiry_missed {s : State} (h : s.take.reference = .ok) (few : s.take.missed ≠ 2) : frameExpiry s =
    { frameNoted s with take := { (frameNoted s).take with missed := s.take.missed + 1 } } := by
  unfold frameExpiry
  rw [h]
  exact if_neg few

theorem frameExpiry_losing {s : State} (h : s.take.reference = .ok) (third : s.take.missed = 2) : frameExpiry s =
    takeIfBegun (raise .refLost
      { frameNoted s with take := { (frameNoted s).take with reference := .lost, missed := 0 } }) := by
  unfold frameExpiry
  rw [h]
  exact if_pos third

theorem becomes_pulse {s u : State} (h : pulse s = u) : Becomes .referencePulse s u :=
  becomes_of_finish (congrArg (finish s) h)

theorem becomes_frameExpiry {s u : State} (h : frameExpiry s = u) : Becomes .internalFrameTimerExpiry s u :=
  becomes_of_finish (congrArg (finish s) h)

/-- Settles O15, by the monitor's state: a pulse or an expiry is noted, and a take event follows from READY on. -/
theorem pulsesAndExpiriesAreTakeEvents : Obligations.PulsesAndExpiriesAreTakeEvents := by
  refine ⟨sinceTake_takeEvent, ?_, ?_⟩
  · rintro s t rfl
    refine ⟨fun notReady => becomes_pulse ?_, fun ready reference => becomes_pulse ?_, fun ready lost =>
      ⟨fun just => becomes_pulse ?_, fun past => becomes_pulse ?_⟩⟩
    · cases reference : s.take.reference with
      | ok => exact (pulse_of_due (.inl reference)).trans (takeIfBegun_notReady notReady)
      | lost =>
        cases just : justTaken s with
        | true => exact pulse_of_justTaken reference just
        | false => exact (pulse_of_due (.inr just)).trans (takeIfBegun_notReady notReady)
    · exact (pulse_of_due (.inl reference)).trans (takeIfBegun_ready ready)
    · exact pulse_of_justTaken lost ((justTaken_iff s).mpr just)
    · have due : justTaken s = false := by
        rw [Bool.eq_false_iff, ne_eq, justTaken_iff]
        rintro ⟨n, since, short⟩
        exact absurd (past n since) (by omega)
      exact (pulse_of_due (.inr due)).trans (takeIfBegun_ready ready)
  · rintro s t rfl
    refine ⟨fun reference few => becomes_frameExpiry (frameExpiry_missed reference few), ?_, fun lost =>
      ⟨fun notReady => becomes_frameExpiry ((frameExpiry_lost lost).trans (takeIfBegun_notReady notReady)),
        fun ready => becomes_frameExpiry ((frameExpiry_lost lost).trans (takeIfBegun_ready ready))⟩⟩
    rintro reference third v rfl
    have losing := frameExpiry_losing reference third
    exact ⟨fun notReady => becomes_frameExpiry (losing.trans (takeIfBegun_notReady notReady)),
      fun ready => becomes_frameExpiry (losing.trans (takeIfBegun_ready ready))⟩

/-! ### What a take event takes (R47 to R50) -/

theorem mem_dirtyList (s : State) (d : Dst) : d ∈ dirtyList s ↔ s.take.dirty.at d = true := by simp [dirtyList]

theorem pairwise_fins (n : Nat) : (fins n).Pairwise (· < ·) := List.pairwise_ofFn.mpr fun _ _ h => h

theorem pairwise_dirtyList (s : State) : (dirtyList s).Pairwise (· < ·) := (pairwise_fins 48).filter _

theorem burstOf_eq_none {wait : Nat} {s : State} {ds : List Dst} (h : ds = []) : burstOf wait s ds = none := by
  rw [h]
  rfl

theorem burstOf_of_ne_nil {wait : Nat} {s : State} {ds : List Dst} (h : ds ≠ []) :
    burstOf wait s ds = some ⟨ds.map fun d => (d, target s d), wait⟩ := by
  cases ds with
  | nil => exact absurd rfl h
  | cons => rfl

theorem applyStaged_of_staged {e : Entry} {x : Staged} (h : e.staged = some x) :
    applyStaged e = { e with current := x.source, staged := none } := by
  simp only [applyStaged, h]

theorem applyStaged_of_none {e : Entry} (h : e.staged = none) : applyStaged e = e := by simp only [applyStaged, h]

theorem interrupters_applyStaged (e : Entry) : (applyStaged e).interrupters = e.interrupters := by
  unfold applyStaged
  split <;> rfl

theorem interrupters_applyDirty (s : State) (d : Dst) : ((applyDirty s).entry d).interrupters = (s.entry d).interrupters := by
  rw [show (applyDirty s).entry d = (if s.take.dirty.at d then applyStaged (s.entry d) else s.entry d) from Tab.at_tabOf _ d]
  split
  · exact interrupters_applyStaged _
  · rfl

theorem target_uninterrupted {s : State} {d : Dst} (h : (s.entry d).interrupters = []) :
    target s d = (s.entry d).current := by
  unfold target effective
  rw [h]
  rfl

theorem target_interrupted {s : State} {d : Dst} {k : KeyId} {m : Src} (last : (s.entry d).interrupters.getLast? = some k)
    (mic : s.talk.mics.at (stationOf k) = some m) : target s d = m := by
  unfold target effective
  rw [last]
  show (s.talk.mics.at (stationOf k)).getD _ = m
  rw [mic]
  rfl

/-- The burst of a take, read from the state it leaves. -/
theorem burst_takeDirty (s : State) (h : ∃ d, s.take.dirty.at d = true) : ∃ b, (takeDirty s).take.burst = some b ∧
    b.wait = twoFrames s ∧ b.todo = (dirtyList s).map fun d => (d, target (applyDirty s) d) := by
  obtain ⟨d, dirty⟩ := h
  exact ⟨_, burstOf_of_ne_nil (List.ne_nil_of_mem ((mem_dirtyList s d).mpr dirty)), rfl, rfl⟩

theorem takeEvent_eq (s : State) : { takeEvent s with take := s.take, routes := s.routes } = s := by
  refine State.eq_of_records ?_ ?_ rfl ?_ rfl ?_ ?_ ?_ ?_ ?_ ?_ ?_ ?_ ?_ <;> simp

theorem take_takeEvent_kept (s : State) : (takeEvent s).take.frameTimer = framePeriod s ∧
    (takeEvent s).take.reference = s.take.reference ∧ (takeEvent s).take.missed = s.take.missed ∧
    (takeEvent s).take.feedWord = s.take.feedWord := by
  cases burst : s.take.burst with
  | none =>
    rw [takeEvent_taken burst]
    exact ⟨rfl, rfl, rfl, rfl⟩
  | some b =>
    rw [takeEvent_skipped (by rw [burst]; rfl)]
    exact ⟨rfl, rfl, rfl, rfl⟩

/-- Settles O16: a burst in flight leaves only the frame timer, and `takeDirty` is read field by field otherwise. -/
theorem takeEventTakesTheDirtySet : Obligations.TakeEventTakesTheDirtySet := by
  rintro s t rfl
  obtain ⟨timer, reference, missed, word⟩ := take_takeEvent_kept s
  refine ⟨timer, reference, missed, word, takeEvent_eq s, fun skipped => ?_, fun free => ?_⟩
  · rw [takeEvent_skipped skipped]
    exact ⟨rfl, rfl, rfl⟩
  rw [takeEvent_taken free]
  have entry : ∀ d, (takeDirty (takeRestarted s)).entry d =
      if s.take.dirty.at d then applyStaged (s.entry d) else s.entry d := entry_takeDirty _
  refine ⟨fun d => Tab.at_tabOf _ d, fun d clean => ?_, fun d dirty => ⟨fun x staged => ?_, fun none => ?_⟩,
    fun clean => ?_, fun dirty => ?_⟩
  · rw [entry, if_neg (by simp [clean])]
  · rw [entry, if_pos dirty, applyStaged_of_staged staged]
  · rw [entry, if_pos dirty, applyStaged_of_none none]
  · refine burstOf_eq_none (List.eq_nil_iff_forall_not_mem.mpr fun d listed => ?_)
    exact absurd ((mem_dirtyList _ d).mp listed) (by simp [takeRestarted, clean])
  · obtain ⟨b, burst, wait, todo⟩ := burst_takeDirty (takeRestarted s) dirty
    have named : b.todo.map Prod.fst = dirtyList (takeRestarted s) := by
      rw [todo, List.map_map]
      exact List.map_id _
    refine ⟨b, burst, wait, named ▸ pairwise_dirtyList _, fun d => named ▸ mem_dirtyList _ d, fun d x listed => ?_⟩
    have aim : target (applyDirty (takeRestarted s)) d = x := by
      rw [todo, List.mem_map] at listed
      obtain ⟨e, -, same⟩ := listed
      cases same
      rfl
    have list := interrupters_applyDirty (takeRestarted s) d
    exact ⟨fun alone => aim.symm.trans (target_uninterrupted (list.trans alone)), fun k m last mic =>
      aim.symm.trans (target_interrupted (list.symm ▸ last) mic)⟩

/-! ### The burst on the port (R50, R51) -/

theorem burstRest_eq (wait : Nat) (rest : List (Dst × Src)) :
    burstRest wait rest = if rest = [] then none else some ⟨rest, wait⟩ := by
  cases rest <;> rfl

theorem sendCommand_eq {s : State} {d : Dst} {x : Src} {rest : List (Dst × Src)} {wait : Nat}
    (h : s.take.burst = some ⟨(d, x) :: rest, wait⟩) : sendCommand s = refresh { s with
      routes := s.routes.put d { s.entry d with
        commanded := some x, reported := none, confirmation := some (.awaiting (twoFrames s)) }
      take := { s.take with feedWord := some (feedCommand d x), burst := burstRest (twoFrames s) rest } } := by
  simp only [sendCommand, h]
  rfl

/-- The destinations of the burst given back. -/
def givenBack (ps : List (Dst × Src)) (s : State) : State := ps.foldl giveBack s

theorem abandon_eq {s : State} {b : Burst} (h : s.take.burst = some b) : abandon s =
    raise .mismatch { givenBack b.todo s with take := { (givenBack b.todo s).take with burst := none } } := by
  simp only [abandon, h]
  rfl

theorem entry_giveBack (s : State) (p : Dst × Src) (d : Dst) : (giveBack s p).entry d =
    if d = p.1 then { s.entry d with confirmation := some .unconfirmed } else s.entry d := by
  unfold giveBack
  rw [entry_markDirty]
  split
  next same => rw [same, entry_setEntry_same]
  next other => exact entry_setEntry_ne _ _ (Ne.symm other)

theorem take_giveBack (s : State) (p : Dst × Src) :
    (giveBack s p).take = { s.take with dirty := s.take.dirty.put p.1 true } := rfl

theorem entry_givenBack (ps : List (Dst × Src)) (s : State) (d : Dst) : (givenBack ps s).entry d =
    if d ∈ ps.map Prod.fst then { s.entry d with confirmation := some .unconfirmed } else s.entry d := by
  induction ps generalizing s with
  | nil => simp [givenBack]
  | cons p ps ih =>
    rw [show givenBack (p :: ps) s = givenBack ps (giveBack s p) from rfl, ih, entry_giveBack]
    by_cases same : d = p.1 <;> by_cases later : d ∈ ps.map Prod.fst <;> simp [same, later]

theorem take_givenBack (ps : List (Dst × Src)) (s : State) :
    (givenBack ps s).take = { s.take with dirty := (givenBack ps s).take.dirty } ∧
      ∀ d, (givenBack ps s).take.dirty.at d = if d ∈ ps.map Prod.fst then true else s.take.dirty.at d := by
  induction ps generalizing s with
  | nil => exact ⟨rfl, fun d => (if_neg (by simp)).symm⟩
  | cons p ps ih =>
    obtain ⟨kept, dirty⟩ := ih (giveBack s p)
    refine ⟨kept, fun d => ?_⟩
    rw [show givenBack (p :: ps) s = givenBack ps (giveBack s p) from rfl, dirty, take_giveBack]
    dsimp only
    rw [Tab.at_put]
    by_cases same : p.1 = d
    · simp [same]
    · simp [same, Ne.symm same]

theorem ctl_givenBack (ps : List (Dst × Src)) (s : State) : (givenBack ps s).ctl = s.ctl := by
  induction ps generalizing s with
  | nil => rfl
  | cons p ps ih => exact ih (giveBack s p)

/-- Settles O17, by the burst's first destination and, for an abandon, by what `givenBack` does to each destination. -/
theorem burstsCommandOrGoBack : Obligations.BurstsCommandOrGoBack := by
  refine ⟨fun s d x rest wait burst => ?_, fun s b burst => ?_⟩
  · refine becomes_of_finish (congrArg (finish s) ((sendCommand_eq burst).trans ?_))
    rw [burstRest_eq]
    rfl
  · obtain ⟨kept, dirty⟩ := take_givenBack b.todo s
    refine ⟨abandon s, becomes_of_finish rfl, fun d listed => ?_, fun d other => ?_, ?_, ?_, ?_, ?_⟩
    · rw [abandon_eq burst]
      exact ⟨(entry_givenBack b.todo s d).trans (if_pos listed), (dirty d).trans (if_pos listed)⟩
    · rw [abandon_eq burst]
      exact ⟨(entry_givenBack b.todo s d).trans (if_neg other), (dirty d).trans (if_neg other)⟩
    · rw [abandon_eq burst]
      rfl
    · rw [abandon_eq burst]
      show { (givenBack b.todo s).ctl with attention := (givenBack b.todo s).ctl.attention.put 4 true } = _
      rw [ctl_givenBack]
    · refine State.eq_of_records ?_ ?_ rfl ?_ rfl ?_ ?_ ?_ ?_ ?_ rfl ?_ ?_ ?_ <;> simp
    · rw [abandon_eq burst]
      show { (givenBack b.todo s).take with dirty := s.take.dirty, burst := s.take.burst } = s.take
      rw [kept]

end Sys2Proof.Machine
end

section
/-! SUPPORT. The signal lines' driven values and requests, and the definition of guards: the obligations O35 to O38. -/

namespace Sys2Proof.Machine

/-! ### The driven values (R145 to R148) -/

section
variable {s : State} {l : Lid}

/-- No guard forces the line. -/
def Unforced (s : State) (l : Lid) : Prop :=
  ∀ g, (s.guard g).state.holding = true → (s.guard g).defn.action.at l = none

theorem forced_eq_none (free : Unforced s l) : forced s l = none := by
  rw [forced, List.findSome?_eq_none_iff]
  intro g _
  split
  next holding => exact free g holding
  next => rfl

theorem forced_eq_some (held : ¬Unforced s l) {v : Bool}
    (agree : ∀ g w, (s.guard g).state.holding = true → (s.guard g).defn.action.at l = some w → w = v) :
    forced s l = some v := by
  have forces : ∀ g w, (if (s.guard g).state.holding then (s.guard g).defn.action.at l else none) = some w → w = v := by
    intro g w forced
    split at forced
    next holding => exact agree g w holding forced
    next => cases forced
  cases found : forced s l with
  | some w =>
    obtain ⟨g, -, forced⟩ := List.exists_of_findSome?_eq_some found
    rw [forces g w forced]
  | none =>
    refine absurd (fun g holding => ?_) held
    have := List.findSome?_eq_none_iff.mp found g (mem_fins g)
    rwa [if_pos holding] at this

theorem drivenValue_forced (held : ¬Unforced s l) {v : Bool}
    (agree : ∀ g w, (s.guard g).state.holding = true → (s.guard g).defn.action.at l = some w → w = v)
    (mode : OutMode) (latch : Bool) : drivenValue s l mode latch = v := by
  rw [drivenValue, forced_eq_some held agree]
  rfl

theorem drivenValue_free (free : Unforced s l) (mode : OutMode) (latch : Bool) :
    drivenValue s l mode latch = modeValue s mode latch := by
  rw [drivenValue, forced_eq_none free]
  rfl

theorem redShown_iff (s : State) (x : Src) :
    redShown s x = true ↔ ∃ c, (s.channel c).mapped = some x ∧ (s.channel c).red ≠ .off := by
  simp [redShown]

theorem partyHeard_iff (s : State) (y : Pty) : partyHeard s y = true ↔ ∃ p, 0 < s.holdCount p y := by
  simp [partyHeard]

theorem drivenLine_input {sample : Bool} (h : s.line l = .input sample) : drivenLine s l = .input sample := by
  simp only [drivenLine, h]

theorem drivenLine_output {mode : OutMode} {latch on : Bool} (h : s.line l = .output mode latch on) :
    drivenLine s l = .output mode latch (drivenValue s l mode latch) := by
  simp only [drivenLine, h]

end

/-- Settles O37: `drivenLine` by the line's direction, and `drivenValue` by whether a guard forces the line. -/
theorem drivenValuesFollowTheirTable : Obligations.DrivenValuesFollowTheirTable := by
  rintro s u rfl
  refine ⟨rfl, rfl, fun l => ⟨fun sample input => ?_, fun mode latch old output => ?_⟩⟩
  · rw [line_driveLines, drivenLine_input input]
  · refine ⟨drivenValue s l mode latch, by rw [line_driveLines, drivenLine_output output], fun free unforced => ?_⟩
    have own : free → drivenValue s l mode latch = modeValue s mode latch := fun h =>
      drivenValue_free (unforced.mp h) mode latch
    refine ⟨fun v held agree => drivenValue_forced (fun h => held (unforced.mpr h)) agree mode latch,
      fun h manual => ?_, fun x h tally => ?_, fun y h talk => ?_⟩
    · rw [own h, manual]
      rfl
    · rw [own h, tally]
      exact redShown_iff s x
    · rw [own h, talk]
      exact partyHeard_iff s y

/-! ### Samples (R125, R144) -/

theorem sampleChange_kept {s : State} {l : Lid} {high : Bool}
    (h : (s.line l).isOut = true ∨ s.line l = .input high) : sampleChange l high s = setPin l high s := by
  unfold sampleChange
  cases line : s.line l with
  | input old =>
    rw [line] at h
    exact if_pos (by simpa [Line.isOut] using h)
  | output mode latch on => rfl

theorem sampleChange_new {s : State} {l : Lid} {high : Bool} (h : s.line l = .input (!high)) : sampleChange l high s =
    { s with
      lines := ⟨s.lines.recs.put l (.input high), s.lines.pins.put l high⟩
      guards := tabOf fun g => guardOnChange l high (s.guard g) } := by
  unfold sampleChange
  rw [h]
  exact if_neg (by cases high <;> decide)

section
variable {x : Guard} {l : Lid} {high : Bool}

theorem guardOnChange_other (h : x.defn.line ≠ l) : guardOnChange l high x = x := if_neg h

theorem state_guardOnChange_matching (own : x.defn.line = l) (level : x.defn.high = high) :
    (guardOnChange l high x).state = becomesMatching x := by
  rw [guardOnChange, if_pos own, if_pos level.symm]

theorem state_guardOnChange_clear (own : x.defn.line = l) (level : x.defn.high ≠ high) :
    (guardOnChange l high x).state = stopsMatching x := by
  rw [guardOnChange, if_pos own, if_neg (Ne.symm level)]

theorem becomesMatching_other (armed : x.state ≠ .armed) (recovering : ∀ n r, x.state ≠ .recovering n r) :
    becomesMatching x = x.state := by
  unfold becomesMatching
  cases state : x.state with
  | armed => exact absurd state armed
  | recovering n r => exact absurd state (recovering n r)
  | disabled => rfl
  | debouncing => rfl
  | tripped => rfl

theorem stopsMatching_other (debouncing : ∀ n, x.state ≠ .debouncing n)
    (tripped : (∀ r, x.state ≠ .tripped r) ∨ x.defn.auto = false) : stopsMatching x = x.state := by
  unfold stopsMatching
  cases state : x.state with
  | debouncing n => exact absurd state (debouncing n)
  | tripped r => exact if_neg (by simpa [state] using tripped)
  | disabled => rfl
  | armed => rfl
  | recovering => rfl

end

/-- Settles O36: a level that is no new sample is a pin's alone, and each guard takes a new one by its own state. -/
theorem sampleChangesReachTheGuards : Obligations.SampleChangesReachTheGuards := by
  intro s l high
  refine ⟨fun kept => becomes_of_finish (congrArg (finish s) (sampleChange_kept kept)), fun changed =>
    ⟨_, becomes_of_finish (congrArg (finish s) (sampleChange_new changed)), ?_⟩⟩
  rintro g x y rfl rfl
  rw [Tab.at_tabOf]
  refine ⟨guardOnChange_other, defn_guardOnChange .., fun own level => ?_, fun own level => ?_⟩
  · rw [state_guardOnChange_matching own level]
    exact ⟨fun armed => by simp only [becomesMatching, armed]; rfl,
      fun n r recovering => by simp only [becomesMatching, recovering], becomesMatching_other⟩
  · rw [state_guardOnChange_clear own level]
    exact ⟨fun n debouncing => by simp only [stopsMatching, debouncing],
      fun r tripped auto => by simp only [stopsMatching, tripped, auto]; rfl, stopsMatching_other⟩

/-! ### LINE SET and DEFINE LINE (R149, R150) -/

theorem isManual_iff (x : Line) : isManual x = true ↔ ∃ latch on, x = .output .manual latch on := by
  cases x with
  | input => simp [isManual]
  | output mode => cases mode <;> simp [isManual]

/-- The latches that a LINE SET writes. -/
def latchesSet (lines values : Nat) (s : State) : Tab Line 16 :=
  tabOf fun l : Lid => if lines.testBit l.1 then withLatch (s.line l) (values.testBit l.1) else s.line l

theorem lineSetBlock_config {s : State} {lines : Nat}
    (h : ∃ l : Lid, lines.testBit l.1 = true ∧ ∀ latch on, s.line l ≠ .output .manual latch on) (values : Nat) :
    lineSetBlock lines values s = refuseWith .config s := by
  obtain ⟨l, named, other⟩ := h
  refine if_neg fun every => ?_
  have manual := List.all_eq_true.mp every l (mem_fins l)
  rw [named, Bool.not_true, Bool.false_or, isManual_iff] at manual
  obtain ⟨latch, on, line⟩ := manual
  exact other latch on line

theorem lineSetBlock_ok {s : State} {lines : Nat}
    (h : ∀ l : Lid, lines.testBit l.1 = true → ∃ latch on, s.line l = .output .manual latch on) (values : Nat) :
    lineSetBlock lines values s =
      okWith (driveLines { s with lines := { s.lines with recs := latchesSet lines values s } }) := by
  refine if_pos (List.all_eq_true.mpr fun l _ => ?_)
  cases named : lines.testBit l.1 with
  | false => rfl
  | true => exact (isManual_iff _).mpr (h l named)

theorem outMode?_val (m : OutMode) : outMode? m.code (m.targetNumber.getD 255) = some m := by
  cases m with
  | manual => rfl
  | tally x => exact congrArg (Option.map _) (finOf_val x)
  | talk y => exact congrArg (Option.map _) (finOf_val y)

theorem outMode?_range {mode target : Nat} (h : ¬mode < 3 ∨ (mode = 0 ∧ target ≠ 255) ∨ (mode = 1 ∧ ¬target < 64) ∨
    (mode = 2 ∧ ¬target < 32)) : outMode? mode target = none := by
  rcases h with high | ⟨rfl, absent⟩ | ⟨rfl, high⟩ | ⟨rfl, high⟩
  · obtain ⟨m, rfl⟩ := Nat.exists_eq_add_of_le (Nat.le_of_not_lt high)
    rw [Nat.add_comm]
    rfl
  · exact if_neg absent
  · exact congrArg (Option.map _) (finOf_ge high)
  · exact congrArg (Option.map _) (finOf_ge high)

theorem lineDef?_output (s : State) (l : Lid) (m : OutMode) (latch : Bool) :
    lineDef? s l 1 m.code (m.targetNumber.getD 255) latch.toNat = some (.output m latch false) := by
  rw [lineDef?, outMode?_val]
  cases latch <;> rfl

theorem lineDef?_input (s : State) (l : Lid) (mode target latch : Nat) {x : Line}
    (input : ∀ sample, s.line l = .input sample → x = .input sample)
    (output : (s.line l).isOut = true → x = .input (s.lines.pins.at l)) : lineDef? s l 0 mode target latch = some x := by
  unfold lineDef?
  cases line : s.line l with
  | input sample => exact congrArg some (input sample line).symm
  | output => exact congrArg some (output (by rw [line]; rfl)).symm

/-- With codes in their tables, an OUT line's mode and target out of range make no line. -/
theorem lineDef?_range (s : State) (l : Lid) {direction mode target latch : Nat}
    (codes : lineCodesOk direction mode latch = true)
    (h : ¬direction < 2 ∨ (direction = 1 ∧
      (¬mode < 3 ∨ ¬latch < 2 ∨ (mode = 0 ∧ target ≠ 255) ∨ (mode = 1 ∧ ¬target < 64) ∨ (mode = 2 ∧ ¬target < 32)))) :
    lineDef? s l direction mode target latch = none := by
  have inTable : direction = 0 ∨ (direction = 1 ∧ mode < 3 ∧ latch < 2) := by
    simpa [lineCodesOk, and_assoc] using codes
  obtain ⟨rfl, bad⟩ : direction = 1 ∧ (¬mode < 3 ∨ (mode = 0 ∧ target ≠ 255) ∨ (mode = 1 ∧ ¬target < 64) ∨
      (mode = 2 ∧ ¬target < 32)) := by omega
  exact congrArg (Option.map _) (outMode?_range bad)

theorem defineLineBlock_range {s : State} {n direction mode target latch : Nat}
    (h : ∀ l : Lid, n = l.1 → lineDef? s l direction mode target latch = none) :
    defineLineBlock n direction mode target latch s = refuseWith .range s := by
  unfold defineLineBlock
  cases found : finOf 16 n with
  | none => rfl
  | some l =>
    dsimp only
    rw [h l (finOf_eq_some.mp found)]

theorem defineLineBlock_inRange {s : State} {l : Lid} {direction mode target latch : Nat} {x : Line}
    (line : lineDef? s l direction mode target latch = some x) : defineLineBlock l.1 direction mode target latch s =
      if lineInUse s l then refuseWith .inUse s else okWith (driveLines (s.setLine l x)) := by
  simp only [defineLineBlock, finOf_val, line]

theorem lineInUse_iff (s : State) (l : Lid) : lineInUse s l = true ↔
    ∃ g, ((s.guard g).defn.line = l ∧ (s.guard g).state ≠ .disabled) ∨ ((s.guard g).defn.action.at l).isSome = true := by
  simp [lineInUse, ← isDisabled_iff]

/-- A DEFINE LINE with its codes in their tables is its block's. -/
theorem exec_defineLine {direction mode latch : Nat} (codes : lineCodesOk direction mode latch = true) (o : Origin)
    (tag : Byte) (n target : Nat) (s : State) : exec (.defineLine o tag n direction mode target latch) s =
      serve .defineLine o tag true (defineLineBlock n direction mode target latch) s := by
  rw [← codes]
  rfl

theorem lineCodesOk_out (m : OutMode) (latch : Bool) : lineCodesOk 1 m.code latch.toNat = true := by
  cases m <;> cases latch <;> rfl

/-- Settles O38, by the lines that a LINE SET names and by the line that a DEFINE LINE makes. -/
theorem lineRequestsAreCheckedThenTakeEffect : Obligations.LineRequestsAreCheckedThenTakeEffect := by
  refine ⟨⟨fun s tag lines values ready named bits => ?_, fun lines values => ?_⟩, ?_, ?_, ?_⟩
  · have admits : Admits s .ctl .lineSet := admits_ctl rfl rfl ready
    refine ⟨fun ⟨l, isNamed, other⟩ => ?_, fun manual => ⟨latchesSet lines values s, ?_, fun l =>
      ⟨fun unnamed => ?_, fun latch on isNamed line => ?_⟩⟩⟩
    · exact answers_of_block rfl admits (lineSetBlock_config ⟨l, (bits l).mp isNamed, other⟩ values)
    · exact answers_of_block rfl admits (lineSetBlock_ok (fun l bit => manual l ((bits l).mpr bit)) values)
    · rw [latchesSet, Tab.at_tabOf, if_neg fun bit => unnamed ((bits l).mpr bit)]
    · rw [latchesSet, Tab.at_tabOf, if_pos ((bits l).mp isNamed), line]
      rfl
  · exact onlyFromControl_of_head rfl rfl (by decide) fun _ _ => rfl
  · intro s tag n direction mode target latch ready bad
    refine answers_range (admits_ctl rfl rfl ready) rfl fun codes => defineLineBlock_range ?_
    rintro l rfl
    exact lineDef?_range s l codes (bad.resolve_left fun high => high l.isLt)
  · intro s tag l ready inUse used
    have admits : Admits s .ctl .defineLine := admits_ctl rfl rfl ready
    rw [← lineInUse_iff] at used
    have judged : ∀ {direction mode target latch x}, lineCodesOk direction mode latch = true →
        lineDef? s l direction mode target latch = some x →
        (inUse → Answers (.defineLine .ctl tag l.1 direction mode target latch) s s .ctl .defineLine tag .inUse []) ∧
        (¬inUse → Answers (.defineLine .ctl tag l.1 direction mode target latch) s
          (driveLines { s with lines := { s.lines with recs := s.lines.recs.put l x } }) .ctl .defineLine tag .ok []) := by
      intro direction mode target latch x codes line
      have block := defineLineBlock_inRange line
      exact ⟨fun use => answers_of_block (exec_defineLine codes ..) admits (block.trans (if_pos (used.mp use))),
        fun free => answers_of_block (exec_defineLine codes ..) admits
          (block.trans (if_neg fun use => free (used.mpr use)))⟩
    refine ⟨?_, ?_⟩
    · rintro mode target latch i rfl
      have made : ∃ y, lineDef? s l 0 mode target latch = some y := by
        unfold lineDef?
        cases s.line l <;> exact ⟨_, rfl⟩
      obtain ⟨y, line⟩ := made
      exact ⟨(judged rfl line).1, fun free x input output =>
        (judged rfl (lineDef?_input s l mode target latch input output)).2 free⟩
    · rintro m latch i rfl
      exact judged (lineCodesOk_out m latch) (lineDef?_output s l m latch)
  · exact fun n direction mode target latch => onlyFromControl_of_head rfl rfl (by decide) fun _ _ => rfl

/-! ### DEFINE GUARD (R138, R139) -/

section
variable {s : State} {g : Gid} {f : GuardDef}

theorem sharesDest_iff (s : State) (g : Gid) (f : GuardDef) : sharesDest s g f = true ↔
    ∃ h, h ≠ g ∧ ∃ d ∈ f.fallback.map Prod.fst, d ∈ (s.guard h).defn.fallback.map Prod.fst := by
  simp only [sharesDest, List.any_eq_true, Bool.and_eq_true, bne_iff_ne, List.contains_iff_mem, mem_fins, true_and]
  exact exists_congr fun h => and_congr_right fun _ => exists_congr fun d => and_comm

theorem opposes_iff (s : State) (g : Gid) (f : GuardDef) : opposes s g f = true ↔
    ∃ h, h ≠ g ∧ ∃ l v, f.action.at l = some v ∧ (s.guard h).defn.action.at l = some (!v) := by
  simp only [opposes, List.any_eq_true, Bool.and_eq_true, bne_iff_ne, mem_fins, true_and]
  refine exists_congr fun h => and_congr_right fun _ => exists_congr fun l => ?_
  cases f.action.at l with
  | none => simp
  | some v =>
    cases (s.guard h).defn.action.at l with
    | none => simp
    | some w => cases v <;> cases w <;> simp

theorem monitorIn_iff (s : State) (f : GuardDef) : monitorIn s f = false ↔ (s.line f.line).isOut = true := by
  simp [monitorIn]

theorem actionOut_iff (s : State) (f : GuardDef) : actionOut s f = false ↔
    ∃ l, (f.action.at l).isSome = true ∧ (s.line l).isOut = false := by
  simp only [actionOut, List.all_eq_false, mem_fins, true_and, Bool.or_eq_true, not_or, Bool.not_eq_true]
  exact exists_congr fun l => and_congr_left fun _ => by cases f.action.at l <;> simp

/-- The definition conflicts with the guards and the lines as they stand (R138, checks 5 to 8). -/
theorem guardConflict_iff (s : State) (g : Gid) (f : GuardDef) :
    (sharesDest s g f || opposes s g f || !monitorIn s f || !actionOut s f) = true ↔
      ((∃ h, h ≠ g ∧ ∃ d ∈ f.fallback.map Prod.fst, d ∈ (s.guard h).defn.fallback.map Prod.fst) ∨
      (∃ h, h ≠ g ∧ ∃ l v, f.action.at l = some v ∧ (s.guard h).defn.action.at l = some (!v)) ∨
      (s.line f.line).isOut = true ∨ ∃ l, (f.action.at l).isSome = true ∧ (s.line l).isOut = false) := by
  rw [Bool.or_eq_true, Bool.or_eq_true, Bool.or_eq_true, Bool.not_eq_true', Bool.not_eq_true', sharesDest_iff, opposes_iff,
    monitorIn_iff, actionOut_iff, or_assoc, or_assoc]

theorem guardDef?_val (line : Lid) (high : Bool) {debounce : Nat} (auto armed : Bool) {pairs : List (Dst × Src)}
    (set values : Nat) (low : 1 ≤ debounce) (short : debounce ≤ 1000) (some : pairs ≠ []) (few : pairs.length ≤ 8) :
    guardDef? line.1 high.toNat debounce auto.toNat armed.toNat (pairs.map fun p => (p.1.1, p.2.1)) set values =
      .some ⟨line, high, debounce, auto, pairs,
        tabOf fun l : Lid => if set.testBit l.1 then .some (values.testBit l.1) else none, armed⟩ := by
  have one : 1 ≤ pairs.length := List.length_pos_iff.mpr some
  simp [guardDef?, finOf_val, allOf_pairOf, low, short, one, few]

theorem guardDef?_range {line level debounce mode armed : Nat} {raw : List (Nat × Nat)} {set values : Nat}
    (h : ¬line < 16 ∨ debounce = 0 ∨ 1000 < debounce ∨ raw = [] ∨ 8 < raw.length ∨ ∃ p ∈ raw, ¬(p.1 < 48 ∧ p.2 < 64)) :
    guardDef? line level debounce mode armed raw set values = none := by
  unfold guardDef?
  split
  next l ps lineOk pairsOk =>
    refine if_neg fun inRange => ?_
    simp only [Bool.and_eq_true, decide_eq_true_eq] at inRange
    obtain ⟨⟨⟨low, short⟩, one⟩, few⟩ := inRange
    rcases h with high | zero | long | empty | many | bad
    · exact high (finOf_eq_some.mp lineOk ▸ l.isLt)
    · omega
    · omega
    · simp [empty] at one
    · omega
    · rw [allOf_none (bad.imp fun _ p => p.imp_right pairOf_none)] at pairsOk
      cases pairsOk
  next => rfl

theorem defineGuardBlock_range {g line level debounce mode armed : Nat} {raw : List (Nat × Nat)} {set values : Nat}
    (h : ¬g < 4 ∨ guardDef? line level debounce mode armed raw set values = none) (s : State) :
    defineGuardBlock g line level debounce mode armed raw set values s = refuseWith .range s := by
  unfold defineGuardBlock
  rcases h with high | bad
  · rw [finOf_ge high]
  · rw [bad]
    cases finOf 4 g <;> rfl

theorem defineGuardBlock_inRange {line level debounce mode armed : Nat} {raw : List (Nat × Nat)} {set values : Nat}
    (h : guardDef? line level debounce mode armed raw set values = some f) (s : State) (g : Gid) :
    defineGuardBlock g.1 line level debounce mode armed raw set values s =
      if !distinct (f.fallback.map Prod.fst) then refuseWith .repeated s
      else if !(s.guard g).state.isDisabled then refuseWith .inUse s
      else if f.fallback.any fun p => (s.defs.at p.1).cls = .ifb then refuseWith .cls s
      else if sharesDest s g f || opposes s g f || !monitorIn s f || !actionOut s f then refuseWith .config s
      else okWith (s.setGuard g { s.guard g with defn := f }) := by
  simp only [defineGuardBlock, finOf_val, h]

end

/-- A DEFINE GUARD with its codes in their tables is its block's. -/
theorem exec_defineGuard {level mode armed : Nat} (codes : guardCodesOk level mode armed = true) (o : Origin)
    (tag : Byte) (g line debounce : Nat) (raw : List (Nat × Nat)) (set values : Nat) (s : State) :
    exec (.defineGuard o tag g line level debounce mode armed raw set values) s =
      serve .defineGuard o tag true (defineGuardBlock g line level debounce mode armed raw set values) s := by
  rw [← codes]
  rfl

theorem guardCodesOk_flags (a b c : Bool) : guardCodesOk a.toNat b.toNat c.toNat = true := by
  cases a <;> cases b <;> cases c <;> rfl

/-- Settles O35, check by check in the block's order. -/
theorem defineGuardIsCheckedThenReplaced : Obligations.DefineGuardIsCheckedThenReplaced := by
  refine ⟨?_, ?_, fun _ _ _ _ _ _ _ _ _ => onlyFromControl_of_head rfl rfl (by decide) fun _ _ => rfl⟩
  · intro s tag g line level debounce mode armed raw set values ready bad
    refine answers_range (admits_ctl rfl rfl ready) rfl fun codes => defineGuardBlock_range ?_ s
    have inTable : (level < 2 ∧ mode < 2) ∧ armed < 2 := by
      simpa [codesOk, guardCodesOk] using codes
    rcases bad with high | high | high | zero | long | high | high | empty | many | pair
    · exact .inl high
    · exact .inr (guardDef?_range (.inl high))
    · exact absurd inTable.1.1 high
    · exact .inr (guardDef?_range (.inr (.inl zero)))
    · exact .inr (guardDef?_range (.inr (.inr (.inl long))))
    · exact absurd inTable.1.2 high
    · exact absurd inTable.2 high
    · exact .inr (guardDef?_range (.inr (.inr (.inr (.inl empty)))))
    · exact .inr (guardDef?_range (.inr (.inr (.inr (.inr (.inl many))))))
    · exact .inr (guardDef?_range (.inr (.inr (.inr (.inr (.inr pair))))))
  · rintro s tag g line high debounce auto armed pairs set values ready low short some few i f rfl made conflict clash
    have admits : Admits s .ctl .defineGuard := admits_ctl rfl rfl ready
    have run := exec_defineGuard (guardCodesOk_flags high auto armed) .ctl tag g.1 line.1 debounce
      (pairs.map fun p => (p.1.1, p.2.1)) set values s
    have block := defineGuardBlock_inRange (guardDef?_val line high auto armed set values low short some few) s g
    have clash : conflict ↔ (sharesDest s g f || opposes s g f || !monitorIn s f || !actionOut s f) = true := by
      obtain ⟨own, monitor⟩ : pairs = f.fallback ∧ line = f.line := by
        subst made
        exact ⟨rfl, rfl⟩
      rw [guardConflict_iff, ← own, ← monitor]
      exact clash
    subst made
    refine ⟨fun repeated => answers_of_block run admits (block.trans (if_pos ?_)), fun once => ⟨fun enabled => ?_,
      fun disabled => ⟨fun ifb => ?_, fun plain => ⟨fun inConflict => ?_, fun free => ?_⟩⟩⟩⟩
    · simpa [← distinct_iff] using repeated
    all_goals
      have nodup : ¬((!distinct (pairs.map Prod.fst)) = true) := by simpa [distinct_iff] using once
      rw [if_neg nodup] at block
    · rw [if_pos (by simpa [← isDisabled_iff] using enabled)] at block
      exact answers_of_block run admits block
    all_goals rw [if_neg (by simp [disabled, GuardState.isDisabled])] at block
    · rw [if_pos (by simpa using ifb)] at block
      exact answers_of_block run admits block
    all_goals rw [if_neg (by simpa using plain)] at block
    · rw [if_pos (clash.mp inConflict)] at block
      exact answers_of_block run admits block
    · rw [if_neg fun h => free (clash.mpr h)] at block
      refine answers_of_block run admits (block.trans ?_)
      exact congrArg (fun x => okWith (s.setGuard g ⟨_, x⟩)) disabled

end Sys2Proof.Machine
end

section
/-! SUPPORT. The control link's clocked bytes, timing and attention, store requests, permission and raw access: the
obligations O9, O14, O46 and O48. -/

namespace Sys2Proof.Machine

/-! ### Bit sets as numbers -/

section
variable {n : Nat} (t : Tab Bool n)

/-- Adding the powers of ascending exponents, each above the number so far, sets exactly their bits. -/
theorem testBit_foldl_add (l : List (Fin n)) (ascending : l.Pairwise (· < ·)) (acc : Nat)
    (low : ∀ i ∈ l, acc < 2 ^ i.1) (j : Nat) :
    (l.foldl (fun acc i => acc + if t.at i then 2 ^ i.1 else 0) acc).testBit j = true ↔
      (acc.testBit j = true ∨ ∃ i ∈ l, i.1 = j ∧ t.at i = true) := by
  induction l generalizing acc with
  | nil => simp
  | cons i l ih =>
    obtain ⟨above, ascending⟩ := List.pairwise_cons.mp ascending
    have small : acc < 2 ^ i.1 := low i List.mem_cons_self
    have bits : (acc + if t.at i then 2 ^ i.1 else 0).testBit j = true ↔
        (acc.testBit j = true ∨ (i.1 = j ∧ t.at i = true)) := by
      cases set : t.at i with
      | false => simp
      | true =>
        have sum : acc + 2 ^ i.1 = 2 ^ i.1 ||| acc := by
          have := Nat.two_pow_add_eq_or_of_lt small 1
          rwa [Nat.mul_one, Nat.add_comm] at this
        simp [sum, Nat.testBit_two_pow, or_comm]
    rw [List.foldl_cons, ih ascending _ fun k listed => ?_, bits, or_assoc]
    · simp only [List.mem_cons, exists_eq_or_imp]
    · calc (acc + if t.at i then 2 ^ i.1 else 0) < 2 ^ (i.1 + 1) := by split <;> omega
        _ ≤ 2 ^ k.1 := Nat.pow_le_pow_right (by decide) (above k listed)

theorem testBit_bitmap (i : Fin n) : (bitmap t).testBit i.1 = t.at i := by
  rw [Bool.eq_iff_iff, bitmap, testBit_foldl_add t _ (pairwise_fins n) 0 (fun _ _ => Nat.two_pow_pos _)]
  constructor
  · rintro (zero | ⟨k, -, same, set⟩)
    · simp at zero
    · rwa [Fin.ext same] at set
  · exact fun set => .inr ⟨i, mem_fins i, rfl, set⟩

end

theorem toNat_byte (n : Nat) : (byte n).toNat = n % 256 := BitVec.toNat_ofNat n 8

/-- Two bytes hold the sixteen low bits of a number. -/
theorem testBit_two (n : Nat) {i : Nat} (low : i < 16) :
    ((byte (n / 256)).toNat * 256 + (byte (n % 256)).toNat).testBit i = n.testBit i := by
  have bytes : (byte (n / 256)).toNat * 256 + (byte (n % 256)).toNat = n % 2 ^ 16 := by
    rw [toNat_byte, toNat_byte]
    omega
  rw [bytes, Nat.testBit_mod_two_pow]
  simp [low]

/-! ### Timing and attention (R177, R179) -/

/-- The code of a frame rate (R192). -/
def rateCode : FrameRate → Nat
  | .r25 => 0
  | .r2997 => 1
  | .r50 => 2
  | .r5994 => 3

theorem rateOf?_rateCode (r : FrameRate) : rateOf? (rateCode r) = some r := by cases r <;> rfl

theorem rateCode_lt (r : FrameRate) : rateCode r < 4 := by cases r <;> decide

/-- The ranges of the timing values (R179). -/
def TimingInRange (threshold limit timeout : Nat) : Prop :=
  100 ≤ threshold ∧ threshold ≤ 1000 ∧ limit ≤ 120 ∧ 100 ≤ timeout ∧ timeout ≤ 2000

section
variable {r : FrameRate} {threshold limit timeout : Nat}

theorem timing?_good (good : TimingInRange threshold limit timeout) :
    timing? (rateCode r) threshold limit timeout = some ⟨r, threshold, limit, timeout⟩ := by
  obtain ⟨h₁, h₂, h₃, h₄, h₅⟩ := good
  simp [timing?, rateOf?_rateCode, h₁, h₂, h₃, h₄, h₅]

theorem timing?_bad (bad : ¬TimingInRange threshold limit timeout) :
    timing? (rateCode r) threshold limit timeout = none := by
  simp only [timing?, rateOf?_rateCode]
  exact if_neg (by simpa [TimingInRange, and_assoc] using bad)

end

/-- A SET TIMING with its rate in the table is its block's. -/
theorem exec_setTiming {rate : Nat} (codes : rate < 4) (o : Origin) (tag : Byte) (threshold limit timeout : Nat)
    (s : State) : exec (.setTiming o tag rate threshold limit timeout) s =
      serve .setTiming o tag true (setTimingBlock rate threshold limit timeout) s := by
  rw [← decide_eq_true codes]
  rfl

/-- Settles O48: the timing ranges, and the attention set read bit by bit. -/
theorem timingAndAttention : Obligations.TimingAndAttention := by
  refine ⟨?_, fun s tag rate threshold limit timeout ready high => ?_,
    fun _ _ _ _ => onlyFromControl_of_head rfl rfl (by decide) fun _ _ => rfl, fun s tag ready => ?_,
    onlyFromControl_of_head rfl rfl (by decide) fun _ _ => rfl, fun s tag mask ready => ?_,
    fun _ => onlyFromControl_of_head rfl rfl (by decide) fun _ _ => rfl⟩
  · rintro s tag r threshold limit timeout ready i made good inRange
    have run : exec i s = serve .setTiming .ctl tag true (setTimingBlock (rateCode r) threshold limit timeout) s := by
      rw [made]
      exact exec_setTiming (rateCode_lt r) ..
    have admits : Admits s .ctl .setTiming := admits_ctl rfl rfl ready
    refine ⟨fun h => answers_of_block run admits ?_, fun h => answers_of_block run admits ?_⟩
    · rw [setTimingBlock, timing?_good (inRange.mp h)]
      rfl
    · rw [setTimingBlock, timing?_bad fun values => h (inRange.mpr values)]
      rfl
  · exact answers_range (admits_ctl rfl rfl ready) rfl fun codes => absurd (of_decide_eq_true codes) high
  · refine ⟨byte (bitmap s.ctl.attention / 256), byte (bitmap s.ctl.attention % 256),
      answers_of_block rfl (admits_ctl rfl rfl ready) rfl, fun i => ?_⟩
    rw [testBit_two _ (by omega), testBit_bitmap]
  · exact answers_of_block rfl (admits_ctl rfl rfl ready) rfl

/-! ### Bytes clocked out (R173, R175) -/

/-- The status byte by its bits (R194). -/
def statusBits (ready reqFree response urgFree attention discard : Bool) (result : Nat) : Byte :=
  BitVec.ofNat 8 ((if ready then 128 else 0) + (if reqFree then 64 else 0) + (if response then 32 else 0)
    + (if urgFree then 16 else 0) + (if attention then 8 else 0) + (if discard then 4 else 0) + result)

theorem statusByte_eq (s : State) : statusByte s = statusBits s.ctl.ready s.ctl.reqFree s.ctl.response.isSome s.ctl.urgFree
    (attn s) s.ctl.discard s.ctl.urgResult.code := rfl

theorem statusBits_read : ∀ (a b c d e f : Bool) (r : Fin 4), ∀ x, x = statusBits a b c d e f r.1 →
    x.getLsbD 7 = a ∧ x.getLsbD 6 = b ∧ x.getLsbD 5 = c ∧ x.getLsbD 4 = d ∧ x.getLsbD 3 = e ∧ x.getLsbD 2 = f ∧
      x.toNat % 4 = r.1 := by
  simp only [forall_eq]
  decide

theorem code_urgentResult_lt (r : UrgentResult) : r.code < 4 := by cases r <;> decide

theorem attn_iff (s : State) : attn s = true ↔ ∃ i, s.ctl.attention.at i = true ∧ s.ctl.mask.at i = true := by
  simp [attn]

section
variable {s : State} {clocked : Nat}

theorem execReadResponse_empty (h : s.ctl.response = none) : execReadResponse clocked s =
    finish s (clockOut (statusByte s :: zeros clocked) s) := by
  unfold execReadResponse offered
  rw [h]
  cases clocked with
  | zero => rfl
  | succ n =>
    have bytes : (([0] ++ zeros (n + 1)).take (n + 1) : List Byte) = zeros (n + 1) := by
      show (List.replicate (n + 2) 0).take (n + 1) = zeros (n + 1)
      rw [List.take_replicate, Nat.min_eq_left (Nat.le_succ _), zeros]
    dsimp only
    rw [bytes]
    rfl

theorem execReadResponse_part {body : List Byte} (h : s.ctl.response = some body) (part : clocked ≤ body.length) :
    execReadResponse clocked s =
      finish s (clockOut (statusByte s :: (byte body.length :: body).take clocked) s) := by
  unfold execReadResponse offered
  rw [h]
  dsimp only
  rw [List.take_append_of_le_length (by rw [List.length_cons]; omega)]
  exact if_neg (by simp; omega)

theorem execReadResponse_whole {body : List Byte} (h : s.ctl.response = some body) (whole : body.length < clocked) :
    execReadResponse clocked s = finish s (responseRead (clockOut
      (statusByte s :: (byte body.length :: body) ++ List.replicate (clocked - 1 - body.length) 0) s)) := by
  have bytes : ((byte body.length :: body) ++ zeros clocked).take clocked =
      (byte body.length :: body) ++ List.replicate (clocked - 1 - body.length) 0 := by
    rw [List.take_append, List.take_of_length_le (by rw [List.length_cons]; omega), zeros, List.take_replicate,
      List.length_cons]
    congr 2
    omega
  unfold execReadResponse offered
  rw [h]
  dsimp only
  rw [bytes]
  exact if_pos (by simp; omega)

end

/-- Settles O46: the transactions by their code bytes, and the status byte by its bits. -/
theorem statusAndResponsesAreClockedOut : Obligations.StatusAndResponsesAreClockedOut := by
  refine ⟨⟨rfl, fun code clocked => ⟨?_, ?_, ?_, fun h₁ h₂ h₃ => ?_⟩⟩, fun s code extra => becomes_of_finish rfl,
    fun s clocked none => becomes_of_finish (execReadResponse_empty none), fun s clocked body waits =>
      ⟨fun part => becomes_of_finish (execReadResponse_part waits part),
        fun whole => becomes_of_finish (execReadResponse_whole waits whole)⟩, ?_⟩
  · rintro rfl
    rfl
  · rintro rfl
    rfl
  · rintro rfl
    rfl
  · simp only [transactionOf, transactionCode, if_neg h₁, if_neg h₂, if_neg h₃]
  · rintro s bit rfl
    obtain ⟨ready, reqFree, response, urgFree, attention, discard, result⟩ :=
      statusBits_read s.ctl.ready s.ctl.reqFree s.ctl.response.isSome s.ctl.urgFree (attn s) s.ctl.discard
        ⟨s.ctl.urgResult.code, code_urgentResult_lt _⟩ (statusByte s) rfl
    refine ⟨ready, reqFree, response, urgFree, ?_, discard, result.trans (by cases s.ctl.urgResult <;> rfl)⟩
    rw [← attn_iff]
    exact Bool.eq_iff_iff.mp attention

/-! ### Store requests (R35, R37 to R39) -/

/-- A store request whose block passes its operation on joins the store queue. -/
theorem joinsStore_of_block {c : Instr} {s : State} {o : Origin} {k : ReqKind} {tag : Byte}
    {block : State → State × Answer} {op : StoreOp} (run : exec c s = serve k o tag true block s) (admits : Admits s o k)
    (own : op.orig = o) (accepted : block s = acceptStore op s) : JoinsStore c s o k tag op := by
  subst own
  unfold acceptStore at accepted
  unfold JoinsStore
  revert accepted run admits
  cases op.orig with
  | panel p => exact fun accepted run admits => answers_of_block run admits accepted
  | ctl => exact fun accepted run admits => answersLater_of_block run admits accepted

section
variable {s : State} {o : Origin} {tag : Byte}

theorem savePresetBlock_range {n : Nat} {raw : List Nat}
    (h : ¬n < 64 ∨ raw = [] ∨ 16 < raw.length ∨ ∃ d ∈ raw, ¬d < 48) :
    savePresetBlock o tag n raw s = refuseWith .range s := by
  unfold savePresetBlock
  split
  next => rfl
  next sized =>
    simp only [Bool.or_eq_true, decide_eq_true_eq, not_or, List.length_eq_zero_iff] at sized
    rcases h with high | empty | long | bad
    · rw [finOf_ge high]
    · exact absurd empty sized.1
    · exact absurd long sized.2
    · rw [allOf_none (bad.imp fun d h => h.imp_right finOf_ge)]
      cases finOf 64 n <;> rfl

theorem savePresetBlock_inRange (n : Fin 64) {ds : List Dst} (named : ds ≠ []) (few : ds.length ≤ 16) :
    savePresetBlock o tag n.1 (ds.map Fin.val) s =
      if !distinct ds then refuseWith .repeated s
      else if !s.store.permit then refuseWith .storeLocked s
      else if storeBusy s o then refuseWith .storeBusy s
      else acceptStore ⟨.save (snapshot s ds), o, tag, n⟩ s := by
  have sized : ¬((decide ((ds.map Fin.val).length = 0) || decide (16 < (ds.map Fin.val).length)) = true) := by
    simp [named, few]
  have read : allOf (finOf 48) (ds.map Fin.val) = some ds := allOf_map finOf_val ds
  simp only [savePresetBlock, if_neg sized, finOf_val, read]

theorem clearPresetBlock_range {n : Nat} (h : ¬n < 64) : clearPresetBlock o tag n s = refuseWith .range s := by
  simp only [clearPresetBlock, finOf_ge h]

theorem clearPresetBlock_inRange (n : Fin 64) : clearPresetBlock o tag n.1 s =
    if !s.store.permit then refuseWith .storeLocked s
    else if storeBusy s o then refuseWith .storeBusy s
    else acceptStore ⟨.clear, o, tag, n⟩ s := by
  simp only [clearPresetBlock, finOf_val]

theorem recallBlock_range {n : Nat} (h : ¬n < 64) : recallBlock o tag n s = refuseWith .range s := by
  simp only [recallBlock, finOf_ge h]

theorem recallBlock_inRange (n : Fin 64) : recallBlock o tag n.1 s =
    if storeBusy s o then refuseWith .storeBusy s else acceptStore ⟨.recallPreset, o, tag, n⟩ s := by
  simp only [recallBlock, finOf_val]

end

/-- Settles O9: each block's checks in their order, then the operation joins. -/
theorem storeRequestsAreCheckedThenJoin : Obligations.StoreRequestsAreCheckedThenJoin := by
  intro s o tag busy isBusy
  rw [← storeBusy_iff] at isBusy
  have locked : s.store.permit = false → (!s.store.permit) = true := fun h => by rw [h]; rfl
  have permitted : s.store.permit = true → ¬(!s.store.permit) = true := fun h => by rw [h]; decide
  have free : ¬busy → ¬storeBusy s o = true := fun h full => h (isBusy.mpr full)
  refine ⟨fun admits => ⟨fun n raw bad => answers_of_block rfl admits (savePresetBlock_range bad), ?_⟩,
    fun admits => ⟨fun n high => answers_of_block rfl admits (clearPresetBlock_range high), ?_⟩,
    fun admits => ⟨fun n high => answers_of_block rfl admits (recallBlock_range high), ?_⟩⟩
  · rintro n ds named few c rfl
    have block := savePresetBlock_inRange (s := s) (o := o) (tag := tag) n named few
    refine ⟨fun twice => answers_of_block rfl admits (block.trans (if_pos ?_)), fun once permit => ?_,
      fun once permit full => ?_, fun once permit room => ?_⟩
    · simpa [← distinct_iff] using twice
    all_goals rw [if_neg (by simpa [distinct_iff] using once)] at block
    · exact answers_of_block rfl admits (block.trans (if_pos (locked permit)))
    all_goals rw [if_neg (permitted permit)] at block
    · exact answers_of_block rfl admits (block.trans (if_pos (isBusy.mp full)))
    · exact joinsStore_of_block rfl admits rfl (block.trans (if_neg (free room)))
  · rintro n c rfl
    have block := clearPresetBlock_inRange (s := s) (o := o) (tag := tag) n
    refine ⟨fun permit => answers_of_block rfl admits (block.trans (if_pos (locked permit))), fun permit full => ?_,
      fun permit room => ?_⟩
    all_goals rw [if_neg (permitted permit)] at block
    · exact answers_of_block rfl admits (block.trans (if_pos (isBusy.mp full)))
    · exact joinsStore_of_block rfl admits rfl (block.trans (if_neg (free room)))
  · rintro n c rfl
    have block := recallBlock_inRange (s := s) (o := o) (tag := tag) n
    exact ⟨fun full => answers_of_block rfl admits (block.trans (if_pos (isBusy.mp full))),
      fun room => joinsStore_of_block rfl admits rfl (block.trans (if_neg (free room)))⟩

/-! ### Permission, grant and raw access (R184 to R186) -/

section
variable {s : State} {tag : Byte} {job : Job} {wanted : Option Byte} {raw : Option RawJob}

theorem grantBlock_idle (h : s.store.engine = .idle) : grantBlock tag s = okWith (s.setEngine (.granted none)) := by
  simp only [grantBlock, h]

theorem grantBlock_busy (h : s.store.engine = .busy job wanted) :
    grantBlock tag s = (s.setEngine (.busy job (some tag)), .later) := by
  simp only [grantBlock, h]

theorem grantBlock_granted (h : s.store.engine = .granted raw) : grantBlock tag s = okWith s := by
  simp only [grantBlock, h]

theorem releaseBlock_granted (h : s.store.engine = .granted none) :
    releaseBlock s = okWith (startOps s.store.queue (openPort s)) := by
  simp only [releaseBlock, h]

theorem releaseBlock_other (h : s.store.engine = .idle ∨ ∃ job wanted, s.store.engine = .busy job wanted) :
    releaseBlock s = okWith s := by
  rcases h with h | ⟨job, wanted, h⟩ <;> simp only [releaseBlock, h]

theorem grantHeld_iff (s : State) : grantHeld s = true ↔ ∃ raw, s.store.engine = .granted raw := by
  unfold grantHeld
  cases s.store.engine <;> simp

theorem not_grantHeld (h : ∀ raw, s.store.engine ≠ .granted raw) : (!grantHeld s) = true := by
  rw [Bool.not_eq_true', Bool.eq_false_iff, ne_eq, grantHeld_iff]
  exact fun ⟨raw, held⟩ => h raw held

theorem grantHeld_of (h : s.store.engine = .granted raw) : ¬(!grantHeld s) = true := by
  simpa using (grantHeld_iff s).mpr ⟨raw, h⟩

theorem rawReadBlock_range {start count : Nat} (h : count = 0 ∨ 32 < count ∨ 4096 < start + count) :
    rawReadBlock start count s = refuseWith .range s :=
  if_pos (by simp [runFits, show Config.storeWords = 4096 from rfl]; omega)

theorem rawReadBlock_inRange {start count : Nat} (low : 1 ≤ count) (few : count ≤ 32) (fits : start + count ≤ 4096) :
    rawReadBlock start count s =
      if !grantHeld s then refuseWith .notPermitted s
      else (sendPort [.read start count] (openPort s),
        .now .ok (byte count :: wordBytes (readWords s.store.mem start count))) :=
  if_neg (by simp [runFits, show Config.storeWords = 4096 from rfl]; omega)

theorem wordRun_eq (a : Nat) (ws : List Word) : wordRun a ws = ws.zipIdx.map fun q => (a + q.2, q.1) := by
  induction ws generalizing a with
  | nil => rfl
  | cons w ws ih =>
    rw [wordRun, ih, List.zipIdx_cons, List.map_cons, List.zipIdx_succ, List.map_map]
    exact congrArg (List.cons _) (List.map_congr_left fun q _ => by simp [Nat.add_assoc, Nat.add_comm 1])

theorem rawWriteBlock_range {start : Nat} {words : List Word}
    (h : words = [] ∨ 16 < words.length ∨ 4096 < start + words.length) :
    rawWriteBlock tag start words s = refuseWith .range s := by
  cases words with
  | nil => rfl
  | cons w more =>
    refine if_pos ?_
    rcases h with empty | long | high
    · cases empty
    · simp only [long, decide_true, Bool.true_or]
    · simp [runFits, show Config.storeWords = 4096 from rfl]
      simp only [List.length_cons] at high
      omega

theorem rawWriteBlock_inRange {start : Nat} {w : Word} {more : List Word} (few : (w :: more).length ≤ 16)
    (fits : start + (w :: more).length ≤ 4096) : rawWriteBlock tag start (w :: more) s =
      if !grantHeld s then refuseWith .notPermitted s
      else if !s.store.permit then refuseWith .storeLocked s
      else (sendPort [.writeEnable, .writeWord start w]
        (((openPort s).setEngine (.granted (some ⟨tag, (start, w), wordRun (start + 1) more⟩))).setLatch true), .later) :=
  if_neg (by simp only [runFits, show Config.storeWords = 4096 from rfl]; simp; simp only [List.length_cons] at few fits; omega)

end

/-- Settles O14, by the engine's state and each block's checks in order. -/
theorem permissionGrantAndRawAccess : Obligations.PermissionGrantAndRawAccess := by
  refine ⟨⟨fun s tag ready => ?_, fun s tag ready => ?_, ?_, ?_, ?_, ?_⟩, fun s tag start count ready => ?_,
    fun s tag start words ready c made => ?_, fun _ _ => ?_, fun _ _ => ?_⟩
  · exact ⟨answers_of_block rfl (admits_ctl rfl rfl ready) rfl, answers_of_block rfl (admits_ctl rfl rfl ready) rfl⟩
  · have grants : Admits s .ctl .storeGrant := admits_ctl rfl rfl ready
    have releases : Admits s .ctl .storeRelease := admits_ctl rfl rfl ready
    exact ⟨fun idle => answers_of_block rfl grants (grantBlock_idle idle),
      fun _ _ busy => answersLater_of_block rfl grants (grantBlock_busy busy),
      fun _ granted => answers_of_block rfl grants (grantBlock_granted granted),
      fun granted => answers_of_block rfl releases (releaseBlock_granted granted),
      fun other => answers_of_block rfl releases (releaseBlock_other other)⟩
  iterate 4 exact onlyFromControl_of_head rfl rfl (by decide) fun _ _ => rfl
  · have admits : Admits s .ctl .rawRead := admits_ctl rfl rfl ready
    refine ⟨fun bad => answers_of_block rfl admits (rawReadBlock_range bad), fun low few fits => ?_⟩
    have block := rawReadBlock_inRange (s := s) low few fits
    refine ⟨fun none => answers_of_block rfl admits (block.trans (if_pos (not_grantHeld none))), fun raw granted => ?_⟩
    refine answers_of_block rfl admits ((block.trans (if_neg (grantHeld_of granted))).trans ?_)
    rw [wordBytes, readWords, List.flatMap_map]
    rfl
  · subst made
    have admits : Admits s .ctl .rawWrite := admits_ctl rfl rfl ready
    refine ⟨fun bad => answers_of_block rfl admits (rawWriteBlock_range bad), ?_⟩
    rintro w more rfl few fits
    have block := rawWriteBlock_inRange (s := s) (tag := tag) few fits
    refine ⟨fun none => answers_of_block rfl admits (block.trans (if_pos (not_grantHeld none))), fun raw granted => ?_⟩
    rw [if_neg (grantHeld_of granted)] at block
    refine ⟨fun locked => answers_of_block rfl admits (block.trans (if_pos (by rw [locked]; rfl))), fun permit => ?_⟩
    rw [if_neg (by rw [permit]; decide), wordRun_eq] at block
    exact answersLater_of_block rfl admits block
  iterate 2 exact onlyFromControl_of_head rfl rfl (by decide) fun _ _ => rfl

end Sys2Proof.Machine
end

section
/-! SUPPORT. The checks at the links, subscriptions and holds, and the start values: the obligations O3, O44 and O50. -/

namespace Sys2Proof.Machine

/-! ### The checks at the links (R157, R158, R174) -/

section
variable {s : State} {p : Pnl} {k : ReqKind} {codes : Bool}

theorem panelGate_range (session : (s.link p).state.session = true) :
    gate s (.panel p) k false = .refuse .range := by
  simp [gate, panelGate, session]

theorem panelGate_control (session : (s.link p).state.session = true) (control : k.controlOnly = true) :
    gate s (.panel p) k true = .refuse .notPermitted := by
  simp [gate, panelGate, session, control]

theorem panelGate_switcher (session : (s.link p).state.session = true) (other : s.tally.switcher ≠ some p) :
    gate s (.panel p) .busTally true = .refuse .notPermitted := by
  simp [gate, panelGate, session, other, ReqKind.controlOnly]

theorem panelGate_quiescing (closing : (s.link p).state = .quiescing) (panel : k.controlOnly = false)
    (own : k = .busTally → s.tally.switcher = some p) (refused : k.takenQuiescing = false) :
    gate s (.panel p) k true = .refuse .quiescing := by
  have switcher : ¬(decide (k = .busTally) && s.tally.switcher != some p) = true := by
    simpa using own
  simp only [gate, panelGate]
  rw [if_pos (by rw [closing]; rfl), if_neg (by decide), if_neg (by simp [panel]), if_neg switcher,
    if_pos (by simp [closing, refused])]

theorem panelGate_drop (ended : (s.link p).state.session = false) (other : k ≠ .hello) :
    gate s (.panel p) k codes = .drop := by
  simp [gate, panelGate, ended, other]

theorem controlGate_range : gate s .ctl k false = .refuse .range := rfl

theorem controlGate_notReady (plain : k.urgent = false) (notReady : s.ctl.ready = false) (other : k ≠ .readStatus) :
    gate s .ctl k true = .refuse .notReady := by
  simp [gate, controlGate, plain, notReady, other]

theorem controlGate_panelOnly (plain : k.urgent = false) (ready : s.ctl.ready = true) (panel : k.panelOnly = true) :
    gate s .ctl k true = .refuse .notPermitted := by
  simp [gate, controlGate, plain, ready, panel]

end

/-- No request with a panel or the control link as its origin is urgent, and a BUS TALLY has no code that could be out of
its table. -/
theorem head_plain {c : Instr} {k : ReqKind} {o : Origin} {tag : Byte} (head : requestHead c = some (k, o, tag)) :
    k.urgent = false ∧ (k = .busTally → codesOk c = true) := by
  cases c <;> simp only [requestHead, Option.some.injEq, Prod.mk.injEq, reduceCtorEq] at head <;>
    (obtain ⟨rfl, -, -⟩ := head; exact ⟨rfl, by simp [codesOk]⟩)

/-- Settles O3: every request is served behind its link's gate, which is read check by check. -/
theorem linksRefuseByTheirChecks : Obligations.LinksRefuseByTheirChecks := by
  intro c k o tag s head
  obtain ⟨block, run⟩ := exec_request head
  obtain ⟨plain, busTally⟩ := head_plain head
  have refused : ∀ {codes code}, codesOk c = codes → gate s o k codes = .refuse code → Answers c s s o k tag code [] :=
    fun ok h => answers_of_refused (run s) (ok ▸ h)
  refine ⟨?_, ?_, ?_⟩
  · rintro p rfl session
    refine ⟨fun bad => refused bad (panelGate_range session), fun ok control => refused ok (panelGate_control session control),
      ?_, fun ok panel own closing late => refused ok (panelGate_quiescing closing panel own late)⟩
    rintro rfl other
    exact refused (busTally rfl) (panelGate_switcher session other)
  · rintro p rfl ended other
    have dropped : exec c s = finish s (discardHeld (.panel p) k.code tag s) := by
      rw [run s, serve, panelGate_drop ended other]
    by_cases waits : heldWaits (s.link p) k.code tag = true
    · exact ⟨none, .inr rfl, becomes_of_finish (dropped.trans (congrArg (finish s) (if_pos waits)))⟩
    · refine ⟨_, .inl rfl, becomes_of_finish (dropped.trans (congrArg (finish s) ((if_neg waits).trans ?_)))⟩
      exact (setLink_link s p).symm
  · rintro rfl
    exact ⟨fun bad => refused bad controlGate_range, fun ok notReady other => refused ok (controlGate_notReady plain notReady other),
      fun ok ready panel => refused ok (controlGate_panelOnly plain ready panel)⟩

/-! ### Subscriptions and holds (R167, R170) -/

theorem nodup_newRefs (old new : Subs) : (newRefs old new).Nodup := by
  have once : ∀ {n : Nat} {f : Fin n → Ref} (b : Bool), Function.Injective f → (if b then (fins n).map f else []).Nodup := by
    intro n f b injective
    split
    · exact (nodup_fins n).map injective
    · exact List.nodup_nil
  have member : ∀ {n : Nat} {f : Fin n → Ref} {b : Bool} {r}, r ∈ (if b then (fins n).map f else []) → ∃ i, f i = r := by
    intro n f b r h
    split at h
    · exact (List.mem_map.mp h).imp fun _ => And.right
    · cases h
  refine (List.Nodup.append (once _ fun _ _ h => by cases h; rfl) (once _ fun _ _ h => by cases h; rfl) ?_).append
    (once _ fun _ _ h => by cases h; rfl) ?_
  · intro r route tally
    obtain ⟨d, rfl⟩ := member route
    obtain ⟨c, same⟩ := member tally
    cases same
  · intro r before key
    obtain ⟨i, rfl⟩ := member key
    rcases List.mem_append.mp before with route | tally
    · obtain ⟨d, same⟩ := member route
      cases same
    · obtain ⟨c, same⟩ := member tally
      cases same

/-- References that are not in the set, each once, are added as they stand. -/
theorem addRefs_fresh {set new : List Ref} (once : new.Nodup) (fresh : ∀ r ∈ new, r ∉ set) :
    addRefs set new = set ++ new := by
  obtain ⟨marked, added, sublist, mem⟩ := addRefs_append set new
  rw [added]
  refine congrArg _ (sublist.eq_of_length_le ?_)
  exact (List.subperm_of_subset once fun r listed => (mem r).mpr ⟨listed, fresh r listed⟩).length_le

theorem subscribeBlock_range {classes : Nat} (h : ¬classes < 8) (p : Pnl) (s : State) :
    subscribeBlock (.panel p) classes s = refuseWith .range s := if_neg h

theorem subscribeBlock_ok {classes : Nat} (h : classes < 8) (p : Pnl) (s : State) :
    subscribeBlock (.panel p) classes s = okWith (s.setLink p (resubscribe (s.link p) (subsOf classes))) := if_pos h

theorem holdBlock_range {time : Nat} (h : time = 0 ∨ 1000 < time) (p : Pnl) (s : State) :
    holdBlock (.panel p) time s = refuseWith .range s := if_neg (by simp; omega)

theorem holdBlock_ok {time : Nat} (low : 1 ≤ time) (high : time ≤ 1000) (p : Pnl) (s : State) :
    holdBlock (.panel p) time s = okWith (setHoldTimer p (some (time * 1000)) s) := if_pos (by simp [low, high])

/-- Settles O44: a QUIESCING link refuses at its gate, and on an UP link each block keeps its ranges. -/
theorem subscriptionsAndHolds : Obligations.SubscriptionsAndHolds := by
  refine ⟨fun s p tag classes time closing => ⟨?_, ?_, ?_⟩, fun s p tag classes up => ⟨fun high => ?_, ?_⟩,
    fun s p tag time up => ?_, fun s p => becomes_of_finish rfl⟩
  · exact answers_of_refused rfl (panelGate_quiescing closing rfl nofun rfl)
  · exact answers_of_refused rfl (panelGate_quiescing closing rfl nofun rfl)
  · exact answers_of_refused rfl (panelGate_quiescing closing rfl nofun rfl)
  · have admits : Admits s (.panel p) .subscribe := ⟨rfl, nofun, .inl up⟩
    exact answers_of_block rfl admits (subscribeBlock_range high p s)
  · rintro low old new rfl rfl
    have admits : Admits s (.panel p) .subscribe := ⟨rfl, nofun, .inl up⟩
    obtain ⟨added, changes, sublist, -⟩ := addRefs_append ((s.link p).changes.filter (subsOf classes).covers)
      (newRefs (s.link p).subs (subsOf classes))
    refine ⟨_, added, answers_of_block rfl admits ((subscribeBlock_ok low p s).trans ?_), rfl,
      sublist.nodup (nodup_newRefs _ _), fun once covered => ?_⟩
    · rw [resubscribe, changes]
      rfl
    · refine List.append_cancel_left (changes.symm.trans (addRefs_fresh (nodup_newRefs _ _) fun r fresh kept => ?_))
      have lacking := (mem_newRefs.mp fresh).2
      rw [covered r (List.mem_of_mem_filter kept)] at lacking
      cases lacking
  · have holds : Admits s (.panel p) .hold := ⟨rfl, nofun, .inl up⟩
    have resumes : Admits s (.panel p) .resume := ⟨rfl, nofun, .inl up⟩
    exact ⟨fun bad => answers_of_block rfl holds (holdBlock_range bad p s),
      fun low high => answers_of_block rfl holds (holdBlock_ok low high p s), answers_of_block rfl resumes rfl⟩

/-! ### The starts (R23, R188) -/

theorem memAfterCut_whole {s : State} (h : s.store.engine.inFlight = none) : memAfterCut s = s.store.mem := by
  simp only [memAfterCut, h]

theorem memAfterCut_cut {s : State} {w : Nat × Word} (h : s.store.engine.inFlight = some w) :
    memAfterCut s = s.store.mem ∨ memAfterCut s = memWrite s.store.mem w.1 w.2 := by
  simp only [memAfterCut, h]
  split
  · exact .inr rfl
  · exact .inl rfl

theorem attn_startUp (cause : StartCause) (s : State) : attn (startUp cause s) = false := by
  rw [Bool.eq_false_iff, ne_eq, attn_iff]
  rintro ⟨i, set, -⟩
  rw [show (startUp cause s).ctl.attention.at i = false from Tab.at_tabOf _ i] at set
  cases set

theorem statusByte_startUp (cause : StartCause) (s : State) : statusByte (startUp cause s) = 0x50 := by
  rw [statusByte_eq, attn_startUp]
  rfl

/-- Settles O50, record by record of the state that a start leaves. -/
theorem startsLeaveTheStartValues : Obligations.StartsLeaveTheStartValues := by
  intro s c cause started
  have run : exec c s = .next (startUp cause s) := by
    rcases started with ⟨rfl, rfl⟩ | ⟨rfl, rfl⟩ <;> rfl
  refine ⟨startUp cause s, run, memAfterCut_whole, fun w => memAfterCut_cut, rfl, rfl, rfl,
    fun d => ⟨Tab.at_tabOf _ d, Tab.at_tabOf _ d, Tab.at_tabOf _ d⟩, rfl, rfl, rfl,
    fun w => ⟨Tab.at_tabOf _ w, Tab.at_tabOf _ w⟩, fun ch => Tab.at_tabOf _ ch, fun p => Tab.at_tabOf _ p,
    fun y => Tab.at_tabOf _ y, fun k => Tab.at_tabOf _ k, fun p y => ⟨?_, ?_⟩, rfl, rfl, fun g => Tab.at_tabOf _ g,
    fun l => Tab.at_tabOf _ l, fun p => Tab.at_tabOf _ p, rfl, fun i => ⟨Tab.at_tabOf _ i, Tab.at_tabOf _ i⟩,
    statusByte_startUp cause s, rfl⟩
  · exact (congrArg (fun t => Tab.at t y) (Tab.at_tabOf _ p)).trans (Tab.at_tabOf _ y)
  · exact (congrArg (fun t => Tab.at t y) (Tab.at_tabOf _ p)).trans (Tab.at_tabOf _ y)

end Sys2Proof.Machine
end

section
/-! SUPPORT. Store operations in their turn, the words of a save, and a RECALL's read: the obligations O10, O11 and O13. -/

namespace Sys2Proof.Machine

/-! ### Operations in turn (R182, R183) -/

section
variable {s : State} {op : StoreOp} {rest : List StoreOp}

theorem joinStore_busy (h : s.store.engine ≠ .idle) :
    joinStore op s = { s with store := { s.store with queue := s.store.queue ++ [op] } } := if_neg h

theorem joinStore_idle (h : s.store.engine = .idle) (empty : s.store.queue = []) :
    joinStore op s = startOps [op] (openPort s) := by
  rw [joinStore, if_pos h, empty]
  rfl

/-- Of the operations that wait the oldest reads, if it is a RECALL. -/
theorem startOps_recall (h : op.work = .recallPreset) : startOps (op :: rest) s = { s with store := { s.store with
    engine := .busy (.read op false) none, queue := rest
    port := s.store.port ++ [.read op.base (recallLength s.store.mem op.base)] } } := by
  simp only [startOps, h]
  rfl

/-- A save or clear with permission begins its write sequence. -/
theorem startOps_write (h : op.work ≠ .recallPreset) (permit : s.store.permit = true) : startOps (op :: rest) s =
    { s with store := { s.store with
      engine := .busy (.write op (op.base, emptyHeader) op.moreWrites false) none, queue := rest, latch := true
      port := s.store.port ++ [.writeEnable, .writeWord op.base emptyHeader] } } := by
  cases work : op.work with
  | recallPreset => exact absurd work h
  | save pairs => simp only [startOps, work]; exact if_pos permit
  | clear => simp only [startOps, work]; exact if_pos permit

/-- Without permission it ends STORE_LOCKED, and the next operation has its turn. -/
theorem startOps_locked (h : op.work ≠ .recallPreset) (permit : s.store.permit = false) : startOps (op :: rest) s =
    startOps rest (tellLink op.orig (firstOutcome op .storeLocked true none
      { s with store := { s.store with engine := .idle, queue := rest } })) := by
  have off : ¬s.store.permit = true := by simp [permit]
  cases work : op.work with
  | recallPreset => exact absurd work h
  | save pairs =>
    conv_lhs => simp only [startOps, work]
    exact if_neg off
  | clear =>
    conv_lhs => simp only [startOps, work]
    exact if_neg off

theorem recallLength_counted {m : Memory} {base k : Nat}
    (h : headerCount (memRead m base) = some k ∧ 1 ≤ k ∧ k ≤ 16) : recallLength m base = 1 + k := by
  obtain ⟨header, low, high⟩ := h
  simp [recallLength, header, salvoCount, low, high]

theorem recallLength_uncounted {m : Memory} {base : Nat}
    (h : ∀ k, ¬(headerCount (memRead m base) = some k ∧ 1 ≤ k ∧ k ≤ 16)) : recallLength m base = 1 := by
  cases header : headerCount (memRead m base) with
  | none => simp only [recallLength, header]
  | some k =>
    have other : ¬(1 ≤ k ∧ k ≤ 16) := fun range => h k ⟨header, range⟩
    simp only [recallLength, header]
    exact if_neg (by simpa [salvoCount] using other)

variable {code : Result} {ended : Bool} {pair : Option Nat} {p : Pnl}

theorem pairParam_eq (pair : Option Nat) : pairParam pair = pair.toList.map byte := by cases pair <;> rfl

theorem firstOutcome_ctl (own : op.orig = .ctl) : firstOutcome op code ended pair s =
    placeResponse op.kind.req.code op.tag code (pair.toList.map byte) s := by
  simp only [firstOutcome, own, pairParam_eq]

theorem firstOutcome_panel (own : op.orig = .panel p) (session : (s.link p).state.session = true) :
    firstOutcome op code ended pair s =
      place p (.outcome op.kind op.tag code ended (byte (pair.getD op.preset.1))) s := by
  simp only [firstOutcome, own, outcome]
  exact if_pos session

theorem firstOutcome_gone (own : op.orig = .panel p) (ended' : (s.link p).state.session = false) :
    firstOutcome op code ended pair s = s := by
  simp only [firstOutcome, own, outcome]
  exact if_neg (by simp [ended'])

theorem endOp_unmarked (op : StoreOp) (wanted : Option Byte) (s : State) :
    endOp op false wanted s = afterOp wanted (tellLink op.orig (s.setEngine .idle)) := rfl

end

/-- Settles O10: `joinStore` by the engine's state, `startOps` by the oldest operation, then the outcomes and what follows
an operation. -/
theorem storeOperationsRunInTurn : Obligations.StoreOperationsRunInTurn := by
  have reads : ∀ (m : Memory) (op : StoreOp) (counted : Nat → Prop),
      (∀ k, counted k ↔ (headerCount (memRead m op.base) = some k ∧ 1 ≤ k ∧ k ≤ 16)) →
      (∀ k, counted k → recallLength m op.base = 1 + k) ∧ ((∀ k, ¬counted k) → recallLength m op.base = 1) :=
    fun m op counted iff => ⟨fun k count => recallLength_counted ((iff k).mp count),
      fun none => recallLength_uncounted fun k header => none k ((iff k).mpr header)⟩
  refine ⟨⟨fun s op => joinStore_busy, fun s op idle empty => ⟨fun recalls counted iff => ?_, fun other permit => ?_⟩,
    fun s op rest => ⟨rfl, fun recalls counted iff => ?_, startOps_write, ⟨fun v => rfl, rfl, rfl⟩, fun other locked own => ?_,
      fun p other locked own session => ?_⟩⟩,
    ⟨fun s e => ⟨rfl, rfl⟩, fun s typ tag code ps => rfl, fun s => ⟨rfl, fun tag => rfl⟩, fun op s => rfl,
      fun op s tag => rfl, fun op s wanted p own => ?_, fun op s wanted own => ?_,
      fun op code ended pair s => ⟨firstOutcome_ctl, fun p own => ⟨firstOutcome_panel own, firstOutcome_gone own⟩⟩⟩⟩
  · obtain ⟨count, one⟩ := reads s.store.mem op counted iff
    refine ⟨_, count, one, (joinStore_idle idle empty).trans ((startOps_recall recalls).trans ?_)⟩
    rw [← empty]
    rfl
  · refine (joinStore_idle idle empty).trans ((startOps_write (s := openPort s) other permit).trans ?_)
    rw [← empty]
    rfl
  · obtain ⟨count, one⟩ := reads s.store.mem op counted iff
    exact ⟨_, count, one, startOps_recall recalls⟩
  · rw [startOps_locked other locked, firstOutcome_ctl own, own]
    rfl
  · rw [startOps_locked other locked, firstOutcome_panel own (by exact session), own]
    rfl
  · rw [endOp_unmarked, own]
    rfl
  · rw [endOp_unmarked, own]
    rfl

/-! ### The words of a save (R183, R196, R197) -/

/-- Words written one after another. -/
def writeAll (ws : List (Nat × Word)) (m : Memory) : Memory := ws.foldl (fun m w => memWrite m w.1 w.2) m

section
variable {m : Memory} (canonical : Memory.wf m = true)
include canonical

theorem wf_writeAll (ws : List (Nat × Word)) : Memory.wf (writeAll ws m) = true := by
  induction ws generalizing m with
  | nil => exact canonical
  | cons w ws ih => exact ih (memWrite_wf m w.1 w.2 canonical)

theorem memRead_writeAll_other {ws : List (Nat × Word)} {a : Nat} (h : a ∉ ws.map Prod.fst) :
    memRead (writeAll ws m) a = memRead m a := by
  induction ws generalizing m with
  | nil => rfl
  | cons w ws ih =>
    rw [List.map_cons, List.mem_cons, not_or] at h
    obtain ⟨other, later⟩ := h
    rw [show writeAll (w :: ws) m = writeAll ws (memWrite m w.1 w.2) from rfl, ih (memWrite_wf m _ _ canonical) later,
      memRead_memWrite m _ _ _ canonical, if_neg other]

theorem memRead_writeAll_mem {ws : List (Nat × Word)} {a : Nat} {v : Word} (once : (ws.map Prod.fst).Nodup)
    (h : (a, v) ∈ ws) : memRead (writeAll ws m) a = v := by
  induction ws generalizing m with
  | nil => cases h
  | cons w ws ih =>
    obtain ⟨fresh, once⟩ := List.nodup_cons.mp once
    have wf := memWrite_wf m w.1 w.2 canonical
    rw [show writeAll (w :: ws) m = writeAll ws (memWrite m w.1 w.2) from rfl]
    rcases List.mem_cons.mp h with rfl | later
    · rw [memRead_writeAll_other wf fresh, memRead_memWrite m _ _ _ canonical, if_pos rfl]
    · exact ih wf once later

end

theorem pairWrites_addresses (a : Nat) (ps : List (Dst × Src)) :
    (pairWrites a ps).map Prod.fst = List.range' a ps.length := by
  induction ps generalizing a with
  | nil => rfl
  | cons p ps ih => rw [pairWrites, List.map_cons, ih, List.length_cons, List.range'_succ]

theorem length_pairWrites (a : Nat) (ps : List (Dst × Src)) : (pairWrites a ps).length = ps.length := by
  have := congrArg List.length (pairWrites_addresses a ps)
  rwa [List.length_map, List.length_range'] at this

theorem pairWrites_mem (a : Nat) (ps : List (Dst × Src)) (i : Nat) (h : i < ps.length) :
    (a + i, pairWord ps[i]) ∈ pairWrites a ps := by
  induction ps generalizing a i with
  | nil => cases h
  | cons p ps ih =>
    cases i with
    | zero => exact List.mem_cons_self
    | succ i =>
      refine List.mem_cons_of_mem _ ?_
      have := ih (a + 1) i (Nat.lt_of_succ_lt_succ h)
      rwa [Nat.add_assoc, Nat.add_comm 1 i] at this

theorem pairWord_read (p : Dst × Src) : ((pairWord p).toNat / 256 % 64, (pairWord p).toNat % 64) = (p.1.1, p.2.1) := by
  have d := p.1.isLt
  have x := p.2.isLt
  have value : (pairWord p).toNat = p.1.1 * 256 + p.2.1 := by
    rw [pairWord, BitVec.toNat_ofNat, Nat.mod_eq_of_lt (by omega)]
  rw [value, Prod.mk.injEq]
  omega

theorem headerCount_valid {n : Nat} (few : n ≤ 16) : headerCount (validHeader n) = some n := by
  have value : (validHeader n).toNat = 0x5600 + n := by
    rw [validHeader, BitVec.toNat_ofNat, Nat.mod_eq_of_lt (by omega)]
  rw [headerCount, value, if_pos (by omega), Option.some.injEq]
  omega

/-- The writes of a save: the EMPTY header, the pairs, and the VALID header. -/
theorem save_writes {op : StoreOp} {pairs : List (Dst × Src)} (h : op.work = .save pairs) :
    (op.base, emptyHeader) :: op.moreWrites =
      (op.base, emptyHeader) :: (pairWrites (op.base + 1) pairs ++ [(op.base, validHeader pairs.length)]) := by
  simp only [StoreOp.moreWrites, h]

/-- Settles O11: no write between the first and the last of a save is to its header. -/
theorem saveReadsEmptyUntilItsLastWord : Obligations.SaveReadsEmptyUntilItsLastWord := by
  refine ⟨?_, ?_⟩
  · rintro m op canonical clear
    refine ⟨by simp only [StoreOp.moreWrites, clear], ?_⟩
    rintro after rfl
    refine ⟨?_, fun a other => by rw [memRead_memWrite m _ _ _ canonical, if_neg other]⟩
    rw [memRead_memWrite m _ _ _ canonical, if_pos rfl]
    rfl
  · rintro m op pairs canonical save few writes after made rfl
    rw [save_writes save] at made
    generalize op.base = base at *
    obtain ⟨cleared, cleared_eq⟩ : ∃ c, c = memWrite m base emptyHeader := ⟨_, rfl⟩
    have wf : Memory.wf cleared = true := cleared_eq ▸ memWrite_wf m _ _ canonical
    have header : memRead cleared base = 0 := by
      rw [cleared_eq, memRead_memWrite m _ _ _ canonical, if_pos rfl]
      rfl
    have addresses := pairWrites_addresses (base + 1) pairs
    have apart : base ∉ (pairWrites (base + 1) pairs).map Prod.fst := by
      rw [addresses, List.mem_range'_1]
      omega
    have length : writes.length = pairs.length + 2 := by
      rw [made, List.length_cons, List.length_append, length_pairWrites]
      rfl
    have step : ∀ k, (writes.take (k + 1)).foldl (fun m w => memWrite m w.1 w.2) m =
        writeAll ((pairWrites (base + 1) pairs ++ [(base, validHeader pairs.length)]).take k) cleared := by
      intro k
      rw [made, cleared_eq]
      rfl
    have complete : (writes.take writes.length).foldl (fun m w => memWrite m w.1 w.2) m =
        memWrite (writeAll (pairWrites (base + 1) pairs) cleared) base (validHeader pairs.length) := by
      rw [List.take_length, made, cleared_eq, List.foldl_cons, List.foldl_append]
      rfl
    have paired : Memory.wf (writeAll (pairWrites (base + 1) pairs) cleared) = true := wf_writeAll wf _
    refine ⟨length, fun k low short => ?_, ?_, ?_, fun k a outside => ?_⟩
    · obtain ⟨j, rfl⟩ := Nat.exists_eq_add_of_le' low
      dsimp only
      rw [step, List.take_append_of_le_length (by rw [length_pairWrites]; omega), memRead_writeAll_other wf, header]
      exact fun named => apart ((List.take_sublist ..).map _ |>.subset named)
    · dsimp only
      rw [complete, memRead_memWrite _ _ _ _ paired, if_pos rfl, headerCount_valid few]
    · dsimp only
      refine List.ext_getElem (by simp [presetPairs]) fun i _ _ => ?_
      have inRange : i < pairs.length := by simpa [presetPairs] using ‹i < (presetPairs _ _ _).length›
      have read : memRead (memWrite (writeAll (pairWrites (base + 1) pairs) cleared) base (validHeader pairs.length))
          (base + 1 + i) = pairWord pairs[i] := by
        rw [memRead_memWrite _ _ _ _ paired, if_neg (by omega)]
        exact memRead_writeAll_mem wf (addresses ▸ List.nodup_range') (pairWrites_mem (base + 1) pairs i inRange)
      simp only [presetPairs, List.getElem_map, List.getElem_range, complete, read, pairWord_read]
    · dsimp only
      refine memRead_writeAll_other (ws := writes.take k) canonical fun named => ?_
      have listed := (List.take_sublist ..).map Prod.fst |>.subset named
      rw [made] at listed
      simp only [List.map_cons, List.map_append, List.map_nil, List.mem_cons, List.mem_append, addresses,
        List.mem_range'_1, List.not_mem_nil, or_false] at listed
      omega

/-! ### A RECALL's read (R39, R40) -/

theorem judgeSalvo_free {s : State} {o : Origin} {tag : Byte} {ps : List (Dst × Src)} (named : ps ≠ [])
    (few : ps.length ≤ 16) (fresh : ¬IsRepeat s o tag ps) (unlocked : ∀ p ∈ ps, ¬LockedTo (s.entry p.1) o)
    (unmarked : ∀ p ∈ ps, (s.entry p.1).mark = none) :
    judgeSalvo s o tag (ps.map fun p => (p.1.1, p.2.1)) = if anyHeld s ps = true then .wait ps else .stage ps := by
  have free : ¬anyMarked s ps = true := by
    rw [anyMarked_iff]
    rintro ⟨p, listed, marked⟩
    rw [unmarked p listed] at marked
    cases marked
  exact (judgeSalvo_unlocked named few fresh unlocked).trans (if_neg free)

section
variable {s : State} {op : StoreOp} {wanted : Option Byte}

theorem readDone_marked (h : s.store.engine = .busy (.read op true) wanted) :
    readDone s = endOp op true wanted (openPort s) := by
  simp only [readDone, h, if_true]

theorem readDone_unmarked (h : s.store.engine = .busy (.read op false) wanted) :
    readDone s = endOp op false wanted (recallResult op (openPort s)) := by
  simp only [readDone, h]
  rfl

theorem recallResult_empty (h : headerCount (memRead s.store.mem op.base) = none) :
    recallResult op s = firstOutcome op .empty true none s := by
  simp only [recallResult, h]

theorem recallResult_range {n : Nat} (h : headerCount (memRead s.store.mem op.base) = some n) (bad : n = 0 ∨ 16 < n) :
    recallResult op s = firstOutcome op .range true none s := by
  simp only [recallResult, h]
  exact if_neg (by simp [salvoCount]; omega)

theorem recallResult_submits {n : Nat} (h : headerCount (memRead s.store.mem op.base) = some n) (low : 1 ≤ n)
    (high : n ≤ 16) : recallResult op s = submitRecall op (presetPairs s.store.mem op.base n) s := by
  simp only [recallResult, h]
  exact if_pos (by simp [salvoCount, low, high])

theorem quiescing_iff (s : State) (o : Origin) :
    quiescing s o = true ↔ ∃ p, o = .panel p ∧ (s.link p).state = .quiescing := by
  cases o <;> simp [quiescing]

variable {raw : List (Nat × Nat)}

theorem submitRecall_refused {code : Result} {pair : Option Nat} (h : judgeSalvo s op.orig op.tag raw = .refuse code pair) :
    submitRecall op raw s = firstOutcome op code true pair s := by
  simp only [submitRecall, h]

theorem submitRecall_staged {pairs : List (Dst × Src)} (h : judgeSalvo s op.orig op.tag raw = .stage pairs) :
    submitRecall op raw s = firstOutcome op .staged false none (stageSalvo op.orig op.tag true pairs s) := by
  simp only [submitRecall, h]

/-- A recall salvo that waits for a hold: FULL is found before DROPPED (log 31). -/
theorem submitRecall_waits {pairs : List (Dst × Src)} (h : judgeSalvo s op.orig op.tag raw = .wait pairs) :
    submitRecall op raw s = if salvosFull s then firstOutcome op .full true none s
      else if quiescing s op.orig then firstOutcome op .dropped true none s
      else firstOutcome op .queued false none (joinSalvos ⟨op.orig, op.tag, pairs, true⟩ s) := by
  simp only [submitRecall, h]

end

theorem becomes_readDone {s u : State} (h : readDone s = u) : Becomes .recallReadComplete s u :=
  becomes_of_finish (congrArg (finish s) h)

/-- Settles O13: the salvo's checks in their order, then the RECALL by its header and its salvo's verdict. -/
theorem recallReadSubmitsItsSalvo : Obligations.RecallReadSubmitsItsSalvo := by
  refine ⟨fun v o tag => ⟨fun raw bad => judgeSalvo_range bad v o tag, ?_⟩, fun s => ⟨fun op wanted marked =>
    becomes_readDone (readDone_marked marked), ?_⟩⟩
  · rintro pairs named few verdict rfl repeated again
    replace again : repeated ↔ IsRepeat v o tag pairs := again
    rw [again]
    refine ⟨judgeSalvo_repeated named few, fun fresh i inRange => judgeSalvo_locked named few fresh inRange,
      fun fresh unlocked => ⟨fun marked => ?_, fun unmarked => ?_⟩⟩
    · exact (judgeSalvo_unlocked named few fresh unlocked).trans (if_pos ((anyMarked_iff v pairs).mpr marked))
    · have free := judgeSalvo_free named few fresh unlocked unmarked
      refine ⟨fun held => free.trans (if_pos ((anyHeld_iff v pairs).mpr held)), fun unheld => free.trans (if_neg ?_)⟩
      rw [anyHeld_iff]
      rintro ⟨p, listed, held⟩
      rw [unheld p listed] at held
      cases held
  · rintro op wanted reading v rfl header rfl
    have ends : ∀ {u}, recallResult op (openPort s) = u → Becomes .recallReadComplete s (endOp op false wanted u) :=
      fun result => becomes_readDone ((readDone_unmarked reading).trans (congrArg (endOp op false wanted) result))
    refine ⟨fun empty => ends (recallResult_empty empty), fun n count bad => ends (recallResult_range count bad), ?_⟩
    rintro n count low high verdict rfl
    have submits := recallResult_submits (s := openPort s) count low high
    refine ⟨fun code pair refused => ends (submits.trans (submitRecall_refused refused)),
      fun pairs stages => ends (submits.trans (submitRecall_staged stages)), fun pairs waits => ?_⟩
    have waiting := submits.trans (submitRecall_waits waits)
    have closing := quiescing_iff (openPort s) op.orig
    refine ⟨fun full => ends (waiting.trans (if_pos ((salvosFull_iff s).mpr full))), fun room quiesces => ?_,
      fun room open' => ?_⟩
    all_goals rw [if_neg (by rw [salvosFull_iff]; exact Nat.not_le.mpr room)] at waiting
    · exact ends (waiting.trans (if_pos (closing.mpr quiesces)))
    · refine ends (waiting.trans (if_neg fun quiesces => ?_))
      obtain ⟨p, own, state⟩ := closing.mp quiesces
      exact open' p own state

end Sys2Proof.Machine
end

section
/-! SUPPORT. A station's keys going out of talk as its session ends: the obligations O43 and O45. -/

namespace Sys2Proof.Machine

/-! ### Keys that stop talking, whatever the counts -/

/-- The key talked to the IFB destination in `s` and talks no longer in `t`. -/
def stopsIfb (s t : State) (d : Dst) (k : KeyId) : Bool :=
  decide ((s.key k).talkTarget = some (.ifb d)) && !(t.key k).state.talking

/-- From `s` to `t` keys have gone out of talk and none has gone into it. Each interrupter list has lost the keys that
stopped, and the hold counts and crosspoints are exact in `t` if they were in `s`. -/
structure KeysStop (s t : State) : Prop where
  defn : ∀ k, (t.key k).defn = (s.key k).defn
  talking : ∀ k, (t.key k).state.talking = true → (s.key k).state.talking = true
  mics : t.talk.mics = s.talk.mics
  parties : t.talk.parties = s.talk.parties
  word : t.talk.talkWord = s.talk.talkWord
  entry : ∀ d, t.entry d = { s.entry d with interrupters := (t.entry d).interrupters }
  lists : ∀ d, (t.entry d).interrupters = (s.entry d).interrupters.filter fun k => !stopsIfb s t d k
  take : t.take = { s.take with dirty := t.take.dirty }
  dirty : ∀ d, t.take.dirty.at d = true ↔ s.take.dirty.at d = true ∨ ∃ k, stopsIfb s t d k = true
  holds : HoldCountsExact s → HoldCountsExact t ∧ CrosspointsOpened s t

section
variable {s t u : State}

theorem stopsIfb_iff {d : Dst} {k : KeyId} :
    stopsIfb s t d k = true ↔ (s.key k).talkTarget = some (.ifb d) ∧ (t.key k).state.talking = false := by
  simp [stopsIfb]

theorem stopsIfb_eq_false {d : Dst} {k : KeyId} (h : (s.key k).state.talking = true → (t.key k).state.talking = true) :
    stopsIfb s t d k = false := by
  rw [Bool.eq_false_iff, ne_eq, stopsIfb_iff]
  rintro ⟨target, stopped⟩
  rw [h (talkTarget_eq_some.mp target).1] at stopped
  cases stopped

theorem KeysStop.of_same (talk : t.talk = s.talk) (routes : t.routes = s.routes) (take : t.take = s.take) :
    KeysStop s t := by
  have key : ∀ k, t.key k = s.key k := key_congr (congrArg TalkEngine.keys talk)
  have entry : ∀ d, t.entry d = s.entry d := entry_congr routes
  have none : ∀ d k, stopsIfb s t d k = false := fun d k => stopsIfb_eq_false fun on => by rwa [key]
  exact
    { defn := fun k => by rw [key]
      talking := fun k on => by rwa [key] at on
      mics := by rw [talk]
      parties := by rw [talk]
      word := by rw [talk]
      entry := fun d => by rw [entry]
      lists := fun d => by simp [entry, none]
      take := by rw [take]
      dirty := fun d => by simp [take, none]
      holds := fun exact => ⟨fun p y => by
        simpa only [holdCount_congr talk, crosspoint_congr talk, key] using exact p y, .of_talk talk⟩ }

theorem KeysStop.talkTarget (h : KeysStop s t) (k : KeyId) :
    (t.key k).talkTarget = if (t.key k).state.talking then (s.key k).talkTarget else none := by
  unfold Key.talkTarget
  rw [h.defn]
  split
  next on => rw [if_pos (h.talking k on)]
  next => rfl

theorem stopsIfb_trans (st : KeysStop s t) (tu : KeysStop t u) (d : Dst) (k : KeyId) :
    stopsIfb s u d k = (stopsIfb s t d k || stopsIfb t u d k) := by
  have target := st.talkTarget k
  cases still : (t.key k).state.talking with
  | true =>
    rw [stopsIfb_eq_false (s := s) (t := t) fun _ => still, Bool.false_or]
    simp [stopsIfb, target, still]
  | false =>
    have silent : (u.key k).state.talking = false := by
      rw [Bool.eq_false_iff]
      exact fun on => by simp [tu.talking k on] at still
    simp [stopsIfb, target, still, silent]

theorem KeysStop.trans (st : KeysStop s t) (tu : KeysStop t u) : KeysStop s u where
  defn k := (tu.defn k).trans (st.defn k)
  talking k on := st.talking k (tu.talking k on)
  mics := tu.mics.trans st.mics
  parties := tu.parties.trans st.parties
  word := tu.word.trans st.word
  entry d := by rw [tu.entry d, st.entry d]
  lists d := by
    rw [tu.lists, st.lists, List.filter_filter]
    refine List.filter_congr fun k _ => ?_
    rw [stopsIfb_trans st tu, Bool.not_or, Bool.and_comm]
  take := by rw [tu.take, st.take]
  dirty d := by
    simp only [tu.dirty, st.dirty, stopsIfb_trans st tu, Bool.or_eq_true, exists_or, or_assoc]
  holds exact := by
    obtain ⟨exact, opened⟩ := st.holds exact
    obtain ⟨last, later⟩ := tu.holds exact
    exact ⟨last, opened.trans later⟩

/-- One key goes to a state out of talk. -/
theorem KeysStop.moveKey_off (k : KeyId) {new : KeyState} (off : new.talking = false) (s : State) :
    KeysStop s (moveKey k new s) := by
  obtain ⟨mics, parties, word⟩ := talk_moveKey_off (k := k) (s := s) off
  obtain ⟨take, dirty⟩ := take_moveKey_off (k := k) (s := s) off
  have talking : ∀ j, ((moveKey k new s).key j).state.talking = (!decide (k = j) && (s.key j).state.talking) := by
    intro j
    rw [key_moveKey]
    by_cases same : k = j <;> simp [same, off]
  have stops : ∀ d j, stopsIfb s (moveKey k new s) d j = true ↔ k = j ∧ (s.key k).talkTarget = some (.ifb d) := by
    intro d j
    rw [stopsIfb_iff, talking]
    by_cases same : k = j
    · subst same
      simp
    · simp only [same, false_and, iff_false, not_and]
      intro target
      simp [(talkTarget_eq_some.mp target).1]
  exact
    { defn := fun j => defn_moveKey k j new s
      talking := fun j => by simp +contextual [talking]
      mics := mics
      parties := parties
      word := word
      entry := fun d => by rw [entry_moveKey_off off]; split <;> rfl
      lists := fun d => by
        rw [entry_moveKey_off off]
        split
        next target =>
          refine List.filter_congr fun j _ => ?_
          rw [Bool.eq_iff_iff, bne_iff_ne, Bool.not_eq_true', Bool.eq_false_iff, ne_eq, ne_eq, stops]
          simp [target, eq_comm]
        next other =>
          refine (List.filter_eq_self.mpr fun j _ => ?_).symm
          rw [Bool.not_eq_true', Bool.eq_false_iff, ne_eq, stops]
          exact fun h => other h.2
      take := take
      dirty := fun d => by simp [dirty, stops]
      holds := fun exact => ⟨holdCountsExact_moveKey_off off exact, crosspointsOpened_moveKey_off off exact⟩ }

/-- Several keys, each to a state out of talk or to the state it is in. -/
theorem KeysStop.moveKeys {f : KeyState → KeyState} (off : ∀ x, (f x).talking = false ∨ f x = x) (ks : List KeyId)
    (s : State) : KeysStop s (moveKeys ks f s) := by
  refine moveKeys_induction (P := KeysStop s) (fun t k before => ?_) ks (.of_same rfl rfl rfl)
  rcases off (t.key k).state with silent | same
  · exact before.trans (.moveKey_off k silent t)
  · rwa [same, moveKey_stays]

/-- With exact lists, a list has lost a key exactly when the key has stopped. -/
theorem KeysStop.lists_filter (h : KeysStop s t) (exact : InterruptersExact s) {gone : KeyId → Bool}
    (stopped : ∀ k, (s.key k).state.talking = true → (gone k = true ↔ (t.key k).state.talking = false)) (d : Dst) :
    (t.entry d).interrupters = (s.entry d).interrupters.filter fun k => !gone k := by
  rw [h.lists]
  refine List.filter_congr fun k listed => congrArg _ ?_
  have target := (interrupts_iff _ _).mp (((exact d).2 k).mp listed)
  rw [Bool.eq_iff_iff, stopsIfb_iff, stopped k (talkTarget_eq_some.mp target).1]
  exact and_iff_right target

theorem KeysStop.dirty_iff (h : KeysStop s t) (exact : InterruptersExact s) (d : Dst) : t.take.dirty.at d = true ↔
    (s.take.dirty.at d = true ∨ (t.entry d).interrupters ≠ (s.entry d).interrupters) := by
  rw [h.dirty, h.lists, ne_eq, List.filter_eq_self, not_forall]
  refine or_congr_right (exists_congr fun k => ?_)
  rw [Bool.not_eq_true', Classical.not_imp, Bool.not_eq_false]
  refine (and_iff_right_of_imp fun stops => ?_).symm
  obtain ⟨target, -⟩ := stopsIfb_iff.mp stops
  obtain ⟨own, on⟩ := (interrupts_iff _ _).mpr target
  exact ((exact d).2 k).mpr ⟨own, on⟩

end

/-- Keys out of talk that stay out of talk move nothing else. -/
theorem moveKeys_silent {f : KeyState → KeyState} (keeps : ∀ x, (f x).talking = x.talking) (ks : List KeyId) (s : State) :
    moveKeys ks f s = { s with talk := { s.talk with keys := (moveKeys ks f s).talk.keys } } := by
  refine moveKeys_induction (P := fun t => t = { s with talk := { s.talk with keys := t.talk.keys } }) (fun t k before => ?_) ks rfl
  rw [moveKey_of_same (keeps _).symm]
  conv_lhs => rw [before]
  rfl

/-! ### Loss of a link (R161) -/

theorem ctl_payQuiesce_down (owed : Option Byte) (s : State) : (payQuiesce owed .down s).ctl = { s.ctl with
    response := owed.elim s.ctl.response fun tag => some [0xBD, tag, 0, 0] } := by
  cases owed <;> rfl

theorem ctl_linkDown (p : Pnl) (s : State) : (linkDown p s).ctl = { s.ctl with
    response := (s.link p).quiesceOwed.elim s.ctl.response fun tag => some [0xBD, tag, 0, 0]
    attention := if s.tally.switcher = some p then (s.ctl.attention.put 5 true).put 6 true
      else s.ctl.attention.put 5 true } := by
  have tally := tally_moveKeys (stationKeys p) (fun _ => .idle) s
  have switcher : (moveKeys (stationKeys p) (fun _ => .idle) s).tally.switcher = s.tally.switcher := by rw [tally]
  simp [linkDown, ctl_switcherLost, raise, Cause.bit, ctl_payQuiesce_down, switcher, State.link]

theorem fresh_linkDown (p : Pnl) (s : State) :
    (linkDown p s).tally.fresh = if s.tally.switcher = some p then false else s.tally.fresh := by
  have tally := tally_moveKeys (stationKeys p) (fun _ => .idle) s
  have switcher : (moveKeys (stationKeys p) (fun _ => .idle) s).tally.switcher = s.tally.switcher := by rw [tally]
  have fresh : (moveKeys (stationKeys p) (fun _ => .idle) s).tally.fresh = s.tally.fresh := by rw [tally]
  simp [linkDown, refresh, recompute, tally_switcherLost, raise, switcher, fresh]

theorem keysStop_linkDown (p : Pnl) (s : State) : KeysStop s (linkDown p s) :=
  (KeysStop.moveKeys (f := fun _ => .idle) (fun _ => .inl rfl) (stationKeys p) s).trans
    (.of_same (by simp [linkDown]) (by simp [linkDown]) (by simp [linkDown]))

theorem bne_eq_decide_ne (o o' : Origin) : (o != o') = decide (o ≠ o') := by
  rw [Bool.eq_iff_iff, bne_iff_ne, decide_eq_true_iff]

theorem salvos_linkDown (p : Pnl) (s : State) :
    (linkDown p s).salvos = s.salvos.filter fun x => decide (x.orig ≠ .panel p) := by
  have same : (linkDown p s).salvos = s.salvos.filter fun x => x.orig != Origin.panel p := by simp [linkDown]
  rw [same]
  exact List.filter_congr fun x _ => bne_eq_decide_ne ..

theorem store_linkDown_filter (p : Pnl) (s : State) : (linkDown p s).store = { s.store with
    queue := s.store.queue.filter fun op => decide (op.orig ≠ .panel p), engine := s.store.engine.markFor p } := by
  have same : (linkDown p s).store = { s.store with
      queue := s.store.queue.filter fun op => op.orig != Origin.panel p, engine := s.store.engine.markFor p } := by
    simp [linkDown]
  rw [same]
  exact congrArg (fun queue => { s.store with queue := queue, engine := s.store.engine.markFor p })
    (List.filter_congr fun op _ => bne_eq_decide_ne ..)

/-- The hold counts and crosspoints of a station that talks no longer are none, and those of a station whose keys stand
are what they were. -/
theorem holds_of_station {s u : State} {p : Pnl} (before : HoldCountsExact s) (after : HoldCountsExact u)
    (silent : ∀ k, stationOf k = p → (u.key k).state.talking = false) (same : ∀ k, stationOf k ≠ p → u.key k = s.key k)
    (q : Pnl) (y : Pty) : u.holdCount q y = (if q = p then 0 else s.holdCount q y) ∧
      u.crosspoint q y = (if q = p then false else s.crosspoint q y) := by
  obtain ⟨count, closed⟩ := after q y
  have counted : u.holdCount q y = if q = p then 0 else s.holdCount q y := by
    rw [count]
    split
    next own =>
      rw [List.length_eq_zero_iff, List.filter_eq_nil_iff]
      intro k listed
      simp [Key.talksTo, silent k ((mem_stationKeys.mp listed).trans own)]
    next other =>
      rw [(before q y).1]
      refine congrArg _ (List.filter_congr fun k listed => ?_)
      rw [same k fun station => other ((mem_stationKeys.mp listed).symm.trans station)]
  refine ⟨counted, ?_⟩
  rw [Bool.eq_iff_iff, closed, counted]
  split
  · simp
  · exact (before q y).2.symm

/-- Settles O45: `linkDown` record by record, its keys' effects by `KeysStop`. -/
theorem linkLossClearsTheSession : Obligations.LinkLossClearsTheSession := by
  intro s p session watched
  have run : execSupervisionExpiry p s = finish s (linkDown p s) := if_pos (by simp [session, watched])
  have stops := keysStop_linkDown p s
  have ctl := ctl_linkDown p s
  have silent : ∀ k, stationOf k = p → ((linkDown p s).key k).state.talking = false := fun k own => by
    rw [key_linkDown, if_pos own]
    rfl
  have others : ∀ k, stationOf k ≠ p → (linkDown p s).key k = s.key k := fun k other => by
    rw [key_linkDown, if_neg other]
  have filtered : InterruptersExact s → ∀ d, ((linkDown p s).entry d).interrupters =
      (s.entry d).interrupters.filter fun k => decide (stationOf k ≠ p) := by
    intro exact d
    rw [stops.lists_filter exact (gone := fun k => decide (stationOf k = p)) fun k on => ?_]
    · exact List.filter_congr fun k _ => by simp
    · rw [decide_eq_true_iff]
      refine ⟨silent k, fun off => ?_⟩
      by_contra other
      rw [others k other, on] at off
      cases off
  refine ⟨linkDown p s, becomes_of_finish run, link_linkDown_same p s, fun q other => link_linkDown_ne (Ne.symm other) s,
    fun k own => by rw [key_linkDown, if_pos own], others, salvos_linkDown p s, store_linkDown_filter p s, ?_, ?_, ?_, ?_, ?_,
    stops.entry, fun exact d => ⟨filtered exact d, fun changed => (stops.dirty_iff exact d).mpr (.inr changed)⟩,
    fun exact q y => holds_of_station exact (stops.holds exact).1 silent others q y, ?_, stops.mics, stops.parties, stops.word,
    stops.take, by simp, by simp, by simp⟩
  · intro tag owed
    rw [ctl, owed]
    rfl
  · intro none
    rw [ctl, none]
    rfl
  · rw [ctl]
    dsimp only
    split <;> simp
  · intro switcher
    rw [ctl, fresh_linkDown, if_pos switcher, if_pos switcher]
    exact ⟨rfl, Tab.at_put_same ..⟩
  · intro other
    rw [fresh_linkDown, if_neg other]
  · intro exact
    obtain ⟨after, opened⟩ := stops.holds exact
    obtain ⟨handed, list, once, members⟩ := opened.handed
    refine ⟨handed, list, once, fun q y => (members q y).trans ?_⟩
    rw [(holds_of_station exact after silent others q y).2]
    by_cases own : q = p
    · simp [own]
    · simp +contextual [own]

/-! ### The start and the end of a quiesce (R162, R163) -/

theorem quiesceDone_iff_left (s : State) (p : Pnl) : quiesceDone s p = true ↔ ((s.link p).state = .quiescing ∧
    (∀ k, stationOf k = p → (s.key k).state.talking = false) ∧
    (∀ op ∈ s.store.queue, op.orig ≠ .panel p) ∧ s.store.engine.owner ≠ some (.panel p)) := by
  simp [quiesceDone, stationTalks, ownsStoreOp, mem_stationKeys, and_assoc]

theorem link_moveKeys (ks : List KeyId) (f : KeyState → KeyState) (s : State) (q : Pnl) :
    (moveKeys ks f s).link q = s.link q := link_congr (moveKeys_frame ks f s).2.2.2.2.2.1 q

/-- An UP link's queued salvos, each with its outcome placed. -/
theorem link_dropped {p : Pnl} (xs : List PendingSalvo) {s : State} (session : (s.link p).state.session = true) :
    (xs.foldl (fun t x => outcome (.panel p) (salvoKind x.isRecall) x.tag .dropped true 255 t) s).link p = { s.link p with
      replies := (s.link p).replies ++
        xs.map fun x => .outcome (salvoKind x.isRecall) x.tag .dropped true 255 } := by
  induction xs generalizing s with
  | nil => simp
  | cons x xs ih =>
    have placed : outcome (.panel p) (salvoKind x.isRecall) x.tag .dropped true 255 s =
        place p (.outcome (salvoKind x.isRecall) x.tag .dropped true 255) s := if_pos session
    have link : (place p (.outcome (salvoKind x.isRecall) x.tag .dropped true 255) s).link p =
        { s.link p with replies := (s.link p).replies ++ [.outcome (salvoKind x.isRecall) x.tag .dropped true 255] } :=
      Tab.at_put_same ..
    rw [List.foldl_cons, placed, ih (by rw [link]; exact session), link]
    simp

theorem link_quiesceStarted_same (p : Pnl) (owed : Option Byte) (s : State) :
    (quiesceStarted p owed s).link p = { s.link p with
      state := .quiescing, quiesceOwed := owed
      replies := (s.link p).replies ++ (s.salvos.filter fun x => decide (x.orig = .panel p)).map fun x =>
        .outcome (if x.isRecall then .recallPreset else .salvo) x.tag .dropped true 255 } := by
  obtain ⟨u, moved⟩ : ∃ u, u = moveKeys (stationKeys p) latchedOff
      (s.setLink p { s.link p with state := .quiescing, quiesceOwed := owed }) := ⟨_, rfl⟩
  have link : u.link p = { s.link p with state := .quiescing, quiesceOwed := owed } := by
    rw [moved, link_moveKeys]
    exact Tab.at_put_same ..
  have salvos : u.salvos = s.salvos := by simp [moved]
  have started : (quiesceStarted p owed s).link p = (dropSalvos p u).link p := by
    rw [quiesceStarted, refresh_link, moved]
  rw [started, dropSalvos]
  refine (link_dropped _ (s := { u with salvos := _ }) ?_).trans ?_
  · show (u.link p).state.session = true
    rw [link]
    rfl
  · show ({ u.link p with replies := (u.link p).replies ++ _ } : Link) = _
    rw [link, salvos]
    rfl

theorem link_outcome_ne {p q : Pnl} (other : q ≠ p) (kind : OutcomeKind) (tag : Byte) (code : Result) (ended : Bool)
    (detail : Byte) (s : State) : (outcome (.panel p) kind tag code ended detail s).link q = s.link q := by
  unfold outcome
  dsimp only
  split
  · exact place_link_ne p q _ s (Ne.symm other)
  · rfl

theorem link_dropped_ne {p q : Pnl} (other : q ≠ p) (xs : List PendingSalvo) (s : State) :
    (xs.foldl (fun t x => outcome (.panel p) (salvoKind x.isRecall) x.tag .dropped true 255 t) s).link q = s.link q := by
  induction xs generalizing s with
  | nil => rfl
  | cons x xs ih => exact (ih _).trans (link_outcome_ne other ..)

theorem link_dropSalvos_ne {p q : Pnl} (other : q ≠ p) (s : State) : (dropSalvos p s).link q = s.link q :=
  link_dropped_ne other _ _

theorem link_quiesceStarted_ne {p q : Pnl} (other : q ≠ p) (owed : Option Byte) (s : State) :
    (quiesceStarted p owed s).link q = s.link q := by
  rw [quiesceStarted, refresh_link, link_dropSalvos_ne other, link_moveKeys]
  exact Tab.at_put_ne _ _ (Ne.symm other)

theorem clearingOff_of_silent {x : KeyState} (h : x.talking = false) : clearingOff x = .idle := by
  cases x with
  | idle => rfl
  | clearing => rfl
  | _ => cases h

theorem latchedOff_stops (x : KeyState) : (latchedOff x).talking = false ∨ latchedOff x = x := by
  cases x with
  | latched => exact .inl rfl
  | _ => exact .inr rfl

theorem latchedOff_of_latched {x : KeyState} (h : x.isLatched = true) : latchedOff x = .idle := by
  cases x with
  | latched => rfl
  | _ => cases h

theorem latchedOff_of_not_latched {x : KeyState} (h : x.isLatched = false) : latchedOff x = x := by
  cases x with
  | latched => cases h
  | _ => rfl

theorem keysStop_quiesceStarted (p : Pnl) (owed : Option Byte) (s : State) : KeysStop s (quiesceStarted p owed s) := by
  have linked : KeysStop s (s.setLink p { s.link p with state := .quiescing, quiesceOwed := owed }) :=
    .of_same rfl rfl rfl
  exact (linked.trans (.moveKeys latchedOff_stops (stationKeys p) _)).trans
    (.of_same (by simp [quiesceStarted]) (by simp [quiesceStarted]) (by simp [quiesceStarted]))

/-- Settles O43: the end of a quiesce moves nothing but CLEARING keys, and its start is read by `KeysStop`. -/
theorem quiesceEndsWhenNothingIsLeft : Obligations.QuiesceEndsWhenNothingIsLeft := by
  refine ⟨fun s p => ⟨quiesceDone_iff_left s p, fun running => if_neg (by simp [running]), ?_⟩, fun s p owed up => ?_⟩
  · rintro done u made
    rw [testQuiesced, if_pos done] at made
    subst made
    obtain ⟨closing, silent, -, -⟩ := (quiesceDone_iff_left s p).mp done
    have moved := moveKeys_silent clearingOff_talking (stationKeys p) s
    obtain ⟨-, fresh⟩ := tally_enterQuiesced p s
    have ctl := ctl_enterQuiesced p s
    refine ⟨by rw [link_enterQuiesced, if_pos rfl]; rfl, fun q other => by rw [link_enterQuiesced, if_neg (Ne.symm other)],
      fun k own => ?_, fun k other => by rw [key_enterQuiesced, if_neg other], fun tag owed => ?_, fun switcher => ?_,
      fun other => ?_, ?_, ?_, ?_, by simp, by simp, ?_⟩
    · rw [key_enterQuiesced, if_pos own]
      exact clearingOff_of_silent (silent k own)
    · rw [ctl, owed]
      rfl
    · rw [fresh, ctl, if_pos switcher]
      exact ⟨rfl, by simp [switcher]⟩
    · rw [fresh, ctl, if_neg other]
      exact ⟨rfl, if_neg other⟩
    · have talk : (enterQuiesced p s).talk = (moveKeys (stationKeys p) clearingOff s).talk := by simp [enterQuiesced]
      rw [talk, moved]
    · have routes : (enterQuiesced p s).routes = (moveKeys (stationKeys p) clearingOff s).routes := by simp [enterQuiesced]
      rw [routes, moved]
    · simp
    · have take : (enterQuiesced p s).take = (moveKeys (stationKeys p) clearingOff s).take := by simp [enterQuiesced]
      rw [take, moved]
  · have stops := keysStop_quiesceStarted p owed s
    have key := fun k => key_quiesceStarted p owed k s
    refine ⟨quiesceStarted p owed s, startQuiesce_eq p owed s, fun k own => ?_, fun k other => by rw [key, if_neg other],
      ?_, link_quiesceStarted_same p owed s, fun q other => link_quiesceStarted_ne other owed s, stops.entry,
      fun exact d => ⟨?_, stops.dirty_iff exact d⟩, stops.take, fun exact => ?_, stops.mics, stops.parties, stops.word,
      by simp [quiesceStarted], by simp [quiesceStarted], by simp [quiesceStarted], by simp [quiesceStarted],
      by simp [quiesceStarted]⟩
    · rw [key, if_pos own]
      refine ⟨latchedOff_of_latched, fun latch => ?_⟩
      rw [latchedOff_of_not_latched latch]
    · rw [salvos_quiesceStarted]
      exact List.filter_congr fun x _ => bne_eq_decide_ne ..
    · refine stops.lists_filter exact (gone := fun k => decide (stationOf k = p) && (s.key k).state.isLatched)
        (fun k on => ?_) d
      rw [key]
      by_cases own : stationOf k = p
      · cases latch : (s.key k).state.isLatched with
        | true => simp [own, latchedOff_of_latched latch, KeyState.talking]
        | false => simp [own, latchedOff_of_not_latched latch, on]
      · simp [own, on]
    · obtain ⟨after, opened⟩ := stops.holds exact
      exact ⟨after, opened.handed⟩

end Sys2Proof.Machine
end

section
/-! SUPPORT. RESTART, record by record: the obligation O49. -/

namespace Sys2Proof.Machine

/-- The state of a RESTART before its lamps and lines follow. -/
def restarted (s : State) : State := restartLinks (restartGuards (restartTalk (restartRoutes s)))

/-- The state a RESTART leaves, but for its answer. -/
def afterRestart (tag : Byte) (s : State) : State := (restartBlock tag s).1

section
variable (tag : Byte) (s : State)

theorem afterRestart_eq : afterRestart tag s = restartStore tag (refresh (restarted s)) := rfl

/-! ### Routes (R24, R61) -/

theorem keptStaged_guarded (x : Src) (g : Gid) : keptStaged (some (.guarded x g)) = some (.guarded x g) := rfl

theorem keptStaged_other {x : Option Staged} (h : ∀ y g, x ≠ some (.guarded y g)) : keptStaged x = none := by
  unfold keptStaged
  split
  next y g => exact absurd rfl (h y g)
  next => rfl

theorem freshConfirmation_other {wait : Nat} {x : Option Confirmation} (h : ∀ n, x ≠ some (.awaiting n)) :
    freshConfirmation wait x = x := by
  unfold freshConfirmation
  split
  next n => exact absurd rfl (h n)
  next => rfl

theorem entry_afterRestart (d : Dst) : (afterRestart tag s).entry d = restartEntry (twoFrames s) (s.entry d) :=
  entry_restartBlock tag s d

theorem take_afterRestart : (afterRestart tag s).take = { s.take with
    dirty := tabOf fun d => s.take.dirty.at d || !(s.entry d).interrupters.isEmpty } :=
  (refresh_frame (restarted s)).2.2.2.2.1

theorem dirty_afterRestart (d : Dst) : (afterRestart tag s).take.dirty.at d = true ↔
    (s.take.dirty.at d = true ∨ (s.entry d).interrupters ≠ []) := by
  rw [take_afterRestart, Tab.at_tabOf]
  simp

/-! ### Keys, crosspoints and channels (R85, R110) -/

theorem talk_afterRestart : (afterRestart tag s).talk = { s.talk with
    keys := tabOf fun k => { s.key k with state := .idle }
    holds := tabOf fun _ => tabOf fun _ => 0, closed := tabOf fun _ => tabOf fun _ => false, sendList := []
    talkWord := allOpen } :=
  (refresh_frame (restarted s)).2.2.2.2.2.1

theorem holds_afterRestart (p : Pnl) (y : Pty) :
    (afterRestart tag s).holdCount p y = 0 ∧ (afterRestart tag s).crosspoint p y = false := by
  unfold State.holdCount State.crosspoint
  rw [talk_afterRestart]
  dsimp only
  rw [Tab.at_tabOf, Tab.at_tabOf, Tab.at_tabOf, Tab.at_tabOf]
  exact ⟨rfl, rfl⟩

theorem mapped_afterRestart (c : Chn) : ((afterRestart tag s).channel c).mapped = (s.channel c).mapped := by
  have cleared : (restarted s).channel c = { s.channel c with calls := 0 } := Tab.at_tabOf _ c
  rw [show (afterRestart tag s).channel c = (recompute (restarted s)).channel c from rfl, channel_recompute, cleared,
    lit_mapped]

theorem fresh_afterRestart : (afterRestart tag s).tally.fresh = true ↔
    (s.tally.switcher = none ∧ s.tally.fresh = true) := by
  show (s.tally.switcher.isNone && s.tally.fresh) = true ↔ _
  simp

/-! ### Lines, links and the store (R172, R180, R187) -/

theorem line_afterRestart (l : Lid) : (afterRestart tag s).line l = drivenLine (recompute (restarted s)) l :=
  line_driveLines _ l

theorem outputsFollow_afterRestart : OutputsFollow (afterRestart tag s) :=
  outputsFollow_restartStore (refresh_follows _) tag

theorem restartBlock_now (h : s.store.engine.inFlight = none) :
    restartBlock tag s = (afterRestart tag s, .now .ok []) :=
  Prod.ext rfl (if_neg (by simp [h]))

theorem restartBlock_later (h : s.store.engine.inFlight.isSome = true) :
    restartBlock tag s = (afterRestart tag s, .later) := Prod.ext rfl (if_pos h)

/-! ### Guards (R142) -/

theorem guards_afterRestart (g : Gid) : (afterRestart tag s).guard g = reevaluate (restartTalk (restartRoutes s)) (s.guard g) := by
  have same : (afterRestart tag s).guards = (restarted s).guards := (refresh_frame (restarted s)).2.2.2.2.2.2.1
  rw [guard_congr same g]
  exact Tab.at_tabOf _ g

end

section
variable {v : State} {x : Guard}

theorem defn_reevaluate (v : State) (x : Guard) : (reevaluate v x).defn = x.defn := rfl

theorem reevaluate_disabled (h : x.state = .disabled) : (reevaluate v x).state = .disabled := by
  simp only [reevaluate, h]

theorem reevaluate_waiting (h : x.state = .armed ∨ ∃ n, x.state = .debouncing n) :
    (reevaluate v x).state = armedState v x.defn := by
  rcases h with h | ⟨n, h⟩ <;> simp only [reevaluate, h]

theorem reevaluate_holding {r : List Src} (h : x.state = .tripped r ∨ ∃ n, x.state = .recovering n r) :
    (reevaluate v x).state =
      if x.defn.auto && !matching v x.defn then .recovering x.defn.wait r else .tripped r := by
  rcases h with h | ⟨n, h⟩ <;> simp only [reevaluate, h]

end

/-- A RESTART taken on the control link once READY leaves the guards as its block does. -/
theorem guard_of_restart {s t : State} {tag : Byte} (ready : s.ctl.ready = true) (run : exec (.restart .ctl tag) s = .next t)
    (g : Gid) : t.guard g = (afterRestart tag s).guard g := by
  have admits : Admits s .ctl .restart := admits_ctl rfl rfl ready
  rw [show exec (.restart .ctl tag) s = serve .restart .ctl tag true (restartBlock tag) s from rfl,
    serve_admitted admits] at run
  cases run
  rw [settle_guard]
  exact guard_congr (by simp [afterRestart]) g

/-- Settles O49: the state a RESTART leaves, one record after another, and `reevaluate` for the guards. -/
theorem restartClearsSessionsAndKeepsRoutes : Obligations.RestartClearsSessionsAndKeepsRoutes := by
  refine ⟨⟨fun s tag ready => ⟨afterRestart tag s, ?_⟩, onlyFromControl_of_head rfl rfl (by decide) fun _ _ => rfl⟩, ?_⟩
  · have admits : Admits s .ctl .restart := admits_ctl rfl rfl ready
    have follows := outputsFollow_afterRestart tag s
    refine ⟨fun whole => answers_of_block rfl admits (restartBlock_now tag s whole),
      fun cut => answersLater_of_block rfl admits (restartBlock_later tag s cut), fun d => ?_, rfl, ?_,
      fun k => key_restartBlock tag s k, holds_afterRestart tag s, rfl, rfl, rfl, rfl,
      fun c => ⟨mapped_afterRestart tag s c, channels_restartBlock tag s c⟩, rfl, fresh_afterRestart tag s,
      fun p => link_restartBlock tag s p, rfl, fun l => ⟨fun sample input => ?_, fun mode latch on output => ?_⟩, rfl,
      fun whole => ?_, fun w cut => ?_, rfl, rfl, rfl, follows.1, follows.2⟩
    · rw [entry_afterRestart]
      refine ⟨rfl, fun x g staged => ?_, fun other => keptStaged_other other, fun n awaits => ?_,
        fun other => freshConfirmation_other other, dirty_afterRestart tag s d⟩
      · show keptStaged _ = _
        rw [staged]
        rfl
      · show freshConfirmation _ _ = _
        rw [awaits]
        rfl
    · rw [take_afterRestart]
    · rw [line_afterRestart]
      exact drivenLine_input input
    · rw [line_afterRestart]
      exact ⟨_, drivenLine_output output⟩
    · exact (engine_restartBlock tag s).trans (by rw [whole])
    · exact (engine_restartBlock tag s).trans (by rw [cut])
  · rintro s tag t ready run g x stands rfl still
    rw [guard_of_restart ready run, guards_afterRestart]
    have matches' : matching (restartTalk (restartRoutes s)) (s.guard g).defn = true ↔ stands :=
      (matching_iff _ _).trans still.symm
    refine ⟨rfl, reevaluate_disabled, fun waits => ?_, fun r holds => ?_⟩
    · rw [reevaluate_waiting waits]
      exact ⟨fun h => armedState_of_matching (still.mp h), fun h => armedState_of_not_matching (mt still.mpr h)⟩
    · rw [reevaluate_holding holds]
      have clear : (s.guard g).defn.auto = true ∧ ¬stands ↔
          ((s.guard g).defn.auto && !matching (restartTalk (restartRoutes s)) (s.guard g).defn) = true := by
        rw [Bool.and_eq_true, Bool.not_eq_true', Bool.eq_false_iff, ne_eq, matches']
      exact ⟨fun h => if_pos (clear.mp h), fun h => if_neg (mt clear.mpr h)⟩

end Sys2Proof.Machine
end

section
/-! SUPPORT. What a change of the links alone settles to, and the transmitter: the obligation O40. -/

namespace Sys2Proof.Machine

/-! ### Changes of the links alone -/

/-- From `s` to `t` nothing but the links has changed, and no link's state. -/
structure LinksOnly (s t : State) : Prop where
  rest : t = { s with links := t.links }
  states : ∀ p, (t.link p).state = (s.link p).state

section
variable {s t u : State}

theorem LinksOnly.refl (s : State) : LinksOnly s s := ⟨rfl, fun _ => rfl⟩

theorem LinksOnly.trans (st : LinksOnly s t) (tu : LinksOnly t u) : LinksOnly s u :=
  ⟨by rw [tu.rest, st.rest], fun p => (tu.states p).trans (st.states p)⟩

theorem linksOnly_setLink {p : Pnl} {l : Link} (state : l.state = (s.link p).state) : LinksOnly s (s.setLink p l) := by
  refine ⟨rfl, fun q => ?_⟩
  rw [link_setLink]
  split
  next same => rw [← same, state]
  next => rfl

theorem linksOnly_transmit (s : State) : LinksOnly s (transmit s) := by
  refine ⟨rfl, fun p => ?_⟩
  rw [show (transmit s).link p = transmitLink s p from Tab.at_tabOf _ p, transmitLink_eq]

theorem LinksOnly.visible (h : LinksOnly s t) (p : Pnl) (r : Ref) : ¬VisiblyChanged s t p r := by
  have records := h.rest
  rw [visiblyChanged_congr (v := s) (by rw [records]) (by rw [records]) (by rw [records]) h.states]
  cases r <;> exact fun changed => changed rfl

theorem LinksOnly.noticeBody (h : LinksOnly s t) (p : Pnl) (r : Ref) : noticeBody t p r = noticeBody s p r := by
  have records := h.rest
  exact noticeBody_congr (by rw [records]) (by rw [records]) (by rw [records]) h.states p r

/-- Such a change marks no record. -/
theorem LinksOnly.markAll (h : LinksOnly s t) : markAll s t = t := by
  have link : ∀ p, markLink s t p = t.link p := by
    intro p
    have none : changedFor s t p (t.link p).subs = [] :=
      List.eq_nil_iff_forall_not_mem.mpr fun r listed => h.visible p r ((mem_changedFor ..).mp listed).2
    unfold markLink
    rw [none]
    split <;> rfl
  have same : tabOf (markLink s t) = t.links := Tab.ext_at fun p => (Tab.at_tabOf _ p).trans (link p)
  unfold Machine.markAll
  rw [same]

theorem LinksOnly.settle (h : LinksOnly s t) : settle s t = transmit t := by
  unfold Machine.settle
  rw [h.markAll]

theorem idleHasNothingToSend_transmit (s : State) : IdleHasNothingToSend (transmit s) := by
  rw [← (LinksOnly.refl s).settle]
  exact idleHasNothingToSend_settle s s

/-- An idle transmitter with nothing to send stays as it is. -/
theorem nextFrame_of_rests {l : Link} (busy : l.busy = none) (replies : l.replies = [])
    (changes : l.noticesOpen = true → l.changes = []) (s : State) (p : Pnl) : nextFrame s p l = l := by
  unfold nextFrame
  rw [busy]
  dsimp only
  rw [replies]
  dsimp only
  split
  next r rest set =>
    split
    next isOpen => rw [changes isOpen] at set; cases set
    next => rfl
  next => rfl

theorem transmit_of_idle (h : IdleHasNothingToSend s) : transmit s = s := by
  have link : ∀ p, transmitLink s p = s.link p := by
    intro p
    unfold transmitLink
    split
    · rfl
    next idle =>
      obtain ⟨busy, replies, changes⟩ := h p idle
      exact nextFrame_of_rests busy replies changes s p
  have same : tabOf (transmitLink s) = s.links := Tab.ext_at fun p => (Tab.at_tabOf _ p).trans (link p)
  unfold transmit
  rw [same]

theorem transmit_transmit (s : State) : transmit (transmit s) = transmit s :=
  transmit_of_idle (idleHasNothingToSend_transmit s)

/-- What a link is after a command depends on the effect's own link record alone. -/
theorem LinkAfter.congr {p : Pnl} {placed : List Sending} (h : LinkAfter s u t p placed) {v : State}
    (same : v.link p = u.link p) : LinkAfter s v t p placed := by
  obtain ⟨h₁, h₂, h₃, h₄, h₅, h₆, h₇, h₈⟩ := h
  rw [← same] at h₁ h₂ h₃ h₄ h₅ h₆ h₇ h₈
  exact ⟨h₁, h₂, h₃, h₄, h₅, h₆, h₇, h₈⟩

end

/-! ### The transmitter (R165, R169, R191) -/

theorem sum8_append (bs : List Byte) (b : Byte) : sum8 (bs ++ [b]) = sum8 bs + b := by
  simp [sum8]

/-- The check byte of a frame makes its sum zero. -/
theorem sum8_check (bs : List Byte) : sum8 (bs ++ [0 - sum8 bs]) = 0 := by
  rw [sum8_append, add_sub_cancel, BitVec.ofNat_eq_ofNat]

section
variable {s : State} {p : Pnl} {l : Link}

theorem nextFrame_busy {b : Byte × Byte} (h : l.busy = some b) : nextFrame s p l =
    { l with busy := none, sending := some ⟨frame [b.1 + 0x80, b.2, 0x16], false⟩ } := by
  unfold nextFrame
  rw [h]
  rfl

theorem nextFrame_reply {i : Item} {rest : List Item} (quiet : l.busy = none) (h : l.replies = i :: rest) :
    nextFrame s p l = { l with replies := rest, sending := some ⟨frame i.body, i.freesHeld⟩ } := by
  unfold nextFrame
  rw [quiet]
  dsimp only
  rw [h]

theorem nextFrame_notice {r : Ref} {rest : List Ref} (quiet : l.busy = none) (empty : l.replies = [])
    (h : l.changes = r :: rest) (isOpen : l.noticesOpen = true) : nextFrame s p l =
      { l with changes := rest, sending := some ⟨frame (noticeBody s p r), false⟩ } := by
  unfold nextFrame
  rw [quiet]
  dsimp only
  rw [empty]
  dsimp only
  rw [h]
  exact if_pos isOpen

/-- A link whose frame has ended. -/
def Link.frameEnded (l : Link) (x : Sending) : Link :=
  { l with sending := none, held := if x.freesHeld then none else l.held }

theorem frameEnd_sending {x : Sending} (h : (s.link p).sending = some x) :
    frameEnd p s = s.setLink p ((s.link p).frameEnded x) := by
  unfold frameEnd
  rw [h]
  rfl

/-- The link whose frame has ended begins the next one. -/
theorem link_frameSent {x : Sending} (h : (s.link p).sending = some x) : (settle s (frameEnd p s)).link p =
    nextFrame (frameEnd p s) p ((s.link p).frameEnded x) := by
  have ended := frameEnd_sending h
  have only : LinksOnly s (frameEnd p s) := ended ▸ linksOnly_setLink rfl
  have link : (frameEnd p s).link p = (s.link p).frameEnded x := by
    rw [ended]
    exact Tab.at_put_same ..
  rw [only.settle]
  refine (Tab.at_tabOf _ p).trans ?_
  unfold transmitLink
  rw [link]
  rfl

end

/-- Settles O40: the layouts, and the next frame by what the link has to send. -/
theorem transmitterPicksTheNextFrame : Obligations.TransmitterPicksTheNextFrame := by
  refine ⟨⟨fun body => ⟨_, rfl, sum8_check _⟩, fun _ _ _ _ _ => rfl, fun kind _ _ ended _ => ?_, fun s p =>
    ⟨fun d => rfl, ?_, ?_⟩⟩, fun s p x sending => ?_⟩
  · cases kind <;> cases ended <;> rfl
  · rintro c x rfl
    rfl
  · rintro i x rfl
    show [0x73, 0, byte i.1] ++ keyPart s (keyOf p i) = _
    unfold keyPart keyDefPart
    cases (s.key (keyOf p i)).defn with
    | none => rfl
    | some f =>
      obtain ⟨m, y, call | d⟩ := f
      all_goals rfl
  · have ended := frameEnd_sending sending
    have only : LinksOnly s (frameEnd p s) := ended ▸ linksOnly_setLink rfl
    refine ⟨settle s (frameEnd p s), rfl, ?_, fun q other => ?_, ?_⟩
    · rw [settle_eq, only.rest]
    · refine (linkAfter_settle s (frameEnd p s) q).congr ?_
      rw [ended, link_setLink, if_neg (Ne.symm other)]
    · rintro l m rfl rfl
      rw [link_frameSent sending]
      refine ⟨by rw [nextFrame_eq]; rfl, fun b busy => ?_, fun quiet => ⟨fun i rest replies => ?_, fun empty =>
        ⟨fun r rest changes session hold => ?_, fun closed => ?_⟩⟩⟩
      · rw [nextFrame_busy (l := (s.link p).frameEnded x) busy]
        exact ⟨rfl, rfl, rfl, rfl⟩
      · rw [nextFrame_reply (l := (s.link p).frameEnded x) quiet replies]
        exact ⟨rfl, quiet, rfl, rfl⟩
      · rw [nextFrame_notice (l := (s.link p).frameEnded x) quiet empty changes (by
          simp [Link.noticesOpen, Link.frameEnded, session, hold]), only.noticeBody]
        exact ⟨rfl, quiet, empty, rfl⟩
      · rw [nextFrame_of_rests (l := (s.link p).frameEnded x) quiet empty]
        · exact ⟨rfl, quiet, empty, rfl⟩
        · intro isOpen
          obtain ⟨session, hold⟩ : (s.link p).state.session = true ∧ (s.link p).hold = none := by
            simpa [Link.noticesOpen, Link.frameEnded] using isOpen
          rcases closed with none | gone | held
          · exact none
          · rw [session] at gone; cases gone
          · exact absurd hold held

end Sys2Proof.Machine
end

section
/-! SUPPORT. The receiver of a panel link: the obligation O39. -/

namespace Sys2Proof.Machine

/-! ### Bytes of a frame (R155) -/

section
variable {s : State} {p : Pnl}

theorem link_setAssembling (p : Pnl) (bs : List Byte) (s : State) :
    (setAssembling p bs s).link p = { s.link p with assembling := bs } := Tab.at_put_same ..

theorem setAssembling_setAssembling (p : Pnl) (bs cs : List Byte) (s : State) :
    setAssembling p bs (setAssembling p cs s) = setAssembling p bs s := by
  have put : (s.links.put p { s.link p with assembling := cs }).put p { s.link p with assembling := bs } =
      s.links.put p { s.link p with assembling := bs } := by
    refine Tab.ext_at fun q => ?_
    simp only [Tab.at_put]
    split <;> rfl
  conv_lhs => rw [setAssembling, link_setAssembling]
  show ({ s with links := (s.links.put p _).put p _ } : State) = _
  rw [put]
  rfl

theorem setAssembling_same {bs : List Byte} (h : (s.link p).assembling = bs) : setAssembling p bs s = s := by
  rw [← h]
  exact setLink_link s p

theorem linksOnly_setAssembling (p : Pnl) (bs : List Byte) (s : State) : LinksOnly s (setAssembling p bs s) :=
  linksOnly_setLink rfl

/-- A byte outside a frame is none of a frame but the sync byte. -/
theorem takeByte_noise (idle : (s.link p).assembling = []) {b : Byte} (h : b ≠ 0xA5) : takeByte p s b = s := by
  unfold takeByte
  rw [idle]
  exact if_neg h

theorem takeByte_sync (idle : (s.link p).assembling = []) : takeByte p s 0xA5 = setAssembling p [0xA5] s := by
  unfold takeByte
  rw [idle]
  exact if_pos rfl

theorem takeByte_length {len : Byte} (low : 2 ≤ len.toNat) (high : len.toNat ≤ 62) :
    takeByte p (setAssembling p [0xA5] s) len = setAssembling p [0xA5, len] s := by
  unfold takeByte
  rw [link_setAssembling]
  exact (if_pos (by simp [low, high])).trans (setAssembling_setAssembling ..)

theorem takeByte_badLength {len : Byte} (bad : len.toNat < 2 ∨ 62 < len.toNat) :
    takeByte p (setAssembling p [0xA5] s) len = setAssembling p [] s := by
  unfold takeByte
  rw [link_setAssembling]
  exact (if_neg (by simp; omega)).trans (setAssembling_setAssembling ..)

theorem takeByte_inside {x len b : Byte} {part : List Byte} (short : part.length < len.toNat) :
    takeByte p (setAssembling p (x :: len :: part) s) b = setAssembling p (x :: len :: (part ++ [b])) s := by
  unfold takeByte
  rw [link_setAssembling]
  exact (if_neg (by omega)).trans (setAssembling_setAssembling ..)

theorem takeByte_last {x len b : Byte} {body : List Byte} (whole : body.length = len.toNat) :
    takeByte p (setAssembling p (x :: len :: body) s) b = endFrame p len (body ++ [b]) s := by
  unfold takeByte
  rw [link_setAssembling]
  refine (if_pos whole).trans ?_
  unfold endFrame
  rw [setAssembling_setAssembling]

/-- The bytes of a body, as far as they have come. -/
theorem takeBytes_part {x len : Byte} (part : List Byte) {before : List Byte}
    (short : before.length + part.length ≤ len.toNat) :
    part.foldl (takeByte p) (setAssembling p (x :: len :: before) s) =
      setAssembling p (x :: len :: (before ++ part)) s := by
  induction part generalizing before with
  | nil => simp
  | cons b part ih =>
    rw [List.length_cons] at short
    rw [List.foldl_cons, takeByte_inside (by omega), ih (by rw [List.length_append, List.length_singleton]; omega)]
    simp

theorem takeBytes_noise (noise : List Byte) (idle : (s.link p).assembling = []) (h : ∀ b ∈ noise, b ≠ 0xA5) :
    noise.foldl (takeByte p) s = s := by
  induction noise with
  | nil => rfl
  | cons b noise ih =>
    rw [List.foldl_cons, takeByte_noise idle (h b List.mem_cons_self)]
    exact ih fun c listed => h c (List.mem_cons_of_mem _ listed)

theorem takeBytes_cut {len : Byte} (part : List Byte) (idle : (s.link p).assembling = []) (low : 2 ≤ len.toNat)
    (high : len.toNat ≤ 62) (short : part.length ≤ len.toNat) :
    (0xA5 :: len :: part).foldl (takeByte p) s = setAssembling p (0xA5 :: len :: part) s := by
  rw [List.foldl_cons, List.foldl_cons, takeByte_sync idle, takeByte_length low high,
    takeBytes_part part (by simpa using short)]
  rfl

/-- A whole frame ends with its check byte. -/
theorem takeBytes_whole {len check : Byte} {body : List Byte} (idle : (s.link p).assembling = []) (low : 2 ≤ len.toNat)
    (high : len.toNat ≤ 62) (whole : body.length = len.toNat) :
    (0xA5 :: len :: body ++ [check]).foldl (takeByte p) s =
      if sum8 (len :: body ++ [check]) = 0 then transmit (takeFrame p body s) else s := by
  rw [List.foldl_append, takeBytes_cut body idle low high whole.le, List.foldl_cons, takeByte_last whole]
  unfold endFrame
  rw [setAssembling_same idle, List.dropLast_concat]
  rfl

theorem takeBytes_wholeFrame {body : List Byte} (idle : (s.link p).assembling = []) (low : 2 ≤ body.length)
    (high : body.length ≤ 62) : (frame body).foldl (takeByte p) s = transmit (takeFrame p body s) := by
  have length : (byte body.length).toNat = body.length := by
    rw [toNat_byte]
    omega
  have taken := takeBytes_whole (s := s) (p := p) (len := byte body.length)
    (check := 0 - sum8 (byte body.length :: body)) idle (by omega) (by omega) length.symm
  rw [if_pos (sum8_check _)] at taken
  exact taken

/-! ### The held buffer (R156 to R158) -/

/-- The link with its watch restarted, if it is in session. -/
def Link.watched (timeout : Nat) (l : Link) : Link :=
  if l.state.session then { l with supervision := some (timeout * 1000) } else l

theorem restartWatch_eq (p : Pnl) (s : State) :
    restartWatch p s = s.setLink p ((s.link p).watched s.timing.linkTimeout) := by
  unfold restartWatch Link.watched
  split
  · rfl
  · exact (setLink_link s p).symm

theorem state_watched (timeout : Nat) (l : Link) : (l.watched timeout).state = l.state := by
  unfold Link.watched
  split <;> rfl

variable {l : Link} {body : List Byte} {typ tag : Byte}

theorem setLink_setLink (s : State) (p : Pnl) (l m : Link) : (s.setLink p l).setLink p m = s.setLink p m := by
  have put : (s.links.put p l).put p m = s.links.put p m := by
    refine Tab.ext_at fun q => ?_
    simp only [Tab.at_put]
    split <;> rfl
  show ({ s with links := (s.links.put p l).put p m } : State) = _
  rw [put]
  rfl

theorem offerBusy_waits (h : l.state.session = true ∧ l.busy = none) :
    offerBusy p typ tag (s.setLink p l) = s.setLink p { l with busy := some (typ, tag) } := by
  unfold offerBusy
  rw [link_setLink_same, if_pos (by simp [h]), setLink_setLink]

theorem offerBusy_full (h : ¬(l.state.session = true ∧ l.busy = none)) :
    offerBusy p typ tag (s.setLink p l) = s.setLink p l := by
  unfold offerBusy
  rw [link_setLink_same]
  exact if_neg (by simpa using h)

theorem takeFrame_empty (h : ((s.link p).watched s.timing.linkTimeout).held = none) (ps : List Byte) :
    takeFrame p (typ :: tag :: ps) s =
      offerFrame p (typ :: tag :: ps) typ tag (s.setLink p ((s.link p).watched s.timing.linkTimeout)) := by
  simp only [takeFrame, restartWatch_eq, link_setLink_same, h]

theorem takeFrame_occupied {f : HeldFrame} (h : ((s.link p).watched s.timing.linkTimeout).held = some f)
    (ps : List Byte) : takeFrame p (typ :: tag :: ps) s =
      offerBusy p typ tag (s.setLink p ((s.link p).watched s.timing.linkTimeout)) := by
  simp only [takeFrame, restartWatch_eq, link_setLink_same, h]

theorem holdRefused_setLink (code : Result) : holdRefused p body typ tag code (s.setLink p l) = s.setLink p { l with
    held := some ⟨body, false⟩, replies := l.replies ++ [.reply typ tag code [] true] } := by
  unfold holdRefused
  rw [link_setLink_same, setLink_setLink]

theorem holdWaiting_setLink : holdWaiting p body (s.setLink p l) = s.setLink p { l with held := some ⟨body, true⟩ } := by
  unfold holdWaiting
  rw [link_setLink_same, setLink_setLink]

theorem readBody_none (h : decodeBody (.panel p) body = none) : readBody (.panel p) body = none := by
  unfold readBody
  rw [h]
  split
  next h => cases h
  next => rfl

theorem readBody_some {o : Origin} {i : Instr} {k : ReqKind} (h : decodeBody o body = some i)
    (kind : body.head?.bind ReqKind.ofCode? = some k) : readBody o body = some (k, i) := by
  unfold readBody
  rw [h, kind]

/-- The checks at the link read its state and the switcher link alone. -/
theorem panelGate_setLink (state : l.state = (s.link p).state) (k : ReqKind) (codes : Bool) :
    panelGate (s.setLink p l) p k codes = panelGate s p k codes := by
  unfold panelGate
  rw [link_setLink_same, state]
  rfl

end

/-! ### What is received leaves idle transmitters idle -/

section
variable {s : State}

theorem linksOnly_restartWatch (p : Pnl) (s : State) : LinksOnly s (restartWatch p s) := by
  rw [restartWatch_eq]
  exact linksOnly_setLink (state_watched ..)

theorem linksOnly_offerFrame (p : Pnl) (body : List Byte) (typ tag : Byte) (s : State) :
    LinksOnly s (offerFrame p body typ tag s) := by
  unfold offerFrame
  split
  · split
    · exact linksOnly_setLink rfl
    · exact .refl s
  · split
    · exact .refl s
    · exact linksOnly_setLink rfl
    · exact linksOnly_setLink rfl

theorem linksOnly_takeFrame (p : Pnl) (body : List Byte) (s : State) : LinksOnly s (takeFrame p body s) := by
  unfold takeFrame
  split
  next typ tag ps =>
    dsimp only
    split
    · exact (linksOnly_restartWatch p s).trans (linksOnly_offerFrame ..)
    · unfold offerBusy
      split
      · exact (linksOnly_restartWatch p s).trans (linksOnly_setLink rfl)
      · exact linksOnly_restartWatch p s
  next => exact .refl s

/-- A byte received changes the links alone, no link's state, and leaves idle transmitters with nothing to send. -/
theorem takeByte_idle (p : Pnl) (b : Byte) (h : IdleHasNothingToSend s) :
    LinksOnly s (takeByte p s b) ∧ IdleHasNothingToSend (takeByte p s b) := by
  have assembling : ∀ bs, LinksOnly s (setAssembling p bs s) ∧ IdleHasNothingToSend (setAssembling p bs s) := by
    refine fun bs => ⟨linksOnly_setAssembling p bs s, fun q => ?_⟩
    rw [setAssembling, link_setLink]
    split
    next same => subst same; exact h p
    next => exact h q
  have ended : ∀ len tail, LinksOnly s (endFrame p len tail s) ∧ IdleHasNothingToSend (endFrame p len tail s) := by
    intro len tail
    unfold endFrame
    dsimp only
    split
    · exact ⟨((assembling []).1.trans (linksOnly_takeFrame ..)).trans (linksOnly_transmit _),
        idleHasNothingToSend_transmit _⟩
    · exact assembling []
  unfold takeByte
  split
  · split
    · exact assembling _
    · exact ⟨.refl s, h⟩
  · split
    · exact assembling _
    · exact assembling _
  · split
    · exact ended ..
    · exact assembling _

theorem takeBytes_idle (p : Pnl) (bs : List Byte) (h : IdleHasNothingToSend s) :
    LinksOnly s (bs.foldl (takeByte p) s) ∧ IdleHasNothingToSend (bs.foldl (takeByte p) s) := by
  induction bs generalizing s with
  | nil => exact ⟨.refl s, h⟩
  | cons b bs ih =>
    obtain ⟨only, idle⟩ := takeByte_idle p b h
    obtain ⟨later, last⟩ := ih idle
    exact ⟨only.trans later, last⟩

end

/-- A row of bytes whose effect, once transmitted, is that of a change of the links. -/
theorem becomes_frameReceived {s u : State} {p : Pnl} {bs : List Byte} (only : LinksOnly s u)
    (h : bs.foldl (takeByte p) s = u ∨ bs.foldl (takeByte p) s = transmit u) : Becomes (.frameReceived p bs) s u := by
  have run : exec (.frameReceived p bs) s = finish s (bs.foldl (takeByte p) s) := rfl
  rcases h with h | h
  · exact becomes_of_finish (run.trans (congrArg (finish s) h))
  · refine becomes_of_finish (run.trans ?_)
    rw [h, finish, finish, only.settle, (only.trans (linksOnly_transmit u)).settle, transmit_transmit]

/-- Settles O39: the receiver byte by byte, then what the held buffer does with a whole frame. -/
theorem framesAreAssembledAndHeld : Obligations.FramesAreAssembledAndHeld := by
  refine ⟨?whole, fun s p noise idle other => becomes_frameReceived (.refl s) (.inl (takeBytes_noise noise idle other)),
    fun s p len idle bad => becomes_frameReceived (.refl s) (.inl ?badLength),
    fun s p len check body idle low high length bad => becomes_frameReceived (.refl s)
      (.inl ((takeBytes_whole idle low high length).trans (if_neg bad))),
    fun s p len part idle low high short => becomes_frameReceived (linksOnly_setLink rfl)
      (.inl (takeBytes_cut part idle low high short)),
    fun s p => becomes_of_finish rfl, fun s t p a b idle run => ?rows⟩
  case badLength =>
    rw [List.foldl_cons, List.foldl_cons, takeByte_sync idle, takeByte_badLength bad, setAssembling_same idle]
    rfl
  case rows =>
    obtain ⟨only, idle⟩ := takeBytes_idle p a idle
    have before : finish s (a.foldl (takeByte p) s) = .next t := run
    rw [finish, only.settle, transmit_of_idle idle] at before
    cases before
    obtain ⟨later, -⟩ := takeBytes_idle p b idle
    show finish s ((a ++ b).foldl (takeByte p) s) = finish _ (b.foldl (takeByte p) _)
    rw [List.foldl_append, finish, finish, (only.trans later).settle, later.settle]
  case whole =>
    rintro s p typ tag ps body rfl high idle l watched c rfl
    replace watched : l = (s.link p).watched s.timing.linkTimeout := watched
    have state : l.state = (s.link p).state := watched ▸ state_watched ..
    have received := takeBytes_wholeFrame idle (by simp) high
    have becomes : ∀ {m : Link}, m.state = l.state → takeFrame p (typ :: tag :: ps) s = s.setLink p m →
        Becomes (.frameReceived p (frame (typ :: tag :: ps))) s (s.setLink p m) := fun same h =>
      becomes_frameReceived (linksOnly_setLink (same.trans state)) (.inr (received.trans (congrArg transmit h)))
    have occupied : ∀ {h}, l.held = some h → takeFrame p (typ :: tag :: ps) s = offerBusy p typ tag (s.setLink p l) := by
      intro h held
      rw [watched] at held ⊢
      exact takeFrame_occupied held ps
    have vacant : l.held = none →
        takeFrame p (typ :: tag :: ps) s = offerFrame p (typ :: tag :: ps) typ tag (s.setLink p l) := by
      intro held
      rw [watched] at held ⊢
      exact takeFrame_empty held ps
    refine ⟨fun h held => ⟨fun room => becomes rfl ?_, fun full => becomes rfl ?_⟩, fun empty =>
      ⟨fun unknown => ⟨fun session => becomes rfl ?_, fun ended => ?_⟩, fun i k known kind =>
        ⟨fun drop => ?_, fun code refused => becomes rfl ?_, fun pass => becomes rfl ?_⟩⟩⟩
    · exact (occupied held).trans (offerBusy_waits room)
    · exact (occupied held).trans (offerBusy_full full)
    · rw [vacant empty]
      simp only [offerFrame, readBody_none unknown, link_setLink_same]
      exact (if_pos session).trans (holdRefused_setLink ..)
    · have unwatched : s.setLink p l = s := by
        rw [watched, Link.watched, if_neg (by rw [← state, ended]; decide), setLink_link]
      have kept := becomes (m := l) rfl ?_
      · rwa [unwatched] at kept
      rw [vacant empty]
      simp only [offerFrame, readBody_none unknown, link_setLink_same]
      exact if_neg (by rw [ended]; decide)
    all_goals have read := readBody_some (o := .panel p) (body := typ :: tag :: ps) known kind
    · have ended : (s.link p).state.session = false := by
        by_contra session
        rw [Bool.not_eq_false] at session
        unfold panelGate at drop
        rw [if_pos session] at drop
        split at drop
        · cases drop
        · split at drop
          · cases drop
          · split at drop
            · cases drop
            · split at drop <;> cases drop
      have unwatched : s.setLink p l = s := by
        rw [watched, Link.watched, if_neg (by rw [ended]; decide), setLink_link]
      have kept := becomes (m := l) rfl ?_
      · rwa [unwatched] at kept
      rw [vacant empty]
      simp only [offerFrame, read, panelGate_setLink state, drop]
    · rw [vacant empty]
      simp only [offerFrame, read, panelGate_setLink state, refused]
      exact holdRefused_setLink ..
    · rw [vacant empty]
      simp only [offerFrame, read, panelGate_setLink state, pass]
      exact holdWaiting_setLink

end Sys2Proof.Machine
end

section
/-! SUPPORT. Requests and their bytes: the obligation O53. -/

namespace Sys2Proof.Machine

/-! ### Numbers and lists as bytes (R190) -/

theorem toNat_byte_of_lt {n : Nat} (h : n < 256) : (byte n).toNat = n := by rw [toNat_byte, Nat.mod_eq_of_lt h]

theorem byte_toNat (b : Byte) : byte b.toNat = b := BitVec.ofNat_toNat 8 b

theorem num2_two {n : Nat} (h : n < 65536) : num2 (byte (n / 256)) (byte (n % 256)) = n := by
  rw [num2, toNat_byte_of_lt (by omega), toNat_byte_of_lt (by omega)]
  omega

theorem num3_inputs {n : Nat} (h : n < 16777216) :
    num3 (byte (n % 256)) (byte (n / 256 % 256)) (byte (n / 65536)) = n := by
  rw [num3, toNat_byte_of_lt (by omega), toNat_byte_of_lt (by omega), toNat_byte_of_lt (by omega)]
  omega

theorem bytes_two (n : Nat) : Field.bytes (.two n) = [byte (n / 256), byte (n % 256)] := rfl

theorem length_bytes (f : Field) : (Field.bytes f).length = f.size := by cases f <;> rfl

theorem length_flatMap_bytes (fs : List Field) : (fs.flatMap Field.bytes).length = (fs.map Field.size).sum := by
  rw [List.length_flatMap]
  exact congrArg (fun f => (fs.map f).sum) (funext length_bytes)

theorem counted_same {α : Type} {l : List α} (h : l.length < 256) : counted (byte l.length) (some l) = some l := by
  simp [counted, toNat_byte_of_lt h]

theorem pairFields_cons (p : Nat × Nat) (ps : List (Nat × Nat)) :
    pairFields (p :: ps) = .one p.1 :: .one p.2 :: pairFields ps := rfl

theorem toPairs_bytes {ps : List (Nat × Nat)} (fits : (pairFields ps).all Field.fits = true) :
    toPairs ((pairFields ps).flatMap Field.bytes) = some ps := by
  induction ps with
  | nil => rfl
  | cons p ps ih =>
    simp only [pairFields_cons, List.all_cons, Field.fits, Bool.and_eq_true, decide_eq_true_eq] at fits
    obtain ⟨first, second, rest⟩ := fits
    show (toPairs ((pairFields ps).flatMap Field.bytes)).map (((byte p.1).toNat, (byte p.2).toNat) :: ·) = _
    rw [ih rest, toNat_byte_of_lt first, toNat_byte_of_lt second]
    rfl

theorem length_pairFields (ps : List (Nat × Nat)) : ((pairFields ps).flatMap Field.bytes).length = 2 * ps.length := by
  induction ps with
  | nil => rfl
  | cons p ps ih =>
    have := congrArg (· + 2) ih
    rw [List.length_cons, Nat.mul_add]
    exact this

theorem toWords_bytes (ws : List Word) :
    toWords ((ws.map fun w => Field.two w.toNat).flatMap Field.bytes) = some ws := by
  induction ws with
  | nil => rfl
  | cons w ws ih =>
    show (toWords ((ws.map fun w => Field.two w.toNat).flatMap Field.bytes)).map
      (BitVec.ofNat 16 (num2 (byte (w.toNat / 256)) (byte (w.toNat % 256))) :: ·) = _
    rw [ih, num2_two w.isLt, BitVec.ofNat_toNat]
    rfl

theorem numbers_bytes {ns : List Nat} (fits : (ns.map Field.one).all Field.fits = true) :
    ((ns.map Field.one).flatMap Field.bytes).map BitVec.toNat = ns := by
  induction ns with
  | nil => rfl
  | cons n ns ih =>
    simp only [List.map_cons, List.all_cons, Field.fits, Bool.and_eq_true, decide_eq_true_eq] at fits
    show (byte n).toNat :: ((ns.map Field.one).flatMap Field.bytes).map BitVec.toNat = _
    rw [ih fits.2, toNat_byte_of_lt fits.1]

/-- The part of a DEFINE GUARD from its pair count on. -/
theorem guardTail_bytes {ps : List (Nat × Nat)} {set values : Nat} (fits : (pairFields ps).all Field.fits = true)
    (count : ps.length < 256) (setFits : set < 65536) (valuesFit : values < 65536) :
    guardTail (byte ps.length)
      ((pairFields ps).flatMap Field.bytes ++ (Field.bytes (.two set) ++ Field.bytes (.two values))) =
        some (ps, set, values) := by
  unfold guardTail
  rw [toNat_byte_of_lt count, ← length_pairFields, List.take_left, List.drop_left, toPairs_bytes fits]
  show (if ps.length = ps.length then _ else none) = _
  rw [if_pos rfl, num2_two setFits, num2_two valuesFit]

/-! ### Decoding what was encoded -/

theorem ofCode?_code (k : ReqKind) : ReqKind.ofCode? k.code = some k := by cases k <;> rfl

theorem decodeBody_code (o : Origin) (k : ReqKind) (tag : Byte) (ps : List Byte) :
    decodeBody o (k.code :: tag :: ps) = decodeParams k o tag ps := by
  simp only [decodeBody, ofCode?_code]

/-- The parameters of a well-formed request decode to it: the four with lists by the lemmas on lists, and every other
field by field. -/
theorem decodeParams_fields {c : Instr} {k : ReqKind} {o : Origin} {tag : Byte} (fits : c.fields.all Field.fits = true)
    (head : requestHead c = some (k, o, tag)) : decodeParams k o tag (c.fields.flatMap Field.bytes) = some c := by
  cases c with
  | salvo o t ps =>
    cases head
    simp only [Instr.fields, List.all_cons, Field.fits, Bool.and_eq_true, decide_eq_true_eq] at fits
    show (counted (byte ps.length) (toPairs ((pairFields ps).flatMap Field.bytes))).map _ = _
    rw [toPairs_bytes fits.2, counted_same fits.1]
    rfl
  | savePreset o t n ds =>
    cases head
    simp only [Instr.fields, List.all_cons, Field.fits, Bool.and_eq_true, decide_eq_true_eq] at fits
    obtain ⟨preset, count, dests⟩ := fits
    show (counted (byte ds.length) (some (((ds.map Field.one).flatMap Field.bytes).map BitVec.toNat))).map _ = _
    rw [numbers_bytes dests, counted_same count, toNat_byte_of_lt preset]
    rfl
  | defineGuard o t g line level debounce mode armed ps set values =>
    cases head
    simp only [Instr.fields, List.all_append, List.all_cons, List.all_nil, Field.fits, Bool.and_eq_true,
      decide_eq_true_eq, and_true] at fits
    obtain ⟨⟨⟨hg, hline, hlevel, hdebounce, hmode, harmed, count⟩, pairs⟩, hset, hvalues⟩ := fits
    have tail := guardTail_bytes pairs count hset hvalues
    simp only [Instr.fields, List.flatMap_append, List.flatMap_cons, List.flatMap_nil, List.append_nil, Field.bytes,
      two, List.cons_append, List.nil_append, decodeParams] at tail ⊢
    rw [tail, toNat_byte_of_lt hg, toNat_byte_of_lt hline, toNat_byte_of_lt hlevel, toNat_byte_of_lt hmode,
      toNat_byte_of_lt harmed, num2_two hdebounce]
    rfl
  | rawWrite o t start ws =>
    cases head
    simp only [Instr.fields, List.all_cons, Field.fits, Bool.and_eq_true, decide_eq_true_eq] at fits
    obtain ⟨first, count, -⟩ := fits
    show (counted (byte ws.length) (toWords ((ws.map fun w => Field.two w.toNat).flatMap Field.bytes))).map
      (Instr.rawWrite _ _ (num2 (byte (start / 256)) (byte (start % 256)))) = _
    rw [toWords_bytes, counted_same count, num2_two first]
    rfl
  | _ =>
    simp only [requestHead, Option.some.injEq, Prod.mk.injEq, reduceCtorEq] at head <;>
      (obtain ⟨rfl, rfl, rfl⟩ := head
       simp only [Instr.fields, List.all_cons, List.all_nil, Field.fits, Bool.and_eq_true, decide_eq_true_eq] at fits
       simp [Instr.fields, Field.bytes, two, decodeParams, toNat_byte_of_lt, num2_two, num3_inputs, byte_toNat, fits])

/-- A well-formed request's fields fit its link. -/
theorem fieldBytes_le {c : Instr} {k : ReqKind} {o : Origin} {tag : Byte} (wf : c.wellFormed = true)
    (head : requestHead c = some (k, o, tag)) : 2 + c.fieldBytes ≤ o.maxBody := by
  have room : 62 ≤ o.maxBody := by
    cases o with
    | panel p => exact Nat.le_refl 62
    | ctl => decide
  unfold Instr.wellFormed at wf
  rw [Bool.and_eq_true, Bool.and_eq_true] at wf
  obtain ⟨⟨-, short⟩, -⟩ := wf
  cases c with
  | salvo => cases head; exact of_decide_eq_true short
  | savePreset => cases head; exact of_decide_eq_true short
  | defineGuard => cases head; exact of_decide_eq_true short
  | rawWrite => cases head; exact of_decide_eq_true short
  | _ =>
    simp only [requestHead, Option.some.injEq, Prod.mk.injEq, reduceCtorEq] at head <;>
      (obtain ⟨rfl, rfl, rfl⟩ := head
       simp only [Instr.fieldBytes, Instr.fields, List.map_cons, List.map_nil, List.sum_cons, List.sum_nil, Field.size]
       omega)

theorem wellFormed_fits {c : Instr} (wf : c.wellFormed = true) : c.fields.all Field.fits = true := by
  unfold Instr.wellFormed at wf
  rw [Bool.and_eq_true, Bool.and_eq_true] at wf
  exact wf.1.1

/-- A well-formed request and its body. -/
theorem encodeBody_round {c : Instr} {k : ReqKind} {o : Origin} {tag : Byte} {body : List Byte} (wf : c.wellFormed = true)
    (head : requestHead c = some (k, o, tag)) (encoded : encodeBody c = some body) :
    body = k.code :: tag :: c.fields.flatMap Field.bytes ∧ decodeBody o body = some c ∧ 2 ≤ body.length ∧
      body.length ≤ o.maxBody := by
  have made : body = k.code :: tag :: c.fields.flatMap Field.bytes := by
    rw [encodeBody, head] at encoded
    exact (Option.some.inj encoded).symm
  have length : body.length = 2 + c.fieldBytes := by
    rw [made, List.length_cons, List.length_cons, length_flatMap_bytes, Instr.fieldBytes]
    omega
  refine ⟨made, ?_, by omega, length ▸ fieldBytes_le wf head⟩
  rw [made, decodeBody_code]
  exact decodeParams_fields (wellFormed_fits wf) head

/-- Settles O53. -/
theorem requestsSurviveTheirBytes : Obligations.RequestsSurviveTheirBytes := by
  refine ⟨fun c k o tag body wf head encoded => ?_, rfl, fun g small => ?_⟩
  · obtain ⟨made, decoded, low, high⟩ := encodeBody_round wf head encoded
    exact ⟨decoded, low, high, by rw [made]; rfl⟩
  · show some (Instr.tripGuard (byte g).toNat) = some (.tripGuard g)
    rw [toNat_byte_of_lt small]

end Sys2Proof.Machine
end

section
/-! SUPPORT. Requests from the buffers they wait in: the obligation O41. -/

namespace Sys2Proof.Machine

/-! ### What reads and writes nothing of the urgent slot -/

/-- The state with other contents of the urgent slot. -/
def withSlot (slot : Option (List Byte)) (free : Bool) (s : State) : State :=
  { s with ctl := { s.ctl with urgent := slot, urgFree := free } }

/-- The change commutes with any contents of the urgent slot. -/
def IgnoresSlot (f : State → State) : Prop := ∀ slot free s, f (withSlot slot free s) = withSlot slot free (f s)

theorem IgnoresSlot.comp {f g : State → State} (hf : IgnoresSlot f) (hg : IgnoresSlot g) :
    IgnoresSlot fun s => f (g s) := fun slot free s => (congrArg f (hg slot free s)).trans (hf slot free (g s))

theorem IgnoresSlot.foldl {α : Type} {f : State → α → State} (h : ∀ a, IgnoresSlot fun s => f s a) (l : List α) :
    IgnoresSlot fun s => l.foldl f s := by
  intro slot free s
  induction l generalizing s with
  | nil => rfl
  | cons a l ih => exact (congrArg (fun t => l.foldl f t) (h a slot free s)).trans (ih (f s a))

theorem IgnoresSlot.ite {c : State → Prop} [∀ s, Decidable (c s)] {f g : State → State}
    (same : ∀ slot free s, c (withSlot slot free s) ↔ c s) (hf : IgnoresSlot f) (hg : IgnoresSlot g) :
    IgnoresSlot fun s => if c s then f s else g s := by
  intro slot free s
  dsimp only
  by_cases h : c s
  · rw [if_pos h, if_pos ((same slot free s).mpr h), hf]
  · rw [if_neg h, if_neg (mt (same slot free s).mp h), hg]

theorem IgnoresSlot.refl : IgnoresSlot fun s => s := fun _ _ _ => rfl

theorem ignoresSlot_refresh : IgnoresSlot refresh := fun _ _ _ => rfl

theorem ignoresSlot_handCrosspoint (p : Pnl) (y : Pty) : IgnoresSlot (handCrosspoint p y) :=
  .ite (c := fun s => s.talk.sendList.contains (p, y) = true) (fun _ _ _ => Iff.rfl) .refl fun _ _ _ => rfl

theorem ignoresSlot_holdUp (p : Pnl) (y : Pty) : IgnoresSlot (holdUp p y) :=
  .ite (c := fun s => s.holdCount p y = 0) (fun _ _ _ => Iff.rfl)
    ((ignoresSlot_handCrosspoint p y).comp (g := fun s => (s.setHold p y (s.holdCount p y + 1)).setCrosspoint p y true)
      fun _ _ _ => rfl) fun _ _ _ => rfl

theorem ignoresSlot_holdDown (p : Pnl) (y : Pty) : IgnoresSlot (holdDown p y) :=
  .ite (c := fun s => s.holdCount p y = 1) (fun _ _ _ => Iff.rfl)
    ((ignoresSlot_handCrosspoint p y).comp (g := fun s => (s.setHold p y (s.holdCount p y - 1)).setCrosspoint p y false)
      fun _ _ _ => rfl) fun _ _ _ => rfl

theorem ignoresSlot_countCall (y : Pty) (f : Nat → Nat) : IgnoresSlot (countCall y f) := by
  intro slot free s
  have party : (withSlot slot free s).talk.parties.at y = s.talk.parties.at y := rfl
  unfold countCall
  rw [party]
  cases s.talk.parties.at y with
  | none => rfl
  | some c => rfl

theorem ignoresSlot_enterTalk (k : KeyId) (t : KeyTarget) : IgnoresSlot (enterTalk k t) := by
  cases t with
  | ifb d => exact fun _ _ _ => rfl
  | party y call =>
    cases call with
    | false => exact ignoresSlot_holdUp _ y
    | true => exact (ignoresSlot_countCall y (· + 1)).comp (ignoresSlot_holdUp _ y)

theorem ignoresSlot_leaveTalk (k : KeyId) (t : KeyTarget) : IgnoresSlot (leaveTalk k t) := by
  cases t with
  | ifb d => exact fun _ _ _ => rfl
  | party y call =>
    cases call with
    | false => exact ignoresSlot_holdDown _ y
    | true => exact (ignoresSlot_countCall y (· - 1)).comp (ignoresSlot_holdDown _ y)

theorem ignoresSlot_moveKeys (ks : List KeyId) (f : KeyState → KeyState) : IgnoresSlot (moveKeys ks f) := by
  refine IgnoresSlot.foldl (fun k slot free s => ?_) ks
  have key : (withSlot slot free s).key k = s.key k := rfl
  simp only [moveKey, key]
  cases (s.key k).defn with
  | none => rfl
  | some d =>
    dsimp only
    split
    · exact ignoresSlot_enterTalk k d.target slot free (s.setKey k _)
    · split
      · exact ignoresSlot_leaveTalk k d.target slot free (s.setKey k _)
      · rfl

theorem ignoresSlot_switcherLost (p : Pnl) : IgnoresSlot (switcherLost p) :=
  .ite (c := fun s => s.tally.switcher = some p) (fun _ _ _ => Iff.rfl) (fun _ _ _ => rfl) .refl

theorem ignoresSlot_payQuiesce (owed : Option Byte) (x : LinkState) : IgnoresSlot (payQuiesce owed x) := by
  cases owed with
  | none => exact .refl
  | some tag => exact fun _ _ _ => rfl

theorem enterQuiesced_eq (p : Pnl) (s : State) : enterQuiesced p s =
    refresh (switcherLost p (payQuiesce ((moveKeys (stationKeys p) clearingOff s).link p).quiesceOwed .quiesced
      ((moveKeys (stationKeys p) clearingOff s).setLink p { (moveKeys (stationKeys p) clearingOff s).link p with
        state := .quiesced, supervision := none, changes := [], subs := .none, hold := none, quiesceOwed := none }))) := rfl

theorem ignoresSlot_enterQuiesced (p : Pnl) : IgnoresSlot (enterQuiesced p) := by
  intro slot free s
  rw [enterQuiesced_eq, enterQuiesced_eq, ignoresSlot_moveKeys]
  generalize moveKeys (stationKeys p) clearingOff s = t
  exact (ignoresSlot_refresh.comp ((ignoresSlot_switcherLost p).comp (ignoresSlot_payQuiesce _ _))) slot free
    (t.setLink p _)

theorem ignoresSlot_testQuiesced (p : Pnl) : IgnoresSlot (testQuiesced p) :=
  .ite (c := fun s => quiesceDone s p = true) (fun _ _ _ => Iff.rfl) (ignoresSlot_enterQuiesced p) .refl

theorem ignoresSlot_silence : IgnoresSlot silence :=
  ignoresSlot_refresh.comp ((IgnoresSlot.foldl (f := fun t p => testQuiesced p t) ignoresSlot_testQuiesced (fins 8)).comp
    (ignoresSlot_refresh.comp (ignoresSlot_moveKeys (fins 128) talkOff)))

theorem ignoresSlot_outcome (o : Origin) (kind : OutcomeKind) (tag : Byte) (code : Result) (ended : Bool) (detail : Byte) :
    IgnoresSlot (outcome o kind tag code ended detail) := by
  cases o with
  | ctl => exact .refl
  | panel p =>
    exact .ite (c := fun s => (s.link p).state.session = true) (fun _ _ _ => Iff.rfl)
      (f := place p (.outcome kind tag code ended detail)) (fun _ _ _ => rfl) .refl

theorem ignoresSlot_requeue (x : PendingSalvo) : IgnoresSlot (requeue x) := by
  intro slot free s
  have joins : IgnoresSlot (joinSalvos x) := fun _ _ _ => rfl
  have full : salvosFull (withSlot slot free s) = salvosFull s := rfl
  have link : ∀ p, (withSlot slot free s).link p = s.link p := fun _ => rfl
  unfold requeue
  simp only [full, link]
  split
  next p _ =>
    split
    · split
      · exact ignoresSlot_outcome _ _ _ _ _ _ slot free s
      · exact (ignoresSlot_outcome _ _ _ _ _ _).comp joins slot free s
    · exact ignoresSlot_outcome _ _ _ _ _ _ slot free s
    · rfl
    · rfl
  next =>
    split
    · rfl
    · exact joins slot free s

theorem ignoresSlot_unstageSalvos (ds : List Dst) : IgnoresSlot (unstageSalvos ds) := by
  refine IgnoresSlot.foldl (fun d slot free s => ?_) _
  have entry : (withSlot slot free s).entry d = s.entry d := rfl
  simp only [unstageAt, entry]
  cases (s.entry d).mark with
  | none => rfl
  | some m => exact ignoresSlot_requeue (rebuild s m) slot free (removeSalvo m s)

theorem ignoresSlot_trip (g : Gid) : IgnoresSlot (trip g) := by
  intro slot free s
  have guard : (withSlot slot free s).guard g = s.guard g := rfl
  have holds : IgnoresSlot fun t : State => (s.guard g).defn.fallback.foldl (holdPair g) t :=
    IgnoresSlot.foldl (f := holdPair g) (fun _ _ _ _ => rfl) _
  rw [trip_eq, trip_eq]
  unfold tripped
  rw [guard, ignoresSlot_unstageSalvos]
  generalize unstageSalvos ((s.guard g).defn.fallback.map Prod.fst) s = t
  rw [show (s.guard g).defn.fallback.foldl (holdPair g) (withSlot slot free t) = _ from holds slot free t]
  rfl

/-! ### Urgent requests (R176) -/

theorem ignoresSlot_silenceRequest (slot : Option (List Byte)) (free : Bool) (s : State) :
    silenceRequest (withSlot slot free s) = (withSlot slot free (silenceRequest s).1, (silenceRequest s).2) := by
  have ready : (withSlot slot free s).ctl.ready = s.ctl.ready := rfl
  unfold silenceRequest
  rw [ready, ignoresSlot_silence]
  split <;> rfl

theorem ignoresSlot_tripRequest (g : Nat) (slot : Option (List Byte)) (free : Bool) (s : State) :
    tripRequest g (withSlot slot free s) = (withSlot slot free (tripRequest g s).1, (tripRequest g s).2) := by
  have ready : (withSlot slot free s).ctl.ready = s.ctl.ready := rfl
  have guard : ∀ h, (withSlot slot free s).guard h = s.guard h := fun _ => rfl
  have trips : ∀ h, trip h (withSlot slot free s) = withSlot slot free (trip h s) := fun h => ignoresSlot_trip h slot free s
  simp only [tripRequest, ready, guard, trips]
  split
  · split
    · split <;> rfl
    · rfl
  · rfl

/-- What a command settles to depends on no flag of the control link. -/
theorem finish_ctl (s u : State) (c : ControlLink) : finish { s with ctl := c } u = finish s u := rfl

theorem written_whole {limit : Nat} {body : List Byte} (low : 1 ≤ body.length) (high : body.length ≤ limit)
    (small : limit < 256) : written limit (byte body.length :: body) = some body := by
  have length : (byte body.length).toNat = body.length := toNat_byte_of_lt (by omega)
  exact if_pos (by simp [length, low, high])

theorem decodeUrgent_silence : decodeUrgent [0x4C] = some .allTalkOff := rfl

theorem decodeUrgent_trip (g : Byte) : decodeUrgent [0x4D, g] = some (.tripGuard g.toNat) := rfl

/-- An accepted urgent request that its decoder knows. -/
theorem takeUrgent_accepted {body : List Byte} {i : Instr} {request : State → State × UrgentResult}
    (taken : ∀ t, takeUrgent body t = request t)
    (ignores : ∀ slot free t, request (withSlot slot free t) = (withSlot slot free (request t).1, (request t).2))
    (run : ∀ t, exec i t = finish t (urgentDone (request t))) {s v : State} (free : s.ctl.urgFree = true)
    (low : 1 ≤ body.length) (high : body.length ≤ 8)
    (made : v = { s with ctl := { s.ctl with
      out := statusByte s :: List.replicate (1 + body.length) 0, discard := false } }) :
    exec (.writeUrgent (byte body.length :: body)) s = exec i v := by
  have accepted : acceptUrgent body (clockOut (statusByte s :: zeros (byte body.length :: body).length) s) =
      withSlot (some body) false v := by
    rw [made, List.length_cons, Nat.add_comm]
    rfl
  have whole : (if s.ctl.urgFree then written 8 (byte body.length :: body) else none) = some body := by
    rw [free, written_whole low high (by omega)]
    rfl
  show execWriteUrgent _ s = _
  simp only [execWriteUrgent, whole, accepted, taken, ignores, run]
  rw [made, finish_ctl]
  rfl

/-! ### Requests -/

theorem exec_acceptedRequest {s : State} {body : List Byte} {k : ReqKind} {i : Instr} (free : s.ctl.reqFree = true)
    (low : 1 ≤ body.length) (high : body.length ≤ 64) (read : readBody .ctl body = some (k, i))
    (pass : controlGate s k (codesOk i) = .pass) : exec (.writeRequest (byte body.length :: body)) s =
      finish s (acceptRequest body true (clockOut (statusByte s :: zeros (body.length + 1)) s)) := by
  have whole : (if s.ctl.reqFree then written 64 (byte body.length :: body) else none) = some body := by
    rw [free, written_whole low high (by omega)]
    rfl
  have passes : controlGate (clockOut (statusByte s :: zeros (body.length + 1)) s) k (codesOk i) = .pass := pass
  show execWriteRequest _ s = _
  simp only [execWriteRequest, whole, decodeRequest, read, List.length_cons, passes]

/-- The body of a request and the kind its first byte names. -/
theorem readBody_encoded {c : Instr} {k : ReqKind} {o : Origin} {tag : Byte} {body : List Byte} (wf : c.wellFormed = true)
    (head : requestHead c = some (k, o, tag)) (encoded : encodeBody c = some body) : readBody o body = some (k, c) := by
  obtain ⟨made, decoded, -, -⟩ := encodeBody_round wf head encoded
  exact readBody_some decoded (made ▸ ofCode?_code k)

theorem step_idle {s : State} {c : Instr} (idle : s.pending = []) (waits : waitingRequest s = some c) :
    step s = exec c s := by
  unfold step
  rw [idle]
  show idleStep s = _
  unfold idleStep
  rw [waits]

theorem held_transmit (s : State) (p : Pnl) : ((transmit s).link p).held = (s.link p).held := by
  rw [show (transmit s).link p = transmitLink s p from Tab.at_tabOf _ p, transmitLink_eq]

theorem heldRequest_transmit (s : State) (p : Pnl) : heldRequest (transmit s) p = heldRequest s p := by
  unfold heldRequest
  rw [held_transmit]

/-- A frame whose request its link lets through waits in the held buffer. -/
theorem takeFrame_waits {s : State} {c : Instr} {k : ReqKind} {p : Pnl} {typ tag : Byte} {ps : List Byte}
    (read : readBody (.panel p) (typ :: tag :: ps) = some (k, c)) (pass : panelGate s p k (codesOk c) = .pass)
    (empty : (s.link p).held = none) : ∃ l : Link, l.state = (s.link p).state ∧
      l.held = some ⟨typ :: tag :: ps, true⟩ ∧ takeFrame p (typ :: tag :: ps) s = s.setLink p l := by
  have state := state_watched s.timing.linkTimeout (s.link p)
  have vacant : ((s.link p).watched s.timing.linkTimeout).held = none := by
    unfold Link.watched
    split <;> exact empty
  refine ⟨{ (s.link p).watched s.timing.linkTimeout with held := some ⟨typ :: tag :: ps, true⟩ }, state, rfl, ?_⟩
  rw [takeFrame_empty vacant]
  simp only [offerFrame, read, panelGate_setLink state, pass]
  exact holdWaiting_setLink

/-- A request that waits on a link runs when none waits elsewhere. -/
theorem waitingRequest_setLink {s : State} {p : Pnl} {l : Link} {body : List Byte} {c : Instr}
    (none : waitingRequest s = none) (free : ∀ b, s.ctl.request ≠ some ⟨b, true⟩)
    (held : l.held = some ⟨body, true⟩) (decoded : decodeBody (.panel p) body = some c) :
    waitingRequest (transmit (s.setLink p l)) = some c := by
  rw [waitingRequest_of_no_body free] at none
  rw [waitingRequest_of_no_body (s := transmit (s.setLink p l)) free]
  have own : (s.setLink p l).link p = l := link_setLink_same ..
  refine findSome_fins (i := p) ?_ fun q before => ?_
  · rw [heldRequest_transmit, heldRequest_of_held (own ▸ held), decoded]
  · have other : (s.setLink p l).link q = s.link q := by
      rw [link_setLink, if_neg (Ne.symm (Fin.ne_of_lt before))]
    have silent := List.findSome?_eq_none_iff.mp none q (mem_fins q)
    rw [heldRequest_transmit]
    unfold heldRequest at silent ⊢
    rwa [other]

/-- Settles O41. -/
theorem aFrameRunsItsRequest : Obligations.AFrameRunsItsRequest := by
  refine ⟨fun s c k p tag body wf head encoded pass idle empty pending none free => ?_,
    fun s c k tag body wf head encoded pass free pending => ?_, fun s v c body request free made => ?_⟩
  · obtain ⟨shape, decoded, low, high⟩ := encodeBody_round wf head encoded
    subst shape
    obtain ⟨l, state, held, taken⟩ := takeFrame_waits (readBody_encoded wf head encoded) pass empty
    have only : LinksOnly s (s.setLink p l) := linksOnly_setLink state
    have run : exec (.frameReceived p (frame (k.code :: tag :: c.fields.flatMap Field.bytes))) s =
        .next (transmit (s.setLink p l)) := by
      show finish s ((frame (k.code :: tag :: c.fields.flatMap Field.bytes)).foldl (takeByte p) s) = _
      rw [takeBytes_wholeFrame idle low high, taken, finish, (only.trans (linksOnly_transmit _)).settle, transmit_transmit]
    refine ⟨_, run, step_idle pending (waitingRequest_setLink none (fun b waits => ?_) held decoded)⟩
    cases free _ waits
  · obtain ⟨-, decoded, low, high⟩ := encodeBody_round wf head encoded
    refine ⟨_, exec_acceptedRequest free (by omega) high (readBody_encoded wf head encoded) pass, step_idle pending ?_⟩
    exact (waitingRequest_of_body rfl).trans decoded
  · rcases request with ⟨rfl, rfl⟩ | ⟨g, small, rfl, rfl⟩
    · exact takeUrgent_accepted (request := silenceRequest) (fun _ => rfl) ignoresSlot_silenceRequest (fun _ => rfl) free
        (by decide) (by decide) made
    · have number : takeUrgent [0x4D, byte g] = tripRequest g := by
        funext t
        show tripRequest (byte g).toNat t = _
        rw [toNat_byte_of_lt small]
      exact takeUrgent_accepted (request := tripRequest g) (fun t => congrFun number t) (ignoresSlot_tripRequest g)
        (fun _ => rfl) free (by simp) (by simp) made

end Sys2Proof.Machine
end

section
/-! SUPPORT. Writes on the control link: the obligation O47. -/

namespace Sys2Proof.Machine

section
variable {s : State} {limit : Nat} {clocked body : List Byte}

/-- A write that fits has its length byte and exactly that many bytes after it. -/
theorem fits_of_written (h : written limit clocked = some body) :
    1 ≤ body.length ∧ body.length ≤ limit ∧ clocked = byte body.length :: body := by
  unfold written at h
  split at h
  · cases h
  next len rest =>
    split at h
    next whole =>
      cases h
      simp only [Bool.and_eq_true, decide_eq_true_eq] at whole
      obtain ⟨⟨low, high⟩, length⟩ := whole
      exact ⟨length ▸ low, length ▸ high, by rw [length, byte_toNat]⟩
    next => cases h

theorem written_none (h : ∀ body, ¬(1 ≤ body.length ∧ body.length ≤ limit ∧ clocked = byte body.length :: body)) :
    written limit clocked = none :=
  Option.eq_none_iff_forall_ne_some.mpr fun body whole => h body (fits_of_written whole)

/-- The slot is not free, or the write does not fit. -/
theorem slotWrite_none {free : Bool} (h : free = false ∨
    ∀ body, ¬(1 ≤ body.length ∧ body.length ≤ limit ∧ clocked = byte body.length :: body)) :
    (if free then written limit clocked else none) = none := by
  rcases h with full | bad
  · rw [full]
    rfl
  · rw [written_none bad, ite_self]

theorem exec_writeRequest_discarded (h : (if s.ctl.reqFree then written 64 clocked else none) = none) :
    exec (.writeRequest clocked) s = finish s (discardWrite (clockOut (statusByte s :: zeros clocked.length) s)) := by
  show execWriteRequest clocked s = _
  simp only [execWriteRequest, h]

theorem exec_writeUrgent_discarded (h : (if s.ctl.urgFree then written 8 clocked else none) = none) :
    exec (.writeUrgent clocked) s = finish s (discardWrite (clockOut (statusByte s :: zeros clocked.length) s)) := by
  show execWriteUrgent clocked s = _
  simp only [execWriteUrgent, h]

theorem exec_writeRequest_accepted (h : (if s.ctl.reqFree then written 64 clocked else none) = some body) :
    exec (.writeRequest clocked) s =
      finish s (decodeRequest body (clockOut (statusByte s :: zeros clocked.length) s)) := by
  show execWriteRequest clocked s = _
  simp only [execWriteRequest, h]

theorem exec_writeUrgent_accepted (h : (if s.ctl.urgFree then written 8 clocked else none) = some body) :
    exec (.writeUrgent clocked) s =
      finish s (urgentDone (takeUrgent body (acceptUrgent body (clockOut (statusByte s :: zeros clocked.length) s)))) := by
  show execWriteUrgent clocked s = _
  simp only [execWriteUrgent, h]

/-! ### The request decoder -/

variable {typ tag : Byte} {ps : List Byte} {i : Instr} {k : ReqKind} {code : Result}

theorem decodeRequest_pass (read : readBody .ctl body = some (k, i)) (pass : controlGate s k (codesOk i) = .pass) :
    decodeRequest body s = acceptRequest body true s := by
  simp only [decodeRequest, read, pass]

theorem decodeRequest_unknown (unknown : decodeBody .ctl body = none) : decodeRequest body s =
    useTag body (placeResponse (requestType body) (requestTag s body) .range [] (acceptRequest body false s)) := by
  have read : readBody .ctl body = none := by
    unfold readBody
    rw [unknown]
    split
    next h => cases h
    next => rfl
  simp only [decodeRequest, read]

theorem decodeRequest_refused (read : readBody .ctl body = some (k, i))
    (refused : controlGate s k (codesOk i) = .refuse code) : decodeRequest body s =
      useTag body (placeResponse (requestType body) (requestTag s body) code [] (acceptRequest body false s)) := by
  simp only [decodeRequest, read, refused]

theorem useTag_whole (u : State) : useTag (typ :: tag :: ps) u = u := if_neg (by simp)

theorem useTag_short (u : State) : useTag [typ] u = { u with free := u.free + 1 } := rfl

/-! ### Urgent requests -/

theorem code_of_ofCode? {b : Byte} (h : ReqKind.ofCode? b = some k) : b = k.code :=
  (eq_of_beq (List.find?_some (p := fun k : ReqKind => k.code == b) h)).symm

theorem decodeUrgent_unknown (silence : body ≠ [0x4C]) (trip : ∀ g, body ≠ [0x4D, g]) : decodeUrgent body = none := by
  unfold decodeUrgent
  split
  · rfl
  next typ ps =>
    split
    next known =>
      have first := code_of_ofCode? known
      subst first
      cases ps with
      | nil => exact absurd rfl silence
      | cons b ps => rfl
    next known =>
      have first := code_of_ofCode? known
      subst first
      cases ps with
      | nil => rfl
      | cons b ps =>
        cases ps with
        | nil => exact absurd rfl (trip b)
        | cons c ps => rfl
    next => rfl

theorem takeUrgent_unknown (silence : body ≠ [0x4C]) (trip : ∀ g, body ≠ [0x4D, g]) (u : State) :
    takeUrgent body u = (u, .range) := by
  unfold takeUrgent
  rw [decodeUrgent_unknown silence trip]

theorem reportsOnly_silenceRequest (s : State) : ReportsOnly s (silenceRequest s).1 := by
  unfold silenceRequest
  split
  · exact reportsOnly_silence s
  · exact .refl s

theorem reportsOnly_tripRequest (g : Nat) (s : State) : ReportsOnly s (tripRequest g s).1 := by
  unfold tripRequest
  split
  · split
    · split
      · exact .refl s
      · exact reportsOnly_trip _ s
      · exact reportsOnly_trip _ s
      · exact .refl s
      · exact ⟨rfl⟩
    · exact .refl s
  · exact .refl s

/-- A guard that is not disabled takes a trip. -/
theorem tripRequest_enabled {g : Gid} (ready : s.ctl.ready = true) (enabled : (s.guard g).state ≠ .disabled) :
    (tripRequest g.1 s).2 = .ok := by
  cases state : (s.guard g).state with
  | disabled => exact absurd state enabled
  | armed => rw [tripRequest_waiting ready (.inl state)]
  | debouncing n => rw [tripRequest_waiting ready (.inr ⟨n, state⟩)]
  | tripped r => rw [tripRequest_tripped ready state]
  | recovering n r => rw [tripRequest_recovering ready state]

/-- The end of an urgent request that changes the reports alone. -/
theorem ctl_urgentDone {request : State × UrgentResult} (only : ReportsOnly s request.1) :
    (urgentDone request).ctl = { s.ctl with
      urgent := none, urgFree := true, urgResult := request.2
      response := request.1.ctl.response, attention := request.1.ctl.attention } := by
  unfold urgentDone
  dsimp only
  rw [only.ctl]

/-- The control link as an accepted urgent request finds it. -/
def urgentClocked (clocked : List Byte) (s : State) : State :=
  { s with ctl := { s.ctl with out := statusByte s :: List.replicate clocked.length 0, discard := false } }

theorem urgent_taken {request : State → State × UrgentResult} (taken : ∀ t, takeUrgent body t = request t)
    (ignores : ∀ slot free t, request (withSlot slot free t) = (withSlot slot free (request t).1, (request t).2))
    (only : ∀ t, ReportsOnly t (request t).1)
    (accepted : (if s.ctl.urgFree then written 8 clocked else none) = some body) :
    ∃ t, exec (.writeUrgent clocked) s = .next t ∧ t.ctl = { (urgentClocked clocked s).ctl with
      urgent := none, urgFree := true, urgResult := (request (urgentClocked clocked s)).2
      response := t.ctl.response, attention := t.ctl.attention } := by
  have found : acceptUrgent body (clockOut (statusByte s :: zeros clocked.length) s) =
      withSlot (some body) false (urgentClocked clocked s) := rfl
  have run := exec_writeUrgent_accepted accepted
  rw [taken, found, ignores] at run
  refine ⟨_, run, ?_⟩
  have ctl := ctl_urgentDone (only (urgentClocked clocked s))
  generalize request (urgentClocked clocked s) = result at ctl ⊢
  rw [settle_ctl]
  exact ctl

end

/-- Settles O47. -/
theorem writesAreAcceptedOrDiscarded : Obligations.WritesAreAcceptedOrDiscarded := by
  refine ⟨fun s clocked v made fits fit => ⟨fun h => ?_, fun body free whole => ?_⟩,
    fun s clocked v made fits fit => ⟨fun h => ?_, fun body free whole => ?_⟩⟩
  · have none := slotWrite_none (h.imp id fun bad body => mt (fit body).mpr (bad body))
    rw [made]
    exact becomes_of_finish (exec_writeRequest_discarded none)
  · obtain ⟨low, high, shape⟩ := (fit body).mp whole
    have accepted : (if s.ctl.reqFree then written 64 clocked else none) = some body := by
      rw [free, shape, written_whole low high (by omega)]
      rfl
    have run := exec_writeRequest_accepted accepted
    rw [made]
    refine ⟨fun i k decoded kind pass => ?_, fun typ tag ps code body' refused => ?_, fun typ body' => ?_⟩
    · rw [decodeRequest_pass (readBody_some decoded kind) (by exact pass)] at run
      exact becomes_of_finish run
    · subst body'
      rcases refused with ⟨unknown, rfl⟩ | ⟨i, k, decoded, kind, refused⟩
      · rw [decodeRequest_unknown unknown, useTag_whole] at run
        exact becomes_of_finish run
      · rw [decodeRequest_refused (readBody_some decoded kind) (by exact refused), useTag_whole] at run
        exact becomes_of_finish run
    · subst body'
      rw [decodeRequest_unknown rfl, useTag_short] at run
      exact becomes_of_finish run
  · have none := slotWrite_none (h.imp id fun bad body => mt (fit body).mpr (bad body))
    rw [made]
    exact becomes_of_finish (exec_writeUrgent_discarded none)
  · obtain ⟨low, high, shape⟩ := (fit body).mp whole
    have accepted : (if s.ctl.urgFree then written 8 clocked else none) = some body := by
      rw [free, shape, written_whole low high (by omega)]
      rfl
    rw [made]
    refine ⟨fun known => ?_, fun silence trip => ?_⟩
    · rcases known with rfl | ⟨g, rfl⟩
      · obtain ⟨t, run, ctl⟩ := urgent_taken (request := silenceRequest) (fun _ => rfl) ignoresSlot_silenceRequest
          reportsOnly_silenceRequest accepted
        exact ⟨t, _, run, ctl, fun notReady => congrArg Prod.snd (if_neg (by simp [urgentClocked, notReady])),
          fun ready _ => congrArg Prod.snd (if_pos ready), fun g _ other => by cases other⟩
      · obtain ⟨t, run, ctl⟩ := urgent_taken (request := tripRequest g.toNat) (fun _ => rfl)
          (ignoresSlot_tripRequest g.toNat) (reportsOnly_tripRequest g.toNat) accepted
        refine ⟨t, _, run, ctl, fun notReady => ?_, fun _ other => ?_, fun h ready same => ?_⟩
        · rw [tripRequest_notReady (s := urgentClocked clocked s) notReady]
        · cases other
        · cases same
          refine ⟨fun outside => ?_, fun inside => ⟨fun disabled => ?_, fun enabled => ?_⟩⟩
          · rw [tripRequest_range (s := urgentClocked clocked s) ready outside]
          · rw [tripRequest_disabled (s := urgentClocked clocked s) (g := ⟨g.toNat, inside⟩) ready disabled]
          · exact tripRequest_enabled (s := urgentClocked clocked s) (g := ⟨g.toNat, inside⟩) ready enabled
    · have run := exec_writeUrgent_accepted accepted
      rw [takeUrgent_unknown silence trip] at run
      exact becomes_of_finish run

end Sys2Proof.Machine
end

section
/-! SUPPORT. Unstaging and the trip action: the obligation O31. -/

namespace Sys2Proof.Machine

/-! ### Salvo marks (R25) -/

theorem inSalvo_iff {e : Entry} {o : Origin} {tag : Byte} :
    e.inSalvo o tag = true ↔ ∃ m, e.mark = some m ∧ m.orig = o ∧ m.tag = tag := by
  unfold Entry.inSalvo
  cases e.mark with
  | none => simp
  | some m => simp

theorem inSalvo_of_mark {e : Entry} {m : Mark} (h : e.mark = some m) : e.inSalvo m.orig m.tag = true :=
  inSalvo_iff.mpr ⟨m, h, rfl, rfl⟩

/-- The entry with nothing staged. -/
def Entry.unstaged (e : Entry) : Entry := { e with staged := none }

theorem mark_unstaged (e : Entry) : e.unstaged.mark = none := rfl

theorem inSalvo_unstaged (e : Entry) (o : Origin) (tag : Byte) : e.unstaged.inSalvo o tag = false := rfl

/-- The salvo that marks destination `d` marks one of the list too. -/
def Touched (s : State) (l : List Dst) (d : Dst) : Prop :=
  ∃ m, (s.entry d).mark = some m ∧ ∃ e ∈ l, (s.entry e).inSalvo m.orig m.tag = true

section
variable {s : State} {d e : Dst} {m : Mark}

theorem unstageAt_unmarked (h : (s.entry d).mark = none) : unstageAt s d = s := by
  unfold unstageAt
  rw [h]

theorem unstageAt_marked (h : (s.entry d).mark = some m) : unstageAt s d = requeue (rebuild s m) (removeSalvo m s) := by
  unfold unstageAt
  rw [h]

theorem entry_requeue (x : PendingSalvo) (s : State) (d : Dst) : (requeue x s).entry d = s.entry d :=
  entry_congr (routes_requeue x s).1 d

theorem entry_unstageAt (h : (s.entry d).mark = some m) (e : Dst) : (unstageAt s d).entry e =
    if (s.entry e).inSalvo m.orig m.tag then (s.entry e).unstaged else s.entry e := by
  rw [unstageAt_marked h, entry_requeue, removeSalvo_entry]
  rfl

/-- A destination whose mark is of another salvo keeps its entry. -/
theorem entry_unstageAt_other (h : (s.entry d).mark = some m) {n : Mark} (other : (s.entry e).mark = some n)
    (apart : (s.entry d).inSalvo n.orig n.tag = false) : (unstageAt s d).entry e = s.entry e := by
  rw [entry_unstageAt h]
  refine if_neg fun shared => ?_
  obtain ⟨k, own, orig, tag⟩ := inSalvo_iff.mp shared
  rw [other] at own
  cases own
  rw [orig, tag, inSalvo_of_mark h] at apart
  cases apart

/-- Of a salvo other than the one removed every destination keeps its mark. -/
theorem inSalvo_unstageAt (h : (s.entry d).mark = some m) {o : Origin} {tag : Byte}
    (apart : (s.entry d).inSalvo o tag = false) (e : Dst) :
    ((unstageAt s d).entry e).inSalvo o tag = (s.entry e).inSalvo o tag := by
  rw [entry_unstageAt h]
  split
  next shared =>
    rw [inSalvo_unstaged]
    refine (Bool.eq_false_iff.mpr fun both => ?_).symm
    obtain ⟨k, mark, orig, tag⟩ := inSalvo_iff.mp shared
    obtain ⟨n, mark', orig', tag'⟩ := inSalvo_iff.mp both
    rw [mark] at mark'
    cases mark'
    rw [← orig', ← tag', orig, tag, inSalvo_of_mark h] at apart
    cases apart
  next => rfl

/-- Unstaging the salvos that touch some destinations removes each whole, and no other. -/
theorem entry_unstageAll (l : List Dst) (s : State) (d : Dst) :
    (Touched s l d → (l.foldl unstageAt s).entry d = (s.entry d).unstaged) ∧
      (¬Touched s l d → (l.foldl unstageAt s).entry d = s.entry d) := by
  induction l generalizing s with
  | nil => exact ⟨fun ⟨_, _, _, listed, _⟩ => absurd listed List.not_mem_nil, fun _ => rfl⟩
  | cons e l ih =>
    rw [List.foldl_cons]
    obtain ⟨touched, untouched⟩ := ih (unstageAt s e)
    cases mark : (s.entry e).mark with
    | none =>
      rw [unstageAt_unmarked mark] at touched untouched ⊢
      have same : Touched s (e :: l) d ↔ Touched s l d := by
        refine ⟨fun ⟨m, own, f, listed, shares⟩ => ?_, fun ⟨m, own, f, listed, shares⟩ =>
          ⟨m, own, f, List.mem_cons_of_mem _ listed, shares⟩⟩
        rcases List.mem_cons.mp listed with rfl | listed
        · rw [Entry.inSalvo, mark] at shares
          cases shares
        · exact ⟨m, own, f, listed, shares⟩
      rw [same]
      exact ⟨touched, untouched⟩
    | some k =>
      by_cases shares : (s.entry d).inSalvo k.orig k.tag = true
      · have now : (unstageAt s e).entry d = (s.entry d).unstaged := by rw [entry_unstageAt mark, if_pos shares]
        have gone : ¬Touched (unstageAt s e) l d := fun ⟨m, own, _⟩ => by
          rw [now] at own
          cases own
        refine ⟨fun _ => (untouched gone).trans now, fun outside => absurd ?_ outside⟩
        obtain ⟨m, own, orig, tag⟩ := inSalvo_iff.mp shares
        exact ⟨m, own, e, List.mem_cons_self, by rw [orig, tag]; exact inSalvo_of_mark mark⟩
      · have now : (unstageAt s e).entry d = s.entry d := by rw [entry_unstageAt mark, if_neg shares]
        have same : Touched s (e :: l) d ↔ Touched (unstageAt s e) l d := by
          have apart : ∀ m, (s.entry d).mark = some m → (s.entry e).inSalvo m.orig m.tag = false := by
            refine fun m own => Bool.eq_false_iff.mpr fun both => shares ?_
            obtain ⟨n, first, orig, tag⟩ := inSalvo_iff.mp both
            rw [mark] at first
            cases first
            rw [orig, tag]
            exact inSalvo_of_mark own
          unfold Touched
          rw [now]
          refine exists_congr fun m => and_congr_right fun own => ⟨fun ⟨f, listed, both⟩ => ?_, fun ⟨f, listed, both⟩ => ?_⟩
          · rcases List.mem_cons.mp listed with rfl | listed
            · rw [apart m own] at both
              cases both
            · exact ⟨f, listed, (inSalvo_unstageAt mark (apart m own) f).trans both⟩
          · exact ⟨f, List.mem_cons_of_mem _ listed, (inSalvo_unstageAt mark (apart m own) f).symm.trans both⟩
        rw [same, ← now]
        exact ⟨touched, untouched⟩

theorem touched_filter (s : State) (ds : List Dst) (d : Dst) :
    Touched s ((fins 48).filter fun e => ds.contains e) d ↔ Touched s ds d := by
  unfold Touched
  simp

theorem entry_unstageSalvos_touched {ds : List Dst} (h : Touched s ds d) :
    (unstageSalvos ds s).entry d = (s.entry d).unstaged :=
  (entry_unstageAll _ s d).1 ((touched_filter s ds d).mpr h)

theorem entry_unstageSalvos_untouched {ds : List Dst} (h : ¬Touched s ds d) :
    (unstageSalvos ds s).entry d = s.entry d :=
  (entry_unstageAll _ s d).2 (mt (touched_filter s ds d).mp h)

/-! ### The holds of a trip (R131) -/

theorem entry_holdPair (g : Gid) (s : State) (p : Dst × Src) (d : Dst) : (holdPair g s p).entry d =
    if p.1 = d then { s.entry d with hold := some g, staged := some (.guarded p.2 g) } else s.entry d := by
  rw [holdPair, stageOn, entry_markDirty, entry_setEntry]
  split
  next same => rw [← same, entry_setEntry_same]
  next other => rw [entry_setEntry_ne _ _ other]

theorem dirty_holdPair (g : Gid) (s : State) (p : Dst × Src) (d : Dst) : (holdPair g s p).take.dirty.at d =
    if p.1 = d then true else s.take.dirty.at d := Tab.at_put ..

theorem holdPairs_other (g : Gid) {ps : List (Dst × Src)} (other : d ∉ ps.map Prod.fst) (s : State) :
    (ps.foldl (holdPair g) s).entry d = s.entry d ∧ (ps.foldl (holdPair g) s).take.dirty.at d = s.take.dirty.at d := by
  induction ps generalizing s with
  | nil => exact ⟨rfl, rfl⟩
  | cons p ps ih =>
    rw [List.map_cons, List.mem_cons, not_or] at other
    obtain ⟨entry, dirty⟩ := ih other.2 (holdPair g s p)
    rw [List.foldl_cons, entry, dirty, entry_holdPair, dirty_holdPair, if_neg (Ne.symm other.1), if_neg (Ne.symm other.1)]
    exact ⟨rfl, rfl⟩

theorem holdPairs_at (g : Gid) {ps : List (Dst × Src)} (distinct : (ps.map Prod.fst).Nodup) {x : Src}
    (listed : (d, x) ∈ ps) (s : State) :
    (ps.foldl (holdPair g) s).entry d = { s.entry d with hold := some g, staged := some (.guarded x g) } ∧
      (ps.foldl (holdPair g) s).take.dirty.at d = true := by
  induction ps generalizing s with
  | nil => cases listed
  | cons p ps ih =>
    rw [List.map_cons, List.nodup_cons] at distinct
    rw [List.foldl_cons]
    rcases List.mem_cons.mp listed with rfl | listed
    · obtain ⟨entry, dirty⟩ := holdPairs_other g distinct.1 (holdPair g s (d, x))
      rw [entry, dirty, entry_holdPair, dirty_holdPair, if_pos rfl, if_pos rfl]
      exact ⟨rfl, rfl⟩
    · have other : p.1 ≠ d := fun same => distinct.1 (same ▸ List.mem_map_of_mem (f := Prod.fst) listed)
      have kept := ih distinct.2 listed (holdPair g s p)
      rwa [entry_holdPair, if_neg other] at kept

theorem holdPairs_frame (g : Gid) (ps : List (Dst × Src)) (s : State) : ps.foldl (holdPair g) s = { s with
    routes := (ps.foldl (holdPair g) s).routes
    take := { s.take with dirty := (ps.foldl (holdPair g) s).take.dirty } } := by
  induction ps generalizing s with
  | nil => rfl
  | cons p ps ih =>
    rw [List.foldl_cons]
    exact ih (holdPair g s p)

/-! ### The trip action (R130 to R132) -/

/-- The fallback destinations of a guard. -/
def fallbackDests (s : State) (g : Gid) : List Dst := (s.guard g).defn.fallback.map Prod.fst

/-- A trip after its salvos are unstaged and its destinations held. -/
def heldBack (g : Gid) (s : State) : State :=
  (s.guard g).defn.fallback.foldl (holdPair g) (unstageSalvos (fallbackDests s g) s)

/-- Unstaging leaves every current source. -/
theorem current_unstageSalvos (ds : List Dst) (s : State) (d : Dst) :
    ((unstageSalvos ds s).entry d).current = (s.entry d).current := by
  rw [(stagesOnly_unstageSalvos ds s).entry d]

theorem tripped_eq (g : Gid) (s : State) : tripped g s = (heldBack g s).setGuardState g
    (.tripped ((s.guard g).defn.fallback.map fun p => (s.entry p.1).current)) := by
  have returns : ((s.guard g).defn.fallback.map fun p => ((unstageSalvos (fallbackDests s g) s).entry p.1).current) =
      (s.guard g).defn.fallback.map fun p => (s.entry p.1).current :=
    List.map_congr_left fun p _ => current_unstageSalvos _ s p.1
  rw [← returns]
  rfl

theorem heldBack_frame (g : Gid) (s : State) : heldBack g s = { s with
    routes := (heldBack g s).routes, salvos := (heldBack g s).salvos, links := (heldBack g s).links
    take := { s.take with dirty := (heldBack g s).take.dirty } } := by
  have held := holdPairs_frame g (s.guard g).defn.fallback (unstageSalvos (fallbackDests s g) s)
  have unstaged := unstageSalvos_frame (fallbackDests s g) s
  unfold heldBack
  generalize unstageSalvos (fallbackDests s g) s = u at held unstaged ⊢
  obtain ⟨timing, defs, take, tally, talk, guards, lines, ctl, store, free, pending⟩ := unstaged
  rw [held, timing, defs, take, tally, talk, guards, lines, ctl, store, free, pending]

theorem entry_trip (g : Gid) (s : State) (d : Dst) : (trip g s).entry d = (heldBack g s).entry d := by
  rw [trip_eq, tripped_eq]
  rfl

theorem dirty_trip (g : Gid) (s : State) : (trip g s).take.dirty = (heldBack g s).take.dirty := by
  rw [trip_eq, tripped_eq]
  rfl

theorem trip_rest (g : Gid) (s : State) : trip g s = { s with
    routes := (trip g s).routes, salvos := (trip g s).salvos, take := { s.take with dirty := (trip g s).take.dirty }
    guards := (trip g s).guards, lines := { s.lines with recs := (trip g s).lines.recs }, links := (trip g s).links
    ctl := (trip g s).ctl } := by
  have back := heldBack_frame g s
  rw [trip_eq, tripped_eq]
  generalize heldBack g s = u at back ⊢
  rw [back]
  rfl

theorem ctl_trip (g : Gid) (s : State) : (trip g s).ctl =
    { s.ctl with attention := s.ctl.attention.put ⟨g.1, by omega⟩ true } := by
  have back := congrArg State.ctl (heldBack_frame g s)
  rw [trip_eq, tripped_eq]
  show ({ (heldBack g s).ctl with attention := (heldBack g s).ctl.attention.put _ true } : ControlLink) = _
  rw [back]
  rfl

theorem guard_tripped (g : Gid) (s : State) : (tripped g s).guard g =
    ⟨(s.guard g).defn, .tripped ((s.guard g).defn.fallback.map fun p => (s.entry p.1).current)⟩ := by
  have back : (heldBack g s).guard g = s.guard g := guard_congr (congrArg State.guards (heldBack_frame g s)) g
  rw [tripped_eq, guard_setGuardState_same, back]

theorem guard_tripped_ne {g h : Gid} (s : State) (other : h ≠ g) : (tripped g s).guard h = s.guard h := by
  have back : (heldBack g s).guard h = s.guard h := guard_congr (congrArg State.guards (heldBack_frame g s)) h
  rw [tripped_eq, guard_setGuardState_ne _ _ (Ne.symm other), back]

theorem line_trip (g : Gid) (s : State) (l : Lid) : (trip g s).line l = drivenLine (tripped g s) l := by
  rw [trip_eq]
  exact line_driveLines _ l

theorem line_tripped (g : Gid) (s : State) (l : Lid) : (tripped g s).line l = s.line l := by
  have back : (heldBack g s).line l = s.line l := by
    rw [heldBack_frame]
    rfl
  rw [tripped_eq]
  exact back

/-- A line the guard does not force is driven as before. -/
theorem drivenLine_tripped {g : Gid} {l : Lid} (own : (s.guard g).defn.action.at l = none) :
    drivenLine (tripped g s) l = drivenLine s l := by
  have forces : forced (tripped g s) l = forced s l := by
    unfold forced
    congr 1
    funext h
    by_cases same : h = g
    · rw [same, guard_tripped, own, ite_self, ite_self]
    · rw [guard_tripped_ne s same]
  have modes : modeValue (tripped g s) = modeValue s := by
    have tally : (tripped g s).tally = s.tally := (trip_frame g s).2.2.1
    have talk : (tripped g s).talk = s.talk := (trip_frame g s).2.2.2.1
    funext mode latch
    cases mode with
    | manual => rfl
    | tally x =>
      show redShown (tripped g s) x = redShown s x
      rw [Bool.eq_iff_iff, redShown_iff, redShown_iff]
      simp only [State.channel, tally]
    | talk y =>
      show partyHeard (tripped g s) y = partyHeard s y
      rw [Bool.eq_iff_iff, partyHeard_iff, partyHeard_iff]
      simp only [State.holdCount, talk]
  unfold drivenLine drivenValue
  rw [line_tripped, forces, modes]

end

/-- Settles O31. -/
theorem tripActionHoldsAndForces : Obligations.TripActionHoldsAndForces := by
  rintro s g f u rfl distinct rfl
  have own : (trip g s).guard g = _ := guard_tripped g s
  have others : ∀ h, h ≠ g → (trip g s).guard h = s.guard h := fun h other => guard_tripped_ne s other
  refine ⟨own, others, fun d x listed => ?held, fun d other => ⟨?dirty, fun apart => ?kept, fun m mark shared => ?gone⟩,
    fun l mode latch on v line action agree => ?_, fun l sample input => ?_, fun driven l action => ?_, ?_, ctl_trip g s,
    trip_rest g s⟩
  case held =>
    obtain ⟨entry, dirty⟩ := holdPairs_at g distinct listed (unstageSalvos (fallbackDests s g) s)
    rw [entry_trip, dirty_trip, heldBack, entry]
    refine ⟨?_, dirty⟩
    by_cases touched : Touched s (fallbackDests s g) d
    · rw [entry_unstageSalvos_touched touched]
      rfl
    · rw [entry_unstageSalvos_untouched touched]
  case dirty =>
    obtain ⟨-, dirty⟩ := holdPairs_other g other (unstageSalvos (fallbackDests s g) s)
    rw [dirty_trip, heldBack, dirty, (unstageSalvos_frame _ s).2.2.1]
  case kept =>
    obtain ⟨entry, -⟩ := holdPairs_other g other (unstageSalvos (fallbackDests s g) s)
    rw [entry_trip, heldBack, entry]
    refine entry_unstageSalvos_untouched fun ⟨m, mark, e, listed, shares⟩ => ?_
    rw [apart m mark e listed] at shares
    cases shares
  case gone =>
    obtain ⟨entry, -⟩ := holdPairs_other g other (unstageSalvos (fallbackDests s g) s)
    rw [entry_trip, heldBack, entry]
    exact entry_unstageSalvos_touched ⟨m, mark, shared⟩
  · rw [line_trip, drivenLine_output ((line_tripped g s l).trans line)]
    have held : ¬Unforced (tripped g s) l := fun free => by
      have none := free g (by rw [guard_tripped]; rfl)
      rw [guard_tripped, action] at none
      cases none
    rw [drivenValue_forced held fun h w holding acts => ?_]
    by_cases same : h = g
    · rw [same, guard_tripped, action] at acts
      exact (Option.some.inj acts).symm
    · rw [guard_tripped_ne s same] at holding acts
      exact agree h w same holding acts
  · rw [line_trip]
    exact drivenLine_input ((line_tripped g s l).trans input)
  · have before : drivenLine s l = s.line l := by rw [← line_driveLines, driven]
    rw [line_trip, drivenLine_tripped action, before]
  · rw [trip_rest]

end Sys2Proof.Machine
end

section
/-! SUPPORT. How unstaged salvos rejoin the queue: the obligation O32. -/

namespace Sys2Proof.Machine

/-! ### The queue and the links -/

/-- The two states have the same pending salvo queue and the same links. -/
structure SameQueues (s t : State) : Prop where
  salvos : s.salvos = t.salvos
  links : s.links = t.links

section
variable {s t : State}

theorem SameQueues.link (h : SameQueues s t) (p : Pnl) : s.link p = t.link p := by
  rw [State.link, State.link, h.links]

theorem SameQueues.place (h : SameQueues s t) (p : Pnl) (i : Item) : SameQueues (place p i s) (place p i t) := by
  refine ⟨h.salvos, ?_⟩
  show s.links.put p { s.link p with replies := (s.link p).replies ++ [i] } =
    t.links.put p { t.link p with replies := (t.link p).replies ++ [i] }
  rw [h.links, h.link]

theorem SameQueues.join (h : SameQueues s t) (x : PendingSalvo) : SameQueues (joinSalvos x s) (joinSalvos x t) :=
  ⟨congrArg (· ++ [x]) h.salvos, h.links⟩

theorem SameQueues.outcome (h : SameQueues s t) (o : Origin) (kind : OutcomeKind) (tag : Byte) (code : Result)
    (ended : Bool) (detail : Byte) :
    SameQueues (outcome o kind tag code ended detail s) (outcome o kind tag code ended detail t) := by
  cases o with
  | ctl => exact h
  | panel p =>
    simp only [Machine.outcome, h.link p]
    split
    · exact h.place p _
    · exact h

theorem SameQueues.requeue (h : SameQueues s t) (x : PendingSalvo) : SameQueues (requeue x s) (requeue x t) := by
  have full : salvosFull s = salvosFull t := by rw [salvosFull, salvosFull, h.salvos]
  unfold Machine.requeue
  simp only [full, h.link]
  split
  · split
    · split
      · exact h.outcome ..
      · exact (h.join x).outcome ..
    · exact h.outcome ..
    · exact h
    · exact h
  · split
    · exact h
    · exact h.join x

theorem SameQueues.requeues (h : SameQueues s t) (xs : List PendingSalvo) :
    SameQueues (xs.foldl (fun t x => Machine.requeue x t) s) (xs.foldl (fun t x => Machine.requeue x t) t) := by
  induction xs generalizing s t with
  | nil => exact h
  | cons x xs ih => exact ih (h.requeue x)

end

/-! ### The salvo a mark names -/

/-- What a destination adds to the pair with number `n` of the salvo of `m`. -/
def pairAt (s : State) (m : Mark) (n : Nat) (d : Dst) : Option (Dst × Src) :=
  match (s.entry d).staged with
  | some (.salvo x k) => if k.orig = m.orig && k.tag = m.tag && k.pair = n then some (d, x) else none
  | _ => none

theorem pairs_rebuild (s : State) (m : Mark) : (rebuild s m).pairs =
    (List.range 16).filterMap fun n => (fins 48).findSome? (pairAt s m n) := rfl

theorem pairAt_iff {s : State} {m : Mark} {n : Nat} {d : Dst} {p : Dst × Src} : pairAt s m n d = some p ↔
    ∃ x k, (s.entry d).staged = some (.salvo x k) ∧ k.orig = m.orig ∧ k.tag = m.tag ∧ k.pair = n ∧ p = (d, x) := by
  unfold pairAt
  split
  next x k staged =>
    rw [staged]
    simp only [Bool.and_eq_true, decide_eq_true_eq, Option.ite_none_right_eq_some, Option.some.injEq, Staged.salvo.injEq]
    constructor
    · rintro ⟨⟨⟨orig, tag⟩, pair⟩, rfl⟩
      exact ⟨x, k, ⟨rfl, rfl⟩, orig, tag, pair, rfl⟩
    · rintro ⟨_, _, ⟨rfl, rfl⟩, orig, tag, pair, rfl⟩
      exact ⟨⟨⟨orig, tag⟩, pair⟩, rfl⟩
  next other =>
    refine ⟨nofun, ?_⟩
    rintro ⟨x, k, staged, -⟩
    exact absurd staged (other x k)

theorem mark_of_staged {e : Entry} {x : Src} {k : Mark} (h : e.staged = some (.salvo x k)) : e.mark = some k := by
  rw [Entry.mark, h]
  rfl

theorem staged_of_mark {e : Entry} {k : Mark} (h : e.mark = some k) : ∃ x, e.staged = some (.salvo x k) := by
  unfold Entry.mark at h
  cases staged : e.staged with
  | none => rw [staged] at h; cases h
  | some x =>
    rw [staged] at h
    cases x with
    | salvo y m => cases h; exact ⟨y, rfl⟩
    | routed => cases h
    | guarded => cases h

/-- A salvo is rebuilt from its own destinations. -/
theorem rebuild_congr {s t : State} {m : Mark} (same : ∀ d, (t.entry d).inSalvo m.orig m.tag = (s.entry d).inSalvo m.orig m.tag)
    (kept : ∀ d, (s.entry d).inSalvo m.orig m.tag = true → t.entry d = s.entry d) : rebuild t m = rebuild s m := by
  have pairs : ∀ n d, pairAt t m n d = pairAt s m n d := by
    intro n d
    by_cases own : (s.entry d).inSalvo m.orig m.tag = true
    · unfold pairAt
      rw [kept d own]
    · have none : ∀ u : State, ¬(u.entry d).inSalvo m.orig m.tag = true → pairAt u m n d = none := fun u out => by
        by_contra some
        obtain ⟨p, pair⟩ := Option.ne_none_iff_exists'.mp some
        obtain ⟨x, k, staged, orig, tag, -⟩ := pairAt_iff.mp pair
        exact out (inSalvo_iff.mpr ⟨k, mark_of_staged staged, orig, tag⟩)
      rw [none s own, none t (by rwa [same])]
  have lists : (rebuild t m).pairs = (rebuild s m).pairs := by
    rw [pairs_rebuild, pairs_rebuild]
    simp only [funext (pairs _)]
  exact congrArg (fun ps => (⟨m.orig, m.tag, ps, m.isRecall⟩ : PendingSalvo)) lists

/-! ### The order of the unstaging (R130) -/

/-- The list holds, in ascending order, each destination of `l` that is the lowest of `l` its salvo marks. -/
structure Leaders (s : State) (l ls : List Dst) : Prop where
  ordered : ls.Pairwise (· < ·)
  mem : ∀ d, d ∈ ls ↔ (d ∈ l ∧ ∃ m, (s.entry d).mark = some m ∧
    ∀ e ∈ l, (s.entry e).inSalvo m.orig m.tag = true → d ≤ e)

section
variable {s : State} {e : Dst} {l ls : List Dst}

/-- A destination with no mark leads nothing. -/
theorem Leaders.skip (h : Leaders s (e :: l) ls) (unmarked : (s.entry e).mark = none) : Leaders s l ls := by
  refine ⟨h.ordered, fun d => (h.mem d).trans ⟨fun ⟨listed, m, mark, lowest⟩ => ?_, fun ⟨listed, m, mark, lowest⟩ => ?_⟩⟩
  · rcases List.mem_cons.mp listed with rfl | listed
    · rw [unmarked] at mark
      cases mark
    · exact ⟨listed, m, mark, fun f inside => lowest f (List.mem_cons_of_mem _ inside)⟩
  · refine ⟨List.mem_cons_of_mem _ listed, m, mark, fun f inside shares => ?_⟩
    rcases List.mem_cons.mp inside with rfl | inside
    · rw [Entry.inSalvo, unmarked] at shares
      cases shares
    · exact lowest f inside shares

/-- The lowest destination of the list, if it is marked, is the first leader; the others lead what its salvo's removal
leaves. -/
theorem Leaders.first (h : Leaders s (e :: l) ls) (sorted : (e :: l).Pairwise (· < ·)) {k : Mark}
    (mark : (s.entry e).mark = some k) : ∃ rest, ls = e :: rest ∧ Leaders (unstageAt s e) l rest ∧
      ∀ d ∈ rest, ∃ m, (s.entry d).mark = some m ∧ (s.entry e).inSalvo m.orig m.tag = false := by
  obtain ⟨least, sorted⟩ := List.pairwise_cons.mp sorted
  have listed : e ∈ ls := (h.mem e).mpr ⟨List.mem_cons_self, k, mark, fun f inside _ => by
    rcases List.mem_cons.mp inside with rfl | inside
    · exact le_refl _
    · exact (least f inside).le⟩
  have bound : ∀ d ∈ ls, e ≤ d := fun d listed => by
    rcases List.mem_cons.mp ((h.mem d).mp listed).1 with rfl | inside
    · exact le_refl _
    · exact (least d inside).le
  cases ls with
  | nil => cases listed
  | cons f rest =>
    obtain ⟨above, ordered⟩ := List.pairwise_cons.mp h.ordered
    have same : f = e := by
      rcases List.mem_cons.mp listed with same | later
      · exact same.symm
      · exact absurd (above e later) (not_lt.mpr (bound f List.mem_cons_self))
    subst same
    have apart : ∀ d, d ∈ rest ↔ (d ∈ l ∧ ∃ m, (s.entry d).mark = some m ∧ (s.entry f).inSalvo m.orig m.tag = false ∧
        ∀ e ∈ l, (s.entry e).inSalvo m.orig m.tag = true → d ≤ e) := by
      intro d
      constructor
      · intro later
        obtain ⟨inside, m, own, lowest⟩ := (h.mem d).mp (List.mem_cons_of_mem _ later)
        have after := above d later
        refine ⟨(List.mem_cons.mp inside).resolve_left after.ne', m, own, Bool.eq_false_iff.mpr fun shares => ?_,
          fun e inside => lowest e (List.mem_cons_of_mem _ inside)⟩
        exact absurd (lowest f List.mem_cons_self shares) (not_le.mpr after)
      · rintro ⟨inside, m, own, shares, lowest⟩
        have leads : d ∈ f :: rest := (h.mem d).mpr ⟨List.mem_cons_of_mem _ inside, m, own, fun e inside both => by
          rcases List.mem_cons.mp inside with rfl | inside
          · rw [shares] at both
            cases both
          · exact lowest e inside both⟩
        exact (List.mem_cons.mp leads).resolve_left (least d inside).ne'
    refine ⟨rest, rfl, ⟨ordered, fun d => (apart d).trans (and_congr_right fun _ => ?_)⟩, fun d later => ?_⟩
    · constructor
      · rintro ⟨m, own, shares, lowest⟩
        refine ⟨m, by rw [entry_unstageAt_other mark own shares, own], fun e inside both => lowest e inside ?_⟩
        rwa [inSalvo_unstageAt mark shares] at both
      · rintro ⟨m, own, lowest⟩
        have kept : (unstageAt s f).entry d = s.entry d := by
          rw [entry_unstageAt mark] at own ⊢
          split at own
          · cases own
          next out => exact if_neg out
        rw [kept] at own
        have shares : (s.entry f).inSalvo m.orig m.tag = false := by
          refine Bool.eq_false_iff.mpr fun both => ?_
          obtain ⟨n, first, orig, tag⟩ := inSalvo_iff.mp both
          rw [mark] at first
          cases first
          have gone := entry_unstageAt mark d
          rw [if_pos (by rw [orig, tag]; exact inSalvo_of_mark own), kept] at gone
          rw [gone] at own
          cases own
        exact ⟨m, own, shares, fun e inside both => lowest e inside (by rwa [inSalvo_unstageAt mark shares])⟩
    · obtain ⟨-, m, own, shares, -⟩ := (apart d).mp later
      exact ⟨m, own, shares⟩

/-- Unstaging along an ascending list requeues what its leaders name, each as it stood at first. -/
theorem sameQueues_unstageAll (sorted : l.Pairwise (· < ·)) (h : Leaders s l ls) : SameQueues (l.foldl unstageAt s)
    ((ls.filterMap fun d => (s.entry d).mark.map (rebuild s)).foldl (fun t x => requeue x t) s) := by
  induction l generalizing s ls with
  | nil =>
    have none : ls = [] := List.eq_nil_iff_forall_not_mem.mpr fun d listed => by
      cases ((h.mem d).mp listed).1
    subst none
    exact ⟨rfl, rfl⟩
  | cons e l ih =>
    rw [List.foldl_cons]
    cases mark : (s.entry e).mark with
    | none =>
      rw [unstageAt_unmarked mark]
      exact ih (List.pairwise_cons.mp sorted).2 (h.skip mark)
    | some k =>
      obtain ⟨rest, rfl, later, apart⟩ := h.first sorted mark
      have same : (rest.filterMap fun d => (s.entry d).mark.map (rebuild s)) =
          rest.filterMap fun d => ((unstageAt s e).entry d).mark.map (rebuild (unstageAt s e)) := by
        refine List.filterMap_congr fun d listed => ?_
        obtain ⟨m, own, shares⟩ := apart d listed
        have built : rebuild (unstageAt s e) m = rebuild s m :=
          rebuild_congr (inSalvo_unstageAt mark shares) fun f both => by
            obtain ⟨n, other, orig, tag⟩ := inSalvo_iff.mp both
            exact entry_unstageAt_other mark other (by rw [orig, tag]; exact shares)
        rw [entry_unstageAt_other mark own shares, own, Option.map_some, Option.map_some, built]
      have first : SameQueues (unstageAt s e) (requeue (rebuild s k) s) := by
        rw [unstageAt_marked mark]
        exact (⟨rfl, rfl⟩ : SameQueues (removeSalvo k s) s).requeue _
      have step := ih (List.pairwise_cons.mp sorted).2 later
      have moved := first.requeues (rest.filterMap fun d => (s.entry d).mark.map (rebuild s))
      rw [List.filterMap_cons, mark]
      rw [← same] at step
      exact ⟨step.salvos.trans moved.salvos, step.links.trans moved.links⟩

end

/-- The queue and the links after a trip are those its unstaging leaves. -/
theorem sameQueues_trip (g : Gid) (s : State) : SameQueues (trip g s) (unstageSalvos (fallbackDests s g) s) := by
  have held := holdPairs_frame g (s.guard g).defn.fallback (unstageSalvos (fallbackDests s g) s)
  have back : SameQueues (heldBack g s) (unstageSalvos (fallbackDests s g) s) := by
    unfold heldBack
    rw [held]
    exact ⟨rfl, rfl⟩
  rw [trip_eq, tripped_eq]
  exact ⟨back.salvos, back.links⟩

/-! ### A salvo rebuilt (R30) -/

/-- Salvo marks are numbered below 16, and no two destinations carry the same pair of a salvo (R25). -/
structure MarksLawful (s : State) : Prop where
  small : ∀ d m, (s.entry d).mark = some m → m.pair < 16
  unique : ∀ d e m n, (s.entry d).mark = some m → (s.entry e).mark = some n →
    m.orig = n.orig → m.tag = n.tag → m.pair = n.pair → d = e

theorem mem_rebuild {s : State} (h : MarksLawful s) (m : Mark) (d : Dst) (y : Src) : (d, y) ∈ (rebuild s m).pairs ↔
    ∃ k, (s.entry d).staged = some (.salvo y k) ∧ k.orig = m.orig ∧ k.tag = m.tag := by
  obtain ⟨small, unique⟩ := h
  rw [pairs_rebuild, List.mem_filterMap]
  constructor
  · rintro ⟨n, -, found⟩
    obtain ⟨e, -, at_⟩ := List.exists_of_findSome?_eq_some found
    obtain ⟨x, k, staged, orig, tag, -, same⟩ := pairAt_iff.mp at_
    cases same
    exact ⟨k, staged, orig, tag⟩
  · rintro ⟨k, staged, orig, tag⟩
    refine ⟨k.pair, List.mem_range.mpr (small d k (mark_of_staged staged)),
      findSome_fins (i := d) (pairAt_iff.mpr ⟨y, k, staged, orig, tag, rfl, rfl⟩) fun e before => ?_⟩
    by_contra some
    obtain ⟨p, pair⟩ := Option.ne_none_iff_exists'.mp some
    obtain ⟨x, n, other, orig', tag', same, -⟩ := pairAt_iff.mp pair
    exact before.ne (unique e d n k (mark_of_staged other) (mark_of_staged staged) (orig'.trans orig.symm)
      (tag'.trans tag.symm) same)

theorem pairwise_rebuild (s : State) (m : Mark) : (rebuild s m).pairs.Pairwise fun p q =>
    ∀ k n, (s.entry p.1).mark = some k → (s.entry q.1).mark = some n → k.pair < n.pair := by
  rw [pairs_rebuild, List.pairwise_filterMap]
  refine List.pairwise_lt_range.imp fun {i j} before p first q second k n own other => ?_
  obtain ⟨d, -, at_⟩ := List.exists_of_findSome?_eq_some first
  obtain ⟨e, -, at'⟩ := List.exists_of_findSome?_eq_some second
  obtain ⟨x, k', staged, -, -, rfl, rfl⟩ := pairAt_iff.mp at_
  obtain ⟨y, n', staged', -, -, rfl, rfl⟩ := pairAt_iff.mp at'
  rw [mark_of_staged staged] at own
  rw [mark_of_staged staged'] at other
  cases own
  cases other
  exact before

theorem filterMap_range_getElem? {α : Type} (l : List α) {n : Nat} (fits : l.length ≤ n) :
    (List.range n).filterMap (fun i => l[i]?) = l := by
  induction l generalizing n with
  | nil => simp
  | cons a l ih =>
    cases n with
    | zero => cases fits
    | succ n =>
      rw [List.range_succ_eq_map, List.filterMap_cons, List.filterMap_map]
      exact congrArg (a :: ·) (ih (Nat.le_of_succ_le_succ fits))

section
variable {s : State} {o : Origin} {tag : Byte} {r : Bool} {ps : List (Dst × Src)}

/-- What a destination adds to the salvo just staged. -/
theorem pairAt_stageSalvo (distinct : (ps.map Prod.fst).Nodup) (none : ∀ d, (s.entry d).inSalvo o tag = false) (i n : Nat)
    (d : Dst) (p : Dst × Src) : pairAt (stageSalvo o tag r ps s) ⟨o, tag, i, r⟩ n d = some p ↔ ps[n]? = some p ∧ p.1 = d := by
  rw [pairAt_iff, List.getElem?_eq_some_iff]
  by_cases listed : d ∈ ps.map Prod.fst
  · obtain ⟨q, inside, rfl⟩ := List.mem_map.mp listed
    obtain ⟨j, bound, rfl⟩ := List.getElem_of_mem inside
    have staged := (stageSalvo_at o tag r ps distinct s j bound).1
    constructor
    · rintro ⟨x, k, own, -, -, rfl, rfl⟩
      rw [staged] at own
      cases own
      exact ⟨⟨bound, rfl⟩, rfl⟩
    · rintro ⟨⟨bound', rfl⟩, same⟩
      have index : n = j := (distinct.getElem_inj_iff (hi := by rwa [List.length_map]) (hj := by rwa [List.length_map])).mp
        (by simpa using same)
      subst index
      exact ⟨ps[n].2, ⟨o, tag, n, r⟩, by rw [staged], rfl, rfl, rfl, rfl⟩
  · constructor
    · rintro ⟨x, k, own, orig, tag', -⟩
      rw [(stageSalvo_other o tag r ps s d listed).1] at own
      have inside := inSalvo_iff.mpr ⟨k, mark_of_staged own, orig, tag'⟩
      rw [none d] at inside
      cases inside
    · rintro ⟨⟨bound, rfl⟩, rfl⟩
      exact absurd (List.mem_map_of_mem (List.getElem_mem bound)) listed

theorem rebuild_stageSalvo (distinct : (ps.map Prod.fst).Nodup) (short : ps.length ≤ 16)
    (none : ∀ d, (s.entry d).inSalvo o tag = false) (i : Nat) :
    rebuild (stageSalvo o tag r ps s) ⟨o, tag, i, r⟩ = ⟨o, tag, ps, r⟩ := by
  have pair : ∀ n, (fins 48).findSome? (pairAt (stageSalvo o tag r ps s) ⟨o, tag, i, r⟩ n) = ps[n]? := by
    intro n
    cases found : ps[n]? with
    | none =>
      refine List.findSome?_eq_none_iff.mpr fun d _ => ?_
      by_contra some
      obtain ⟨p, pair⟩ := Option.ne_none_iff_exists'.mp some
      rw [pairAt_stageSalvo distinct none, found] at pair
      cases pair.1
    | some p =>
      refine findSome_fins (i := p.1) ((pairAt_stageSalvo distinct none ..).mpr ⟨found, rfl⟩) fun e before => ?_
      by_contra some
      obtain ⟨q, pair⟩ := Option.ne_none_iff_exists'.mp some
      obtain ⟨same, rfl⟩ := (pairAt_stageSalvo distinct none ..).mp pair
      rw [found] at same
      cases same
      exact lt_irrefl _ before
  have lists : (rebuild (stageSalvo o tag r ps s) ⟨o, tag, i, r⟩).pairs = ps := by
    rw [pairs_rebuild]
    simp only [funext pair]
    exact filterMap_range_getElem? ps short
  exact congrArg (fun qs => (⟨o, tag, qs, r⟩ : PendingSalvo)) lists

theorem removeSalvo_stageSalvo (distinct : (ps.map Prod.fst).Nodup) (apart : ∀ d, (s.entry d).inSalvo o tag = false)
    (i : Nat) (d : Dst) : (removeSalvo ⟨o, tag, i, r⟩ (stageSalvo o tag r ps s)).entry d =
      if d ∈ ps.map Prod.fst then { s.entry d with staged := none } else s.entry d := by
  rw [removeSalvo_entry]
  by_cases listed : d ∈ ps.map Prod.fst
  · rw [if_pos listed]
    obtain ⟨q, inside, rfl⟩ := List.mem_map.mp listed
    obtain ⟨j, bound, rfl⟩ := List.getElem_of_mem inside
    rw [(stageSalvo_at o tag r ps distinct s j bound).1]
    exact if_pos (inSalvo_iff.mpr ⟨⟨o, tag, j, r⟩, rfl, rfl, rfl⟩)
  · rw [if_neg listed, (stageSalvo_other o tag r ps s d listed).1]
    exact if_neg (by rw [apart d]; decide)

end

/-! ### Where an unstaged salvo goes (R30) -/

section
variable {s : State} {x : PendingSalvo}

theorem salvosFull_of_lt (room : s.salvos.length < 4) : salvosFull s = false :=
  Bool.eq_false_iff.mpr fun full => absurd (salvosFull_iff s |>.mp full) (not_le.mpr room)

theorem requeue_ctl_room (ctl : x.orig = .ctl) (room : s.salvos.length < 4) : requeue x s = joinSalvos x s := by
  simp only [requeue, ctl, salvosFull_of_lt room, Bool.false_eq_true, if_false]

theorem requeue_ctl_full (ctl : x.orig = .ctl) (full : 4 ≤ s.salvos.length) : requeue x s = s := by
  simp only [requeue, ctl, (salvosFull_iff s).mpr full, if_true]

variable {p : Pnl}

theorem outcome_session (session : (s.link p).state.session = true) (kind : OutcomeKind) (tag : Byte) (code : Result)
    (ended : Bool) (detail : Byte) : outcome (.panel p) kind tag code ended detail s =
      place p (.outcome kind tag code ended detail) s := if_pos session

theorem requeue_up_room (own : x.orig = .panel p) (up : (s.link p).state = .up) (room : s.salvos.length < 4) :
    requeue x s = place p (.outcome (salvoKind x.isRecall) x.tag .queued false 255) (joinSalvos x s) := by
  simp only [requeue, own, up, salvosFull_of_lt room, Bool.false_eq_true, if_false]
  exact outcome_session (s := joinSalvos x s) (by rw [show (joinSalvos x s).link p = s.link p from rfl, up]; rfl) ..

theorem requeue_up_full (own : x.orig = .panel p) (up : (s.link p).state = .up) (full : 4 ≤ s.salvos.length) :
    requeue x s = place p (.outcome (salvoKind x.isRecall) x.tag .dropped true 255) s := by
  simp only [requeue, own, up, (salvosFull_iff s).mpr full, if_true]
  exact outcome_session (by rw [up]; rfl) ..

theorem requeue_quiescing (own : x.orig = .panel p) (closing : (s.link p).state = .quiescing) :
    requeue x s = place p (.outcome (salvoKind x.isRecall) x.tag .dropped true 255) s := by
  simp only [requeue, own, closing]
  exact outcome_session (by rw [closing]; rfl) ..

theorem requeue_ended (own : x.orig = .panel p) (ended : (s.link p).state.session = false) : requeue x s = s := by
  cases state : (s.link p).state with
  | up => rw [state] at ended; cases ended
  | quiescing => rw [state] at ended; cases ended
  | down => simp only [requeue, own, state]
  | quiesced => simp only [requeue, own, state]

end

/-- Settles O32. -/
theorem unstagedSalvosRejoinTheQueue : Obligations.UnstagedSalvosRejoinTheQueue := by
  refine ⟨?order, fun s m lawful x built => ?rebuilt, ?staged, fun _ _ _ => rfl, ?panel, ?ctl⟩
  case order =>
    rintro s g fb v rfl ls ordered leads rfl
    have leaders : Leaders s ((fins 48).filter fun d => (fallbackDests s g).contains d) ls :=
      ⟨ordered, fun d => (leads d).trans (by simp [fallbackDests])⟩
    have queues := sameQueues_unstageAll (pairwise_fins 48 |>.filter _) leaders
    have same := sameQueues_trip g s
    exact ⟨same.salvos.trans queues.salvos, fun p => (same.link p).trans (queues.link p)⟩
  case rebuilt =>
    subst built
    exact ⟨rfl, rfl, rfl, mem_rebuild ⟨lawful.1, lawful.2.1⟩ m, pairwise_rebuild s m⟩
  case staged =>
    rintro s o tag r ps distinct short apart u rfl i
    exact ⟨rebuild_stageSalvo distinct short apart i, removeSalvo_stageSalvo distinct apart i⟩
  case panel =>
    rintro s x p own kind rfl
    exact ⟨requeue_up_room own, requeue_up_full own, requeue_quiescing own, requeue_ended own⟩
  case ctl => exact fun s x own => ⟨requeue_ctl_room own, requeue_ctl_full own⟩

end Sys2Proof.Machine
end

section
/-! SUPPORT. The restore action and the examination of the queue: the obligation O34. -/

namespace Sys2Proof.Machine

/-! ### Returns staged and holds ended (R136) -/

section
variable {s : State} {d : Dst} {g : Gid}

theorem entry_stageOn (d : Dst) (x : Staged) (s : State) (e : Dst) :
    (stageOn d x s).entry e = if d = e then { s.entry e with staged := some x } else s.entry e := by
  rw [stageOn, entry_markDirty, entry_setEntry]
  split
  next same => rw [same]
  next => rfl

theorem dirty_stageOn (d : Dst) (x : Staged) (s : State) (e : Dst) :
    (stageOn d x s).take.dirty.at e = if d = e then true else s.take.dirty.at e := Tab.at_put ..

/-- The returns of a restore, one after another. -/
def stagePairsBack (g : Gid) (ps : List (Dst × Src)) (s : State) : State :=
  ps.foldl (fun t p => stageOn p.1 (.guarded p.2 g) t) s

theorem stageReturns_eq (g : Gid) (ds : List Dst) (r : List Src) (s : State) :
    stageReturns g ds r s = stagePairsBack g (ds.zip r) s := rfl

theorem stagePairsBack_cons (p : Dst × Src) (ps : List (Dst × Src)) :
    stagePairsBack g (p :: ps) s = stagePairsBack g ps (stageOn p.1 (.guarded p.2 g) s) := rfl

theorem stagePairsBack_other {ps : List (Dst × Src)} (other : d ∉ ps.map Prod.fst) :
    (stagePairsBack g ps s).entry d = s.entry d ∧ (stagePairsBack g ps s).take.dirty.at d = s.take.dirty.at d := by
  induction ps generalizing s with
  | nil => exact ⟨rfl, rfl⟩
  | cons p ps ih =>
    rw [List.map_cons, List.mem_cons, not_or] at other
    obtain ⟨entry, dirty⟩ := ih (s := stageOn p.1 (.guarded p.2 g) s) other.2
    rw [stagePairsBack_cons, entry, dirty, entry_stageOn, dirty_stageOn, if_neg (Ne.symm other.1), if_neg (Ne.symm other.1)]
    exact ⟨rfl, rfl⟩

theorem stagePairsBack_at {ps : List (Dst × Src)} (distinct : (ps.map Prod.fst).Nodup) {x : Src} (listed : (d, x) ∈ ps) :
    (stagePairsBack g ps s).entry d = { s.entry d with staged := some (.guarded x g) } ∧
      (stagePairsBack g ps s).take.dirty.at d = true := by
  induction ps generalizing s with
  | nil => cases listed
  | cons p ps ih =>
    rw [List.map_cons, List.nodup_cons] at distinct
    rw [stagePairsBack_cons]
    rcases List.mem_cons.mp listed with rfl | listed
    · obtain ⟨entry, dirty⟩ := stagePairsBack_other (s := stageOn d (.guarded x g) s) (g := g) distinct.1
      rw [entry, dirty, entry_stageOn, dirty_stageOn, if_pos rfl, if_pos rfl]
      exact ⟨rfl, rfl⟩
    · have other : p.1 ≠ d := fun same => distinct.1 (same ▸ List.mem_map_of_mem (f := Prod.fst) listed)
      have kept := ih (s := stageOn p.1 (.guarded p.2 g) s) distinct.2 listed
      rwa [entry_stageOn, if_neg other] at kept

theorem stagePairsBack_frame (g : Gid) (ps : List (Dst × Src)) (s : State) : stagePairsBack g ps s = { s with
    routes := (stagePairsBack g ps s).routes
    take := { s.take with dirty := (stagePairsBack g ps s).take.dirty } } := by
  induction ps generalizing s with
  | nil => rfl
  | cons p ps ih =>
    rw [stagePairsBack_cons]
    exact ih (stageOn p.1 (.guarded p.2 g) s)

theorem entry_endHolds (ds : List Dst) (s : State) (d : Dst) :
    (endHolds ds s).entry d = if d ∈ ds then { s.entry d with hold := none } else s.entry d := by
  induction ds generalizing s with
  | nil => rfl
  | cons e ds ih =>
    have step : endHolds (e :: ds) s = endHolds ds (s.setEntry e { s.entry e with hold := none }) := rfl
    rw [step, ih, entry_setEntry]
    by_cases same : e = d
    · subst same
      rw [if_pos rfl, if_pos List.mem_cons_self, ite_self]
    · rw [if_neg same]
      simp only [List.mem_cons, Ne.symm same, false_or]

theorem endHolds_rest (ds : List Dst) (s : State) :
    endHolds ds s = { s with routes := (endHolds ds s).routes } := by
  induction ds generalizing s with
  | nil => rfl
  | cons e ds ih => exact ih (s.setEntry e { s.entry e with hold := none })

/-- A restore before the queue is examined. -/
def letGo (g : Gid) (r : List Src) (s : State) : State :=
  (endHolds (fallbackDests s g) (stageReturns g (fallbackDests s g) r s)).setGuardState g .armed

theorem restored_eq (g : Gid) (r : List Src) (s : State) : restored g r s = examineQueue (letGo g r s) := rfl

theorem entry_letGo (g : Gid) (r : List Src) (s : State) (d : Dst) : (letGo g r s).entry d =
    (endHolds (fallbackDests s g) (stageReturns g (fallbackDests s g) r s)).entry d := rfl

theorem dirty_letGo (g : Gid) (r : List Src) (s : State) :
    (letGo g r s).take = (stageReturns g (fallbackDests s g) r s).take := by
  show (endHolds (fallbackDests s g) (stageReturns g (fallbackDests s g) r s)).take = _
  rw [endHolds_rest]

theorem letGo_rest (g : Gid) (r : List Src) (s : State) : letGo g r s = { s with
    routes := (letGo g r s).routes, guards := (letGo g r s).guards
    take := { s.take with dirty := (letGo g r s).take.dirty } } := by
  have staged := stagePairsBack_frame g ((fallbackDests s g).zip r) s
  have ended := endHolds_rest (fallbackDests s g) (stagePairsBack g ((fallbackDests s g).zip r) s)
  unfold letGo
  rw [stageReturns_eq]
  generalize endHolds (fallbackDests s g) (stagePairsBack g ((fallbackDests s g).zip r) s) = u at ended ⊢
  rw [ended, staged]
  rfl

theorem guard_letGo (g : Gid) (r : List Src) (s : State) (h : Gid) : (letGo g r s).guard h =
    if h = g then ⟨(s.guard g).defn, .armed⟩ else s.guard h := by
  have kept : ∀ h, (endHolds (fallbackDests s g) (stageReturns g (fallbackDests s g) r s)).guard h = s.guard h := by
    intro h
    rw [endHolds_rest, stageReturns_eq, stagePairsBack_frame]
    rfl
  unfold letGo
  split
  next same => rw [same, guard_setGuardState_same, kept]
  next other => rw [guard_setGuardState_ne _ _ (Ne.symm other), kept]

end

/-! ### The examination (R31) -/

section
variable {s : State} {x : PendingSalvo} {rest : List PendingSalvo}

theorem examine_held (held : anyHeld s x.pairs = true) :
    examine (x :: rest) s = ((examine rest s).1, x :: (examine rest s).2) := by
  rw [examine, if_pos held]

theorem examine_locked (free : anyHeld s x.pairs = false) {i : Nat} (locked : firstLocked s x.orig x.pairs = some i) :
    examine (x :: rest) s =
      examine rest (outcome x.orig (salvoKind x.isRecall) x.tag .locked true (byte i) s) := by
  rw [examine, if_neg (by simp [free]), locked]

theorem examine_marked (free : anyHeld s x.pairs = false) (unlocked : firstLocked s x.orig x.pairs = none)
    (marked : anyMarked s x.pairs = true) : examine (x :: rest) s =
      examine rest (outcome x.orig (salvoKind x.isRecall) x.tag .staged true 255 s) := by
  rw [examine, if_neg (by simp [free]), unlocked]
  exact if_pos marked

theorem examine_stages (free : anyHeld s x.pairs = false) (unlocked : firstLocked s x.orig x.pairs = none)
    (unmarked : anyMarked s x.pairs = false) : examine (x :: rest) s =
      examine rest (outcome x.orig (salvoKind x.isRecall) x.tag .staged false 255
        (stageSalvo x.orig x.tag x.isRecall x.pairs s)) := by
  rw [examine, if_neg (by simp [free]), unlocked]
  exact if_neg (by simp [unmarked])

theorem anyHeld_free {ps : List (Dst × Src)} (h : ∀ p ∈ ps, (s.entry p.1).hold = none) : anyHeld s ps = false := by
  refine Bool.eq_false_iff.mpr fun held => ?_
  obtain ⟨p, listed, hold⟩ := (anyHeld_iff s ps).mp held
  rw [h p listed] at hold
  cases hold

theorem anyMarked_free {ps : List (Dst × Src)} (h : ∀ p ∈ ps, (s.entry p.1).mark = none) : anyMarked s ps = false := by
  refine Bool.eq_false_iff.mpr fun marked => ?_
  obtain ⟨p, listed, mark⟩ := (anyMarked_iff s ps).mp marked
  rw [h p listed] at mark
  cases mark

end

/-- Settles O34. -/
theorem restoreActionReleasesAndExamines : Obligations.RestoreActionReleasesAndExamines := by
  refine ⟨?released, ?staged, fun s kind tag code ended detail => ⟨rfl, fun p => ⟨fun gone => ?_, fun session =>
    outcome_session session ..⟩⟩, fun _ => rfl, fun s x rest => ⟨fun d => ⟨rfl, fun ⟨listed, hold⟩ => ?_⟩, ?examined⟩⟩
  case released =>
    rintro s g r ds u rfl distinct length rfl
    have firsts : ((fallbackDests s g).zip r).map Prod.fst = fallbackDests s g := List.map_fst_zip length.ge
    refine ⟨letGo g r s, rfl, by rw [guard_letGo, if_pos rfl], fun h other => by rw [guard_letGo, if_neg other],
      fun d x listed => ?_, fun d other => ?_, letGo_rest g r s⟩
    · obtain ⟨entry, dirty⟩ := stagePairsBack_at (s := s) (g := g) (ps := (fallbackDests s g).zip r)
        (by rwa [firsts]) listed
      have inside : d ∈ fallbackDests s g := (List.of_mem_zip listed).1
      rw [entry_letGo, dirty_letGo, entry_endHolds, if_pos inside, stageReturns_eq, entry]
      exact ⟨rfl, dirty⟩
    · obtain ⟨entry, dirty⟩ := stagePairsBack_other (s := s) (g := g) (ps := (fallbackDests s g).zip r) (by rwa [firsts])
      rw [entry_letGo, dirty_letGo, entry_endHolds, if_neg (show d ∉ fallbackDests s g from other), stageReturns_eq]
      exact ⟨entry, dirty⟩
  case staged =>
    rintro s o tag r ps distinct u rfl
    exact ⟨stageSalvo_at o tag r ps distinct s, stageSalvo_other o tag r ps s, stageSalvo_eq o tag r ps s⟩
  case examined =>
    rintro free kind rfl
    have holds := anyHeld_free free
    exact ⟨fun i bound locked before => examine_locked holds (firstLocked_some s x.orig x.pairs i bound locked before),
      fun unlocked marked => examine_marked holds (firstLocked_none s x.orig x.pairs unlocked)
        ((anyMarked_iff s x.pairs).mpr marked),
      fun unlocked unmarked => examine_stages holds (firstLocked_none s x.orig x.pairs unlocked) (anyMarked_free unmarked)⟩
  · exact if_neg (by rw [gone]; decide)
  · obtain ⟨p, inside, rfl⟩ := List.mem_map.mp listed
    exact examine_held ((anyHeld_iff s x.pairs).mpr ⟨p, inside, hold⟩)

end Sys2Proof.Machine
end

section
/-! SUPPORT. The laws of guards and salvos: what leaves them alone, and what only ends staged changes. -/

namespace Sys2Proof.Machine

/-! ### The law in parts -/

/-- Queued salvos have names of their own, which no staged one has, and pairs as a SALVO may give them (R25). -/
structure QueueNamed (s : State) (xs : List PendingSalvo) : Prop where
  names : (xs.map fun x => (x.orig, x.tag)).Nodup
  queued : ∀ x ∈ xs, (∀ d, (s.entry d).inSalvo x.orig x.tag = false) ∧ x.pairs.length ≤ 16 ∧ (x.pairs.map Prod.fst).Nodup

/-- Each queued salvo names a held destination (R29). -/
def QueueHeld (s : State) (xs : List PendingSalvo) : Prop :=
  ∀ x ∈ xs, ∃ p ∈ x.pairs, (s.entry p.1).hold.isSome = true

/-- What the route table and the guards keep, whatever waits in the queue. -/
structure TableLaw (s : State) : Prop where
  holds : HoldsMatchGuards s
  marks : MarksLawful s
  dirty : StagedIsDirty s
  locks : LocksLawful s

/-- The law of guards, salvos, staged changes and locks. -/
structure PlanLaw (s : State) : Prop where
  table : TableLaw s
  named : QueueNamed s s.salvos
  held : QueueHeld s s.salvos

theorem salvosLawful_iff (s : State) :
    SalvosLawful s ↔ MarksLawful s ∧ QueueNamed s s.salvos ∧ QueueHeld s s.salvos :=
  ⟨fun ⟨small, unique, names, queue⟩ => ⟨⟨small, unique⟩,
      ⟨names, fun x listed => ⟨(queue x listed).1, (queue x listed).2.1, (queue x listed).2.2.1⟩⟩,
      fun x listed => (queue x listed).2.2.2⟩,
    fun ⟨⟨small, unique⟩, ⟨names, queued⟩, held⟩ => ⟨small, unique, names, fun x listed =>
      ⟨(queued x listed).1, (queued x listed).2.1, (queued x listed).2.2, held x listed⟩⟩⟩

theorem planLaw_iff (s : State) :
    PlanLaw s ↔ HoldsMatchGuards s ∧ SalvosLawful s ∧ StagedIsDirty s ∧ LocksLawful s := by
  rw [salvosLawful_iff]
  exact ⟨fun ⟨⟨holds, marks, dirty, locks⟩, named, held⟩ => ⟨holds, ⟨marks, named, held⟩, dirty, locks⟩,
    fun ⟨holds, ⟨marks, named, held⟩, dirty, locks⟩ => ⟨⟨holds, marks, dirty, locks⟩, named, held⟩⟩

/-! ### What only ends staged changes -/

/-- The guards have the fallback lists they had and hold as they did, and no fallback destination has become of class
IFB. -/
structure GuardsStand (s t : State) : Prop where
  fallback : ∀ g, (t.guard g).defn.fallback = (s.guard g).defn.fallback
  holding : ∀ g, (t.guard g).state.holding = (s.guard g).state.holding
  cls : ∀ g, ∀ p ∈ (s.guard g).defn.fallback, (t.defs.at p.1).cls = .ifb → (s.defs.at p.1).cls = .ifb

/-- From `s` to `t` staged changes, locks and queued salvos have ended, and nothing else that the laws speak of has
changed. -/
structure PlanEnds (s t : State) : Prop where
  guards : GuardsStand s t
  hold : ∀ d, (t.entry d).hold = (s.entry d).hold
  lock : ∀ d, (t.entry d).lock = (s.entry d).lock ∨ (t.entry d).lock = none
  staged : ∀ d, (t.entry d).staged = (s.entry d).staged ∨ (t.entry d).staged = none
  dirty : ∀ d, (t.entry d).staged.isSome = true → s.take.dirty.at d = true → t.take.dirty.at d = true
  salvos : t.salvos.Sublist s.salvos

section
variable {s t u : State}

theorem GuardsStand.of_same (guards : t.guards = s.guards) (defs : t.defs = s.defs) : GuardsStand s t where
  fallback g := by rw [guard_congr guards g]
  holding g := by rw [guard_congr guards g]
  cls g p _ ifb := by rwa [defs] at ifb

theorem GuardsStand.trans (st : GuardsStand s t) (tu : GuardsStand t u) : GuardsStand s u where
  fallback g := (tu.fallback g).trans (st.fallback g)
  holding g := (tu.holding g).trans (st.holding g)
  cls g p listed ifb := st.cls g p listed (tu.cls g p (by rwa [st.fallback]) ifb)

theorem mark_ends {e f : Entry} (h : f.staged = e.staged ∨ f.staged = none) : f.mark = e.mark ∨ f.mark = none := by
  rcases h with same | gone
  · exact .inl (by rw [Entry.mark, same, Entry.mark])
  · exact .inr (by rw [Entry.mark, gone]; rfl)

theorem mark_of_ends {e f : Entry} (h : f.staged = e.staged ∨ f.staged = none) {m : Mark} (marked : f.mark = some m) :
    e.mark = some m := by
  rcases mark_ends h with same | gone
  · exact same ▸ marked
  · rw [gone] at marked; cases marked

theorem inSalvo_of_ends {e f : Entry} (h : f.staged = e.staged ∨ f.staged = none) {o : Origin} {tag : Byte}
    (out : e.inSalvo o tag = false) : f.inSalvo o tag = false := by
  refine Bool.eq_false_iff.mpr fun inside => ?_
  obtain ⟨m, marked, orig, tag'⟩ := inSalvo_iff.mp inside
  rw [inSalvo_iff.mpr ⟨m, mark_of_ends h marked, orig, tag'⟩] at out
  cases out

theorem HoldsMatchGuards.stand (h : HoldsMatchGuards s) (guards : GuardsStand s t)
    (hold : ∀ d, (t.entry d).hold = (s.entry d).hold)
    (staged : ∀ d x, (t.entry d).staged = some x → (s.entry d).hold.isSome = true → (s.entry d).staged = some x) :
    HoldsMatchGuards t := by
  obtain ⟨apart, classes, held, own⟩ := h
  refine ⟨?_, fun g p listed ifb => ?_, fun d g => ?_, fun d g holds x change => ?_⟩
  · simpa only [guards.fallback] using apart
  · rw [guards.fallback] at listed
    exact classes g p listed (guards.cls g p listed ifb)
  · rw [hold, guards.holding, guards.fallback]
    exact held d g
  · rw [hold] at holds
    exact own d g holds x (staged d x change (by rw [holds]; rfl))

theorem MarksLawful.fewer (h : MarksLawful s) (marks : ∀ d m, (t.entry d).mark = some m → (s.entry d).mark = some m) :
    MarksLawful t where
  small d m marked := h.small d m (marks d m marked)
  unique d e m n marked marked' := h.unique d e m n (marks d m marked) (marks e n marked')

theorem QueueNamed.fewer {xs ys : List PendingSalvo} (h : QueueNamed s xs) (sub : ys.Sublist xs)
    (out : ∀ o tag, (∀ d, (s.entry d).inSalvo o tag = false) → ∀ d, (t.entry d).inSalvo o tag = false) :
    QueueNamed t ys where
  names := (sub.map _).nodup h.names
  queued x listed := (h.queued x (sub.subset listed)).imp_left (out x.orig x.tag)

theorem TableLaw.ends (h : TableLaw s) (e : PlanEnds s t) : TableLaw t where
  holds := h.holds.stand e.guards e.hold fun d x change _ => by
    rcases e.staged d with same | gone
    · exact same ▸ change
    · rw [gone] at change; cases change
  marks := h.marks.fewer fun d _ => mark_of_ends (e.staged d)
  dirty d staged := by
    refine e.dirty d staged (h.dirty d ?_)
    rcases e.staged d with same | gone
    · exact same ▸ staged
    · rw [gone] at staged; cases staged
  locks d l x locked change := by
    rcases e.lock d with sameLock | unlocked
    · rcases e.staged d with same | gone
      · exact h.locks d l x (sameLock ▸ locked) (same ▸ change)
      · rw [gone] at change; cases change
    · rw [unlocked] at locked; cases locked

theorem PlanLaw.ends (h : PlanLaw s) (e : PlanEnds s t) : PlanLaw t where
  table := h.table.ends e
  named := h.named.fewer e.salvos fun _ _ out d => inSalvo_of_ends (e.staged d) (out d)
  held x listed := by
    obtain ⟨p, inside, held⟩ := h.held x (e.salvos.subset listed)
    exact ⟨p, inside, by rwa [e.hold]⟩

end

/-! ### What leaves the plan alone -/

/-- What is staged, held, locked and current on the one entry is so on the other. -/
structure Entry.SamePlan (e f : Entry) : Prop where
  staged : f.staged = e.staged
  hold : f.hold = e.hold
  lock : f.lock = e.lock
  current : f.current = e.current

theorem Entry.SamePlan.refl (e : Entry) : e.SamePlan e := ⟨rfl, rfl, rfl, rfl⟩

theorem Entry.SamePlan.trans {e f g : Entry} (h : e.SamePlan f) (i : f.SamePlan g) : e.SamePlan g :=
  ⟨i.staged.trans h.staged, i.hold.trans h.hold, i.lock.trans h.lock, i.current.trans h.current⟩

/-- From `s` to `t` nothing the laws speak of has changed, but for salvos that have left the queue. -/
structure PlanStands (s t : State) : Prop where
  guards : GuardsStand s t
  entry : ∀ d, (s.entry d).SamePlan (t.entry d)
  dirty : ∀ d, s.take.dirty.at d = true → t.take.dirty.at d = true
  salvos : t.salvos.Sublist s.salvos

section
variable {s t u : State}

theorem PlanStands.ends (h : PlanStands s t) : PlanEnds s t where
  guards := h.guards
  hold d := (h.entry d).hold
  lock d := .inl (h.entry d).lock
  staged d := .inl (h.entry d).staged
  dirty d _ := h.dirty d
  salvos := h.salvos

theorem PlanStands.trans (st : PlanStands s t) (tu : PlanStands t u) : PlanStands s u where
  guards := st.guards.trans tu.guards
  entry d := (st.entry d).trans (tu.entry d)
  dirty d h := tu.dirty d (st.dirty d h)
  salvos := tu.salvos.trans st.salvos

theorem PlanStands.of_entries (guards : t.guards = s.guards) (defs : t.defs = s.defs) (salvos : t.salvos = s.salvos)
    (entry : ∀ d, (s.entry d).SamePlan (t.entry d))
    (dirty : ∀ d, s.take.dirty.at d = true → t.take.dirty.at d = true) : PlanStands s t :=
  ⟨.of_same guards defs, entry, dirty, salvos ▸ .refl _⟩

theorem PlanStands.of_same (guards : t.guards = s.guards) (defs : t.defs = s.defs) (salvos : t.salvos = s.salvos)
    (routes : t.routes = s.routes) (take : t.take.dirty = s.take.dirty) : PlanStands s t :=
  .of_entries guards defs salvos (fun d => by rw [entry_congr routes d]; exact .refl _) fun d => by rw [take]; exact id

theorem PlanStands.refl (s : State) : PlanStands s s := .of_same rfl rfl rfl rfl rfl

theorem PlanStands.foldl {α : Type} {f : State → α → State} (h : ∀ s a, PlanStands s (f s a)) (l : List α) (s : State) :
    PlanStands s (l.foldl f s) := by
  induction l generalizing s with
  | nil => exact .refl s
  | cons a l ih => exact (h s a).trans (ih _)

theorem PlanStands.refresh (h : PlanStands s t) : PlanStands s (refresh t) :=
  h.trans (.of_same (by simp) (by simp) (by simp) (by simp) (by simp))

theorem ListsShrink.stands (h : ListsShrink s t) (guards : t.guards = s.guards) (defs : t.defs = s.defs)
    (salvos : t.salvos.Sublist s.salvos) : PlanStands s t where
  guards := .of_same guards defs
  entry d := ⟨h.staged d, h.hold d, by rw [h.entry], by rw [h.entry]⟩
  dirty := h.dirty
  salvos := salvos

theorem ConfirmsOnly.stands (h : ConfirmsOnly s t) (guards : t.guards = s.guards) (defs : t.defs = s.defs)
    (salvos : t.salvos = s.salvos) : PlanStands s t :=
  .of_entries guards defs salvos (fun d => by rw [h.entry]; exact ⟨rfl, rfl, rfl, rfl⟩) h.dirty

theorem TrafficOnly.stands (h : TrafficOnly s t) : PlanStands s t :=
  .of_same (by rw [h.rest]) (by rw [h.rest]) (by rw [h.rest]) (by rw [h.rest]) (by rw [h.rest])

end

/-! ### What a step may do to salvos and locked sources -/

/-- From `s` to `t` a staged salvo stays whole, and a locked source changes only to what its lock permits. -/
structure StepsLawfully (s t : State) : Prop where
  whole : SalvosStayWhole s t
  locked : LockedSourcesHold s t

section
variable {s t : State}

/-- No current source has changed, and no salvo has lost a destination. -/
theorem StepsLawfully.of_kept (current : ∀ d, (t.entry d).current = (s.entry d).current)
    (staged : ∀ d, (s.entry d).mark.isSome = true → (t.entry d).staged = (s.entry d).staged) : StepsLawfully s t where
  whole o tag := .inl fun d inside => by
    obtain ⟨m, marked, -⟩ := inSalvo_iff.mp inside
    exact staged d (by rw [marked]; rfl)
  locked d l _ _ changed := absurd (current d) changed

theorem PlanStands.lawfully (h : PlanStands s t) : StepsLawfully s t :=
  .of_kept (fun d => (h.entry d).current) fun d _ => (h.entry d).staged

/-- What stands before and after a lawful change leaves it lawful. -/
theorem StepsLawfully.congr {w u : State} (h : StepsLawfully w u) (before : ∀ d, w.entry d = s.entry d)
    (after : ∀ d, t.entry d = u.entry d) (ready : t.ctl.ready = u.ctl.ready) : StepsLawfully s t := by
  obtain ⟨whole, locked⟩ := h
  refine ⟨fun o tag => ?_, fun d l => ?_⟩
  · have law := whole o tag
    simp only [before] at law
    simp only [after, ready]
    exact law
  · have law := locked d l
    simp only [before] at law
    simp only [after]
    exact law

end

end Sys2Proof.Machine
end

section
/-! SUPPORT. The laws of guards and salvos through the staging of a salvo and the effects that leave the plan alone. -/

namespace Sys2Proof.Machine

/-! ### A submitted salvo (R25) -/

theorem length_allOf {α β : Type} {f : α → Option β} {l : List α} {m : List β} (h : allOf f l = some m) :
    m.length = l.length := by
  induction l generalizing m with
  | nil => cases h; rfl
  | cons a l ih =>
    unfold allOf at h
    split at h
    next b bs _ rest => cases h; exact congrArg (· + 1) (ih rest)
    next => cases h

/-- A salvo of a name that no staged one has, whose destinations are neither locked against it nor marked. -/
structure Stageable (s : State) (o : Origin) (tag : Byte) (ps : List (Dst × Src)) : Prop where
  short : ps.length ≤ 16
  distinct : (ps.map Prod.fst).Nodup
  apart : ∀ d, (s.entry d).inSalvo o tag = false
  unlocked : ∀ p ∈ ps, ¬LockedTo (s.entry p.1) o
  unmarked : ∀ p ∈ ps, (s.entry p.1).mark = none

/-- A salvo that has passed the checks of its submission. -/
structure Submitted (s : State) (o : Origin) (tag : Byte) (ps : List (Dst × Src)) : Prop extends Stageable s o tag ps where
  fresh : ∀ x ∈ s.salvos, (x.orig, x.tag) ≠ (o, tag)

section
variable {s : State} {o : Origin} {tag : Byte} {raw : List (Nat × Nat)} {ps : List (Dst × Src)}

theorem locked_listed {p : Dst × Src} (free : firstLocked s o ps = none) (listed : p ∈ ps) : ¬LockedTo (s.entry p.1) o := by
  have unlocked := List.findIdx?_eq_none_iff.mp free p listed
  rw [← lockedAgainst_iff, unlocked]
  decide

/-- What a salvo that is staged, or that waits for a held destination, has passed. -/
theorem submitted_of_judge {waits : Bool} (h : judgeSalvo s o tag raw = if waits then .wait ps else .stage ps) :
    Submitted s o tag ps ∧ anyHeld s ps = waits := by
  have refused : ∀ {code pair}, Verdict.refuse code pair ≠ if waits then .wait ps else .stage ps := by
    intro code pair same
    split at same <;> cases same
  unfold judgeSalvo at h
  split at h
  · cases refused h
  next length =>
    split at h
    · cases refused h
    next qs read =>
      split at h
      · cases refused h
      next fresh =>
        split at h
        · cases refused h
        next free =>
          split at h
          · cases refused h
          next clear =>
            have same : qs = ps ∧ anyHeld s qs = waits := by
              split at h
              next held => cases waits <;> cases h; exact ⟨rfl, held⟩
              next unheld => cases waits <;> cases h; exact ⟨rfl, Bool.eq_false_iff.mpr unheld⟩
            obtain ⟨rfl, held⟩ := same
            rw [isRepeat_iff, IsRepeat, not_or, not_or, not_not] at fresh
            obtain ⟨distinct, apart, fresh⟩ := fresh
            refine ⟨⟨⟨?_, distinct, fun d => ?_, fun p => locked_listed free, fun p listed => ?_⟩, fun x listed same => ?_⟩,
              held⟩
            · rw [length_allOf read]
              simp only [Bool.or_eq_true, decide_eq_true_eq, not_or] at length
              omega
            · exact Bool.eq_false_iff.mpr fun inside => apart ⟨d, inside⟩
            · rw [anyMarked_iff] at clear
              by_contra marked
              exact clear ⟨p, listed, Option.ne_none_iff_isSome.mp marked⟩
            · exact fresh ⟨x, listed, congrArg Prod.fst same, congrArg Prod.snd same⟩

end

/-! ### Staging a salvo (R27) -/

/-- From `s` to `t` staged changes have been added on destinations that had no mark and no hold, all of them dirty, and
nothing else the laws speak of has changed. -/
structure PlanGrows (s t : State) : Prop where
  guards : t.guards = s.guards
  defs : t.defs = s.defs
  entry : ∀ d, t.entry d = { s.entry d with staged := (t.entry d).staged }
  dirty : ∀ d, s.take.dirty.at d = true → t.take.dirty.at d = true
  staged : ∀ d, (t.entry d).staged = (s.entry d).staged ∨
    ((s.entry d).mark = none ∧ (s.entry d).hold = none ∧ t.take.dirty.at d = true ∧
      ∃ x, (t.entry d).staged = some x ∧ ∀ l, (s.entry d).lock = some l → PermittedBy l x)

section
variable {s t u : State}

theorem PlanGrows.hold (h : PlanGrows s t) (d : Dst) : (t.entry d).hold = (s.entry d).hold := by rw [h.entry]

theorem PlanGrows.lock (h : PlanGrows s t) (d : Dst) : (t.entry d).lock = (s.entry d).lock := by rw [h.entry]

theorem TableLaw.grows (h : TableLaw s) (e : PlanGrows s t) (marks : MarksLawful t) : TableLaw t where
  holds := h.holds.stand (.of_same e.guards e.defs) e.hold fun d x change held => by
    rcases e.staged d with same | ⟨-, free, -⟩
    · exact same ▸ change
    · rw [free] at held; cases held
  marks := marks
  dirty d staged := by
    rcases e.staged d with same | ⟨-, -, dirty, -⟩
    · exact e.dirty d (h.dirty d (same ▸ staged))
    · exact dirty
  locks d l x locked change := by
    rw [e.lock] at locked
    rcases e.staged d with same | ⟨-, -, -, y, new, permitted⟩
    · exact h.locks d l x locked (same ▸ change)
    · rw [new] at change
      cases change
      exact permitted l locked

/-- A lock that is not against an originator permits what it stages. -/
theorem permitted_of_unlocked {e : Entry} {o : Origin} {x : Staged} (h : ¬LockedTo e o) (own : x.requester = some o)
    (l : Lock) (locked : e.lock = some l) : PermittedBy l x := by
  refine .inr ⟨?_, ?_⟩
  · cases kind : l.kind with
    | protect => rfl
    | lock => exact absurd ⟨l, locked, .inl kind⟩ h
  · by_contra other
    exact h ⟨l, locked, .inr fun same => other (same ▸ own)⟩

variable {o : Origin} {tag : Byte} {r : Bool} {ps : List (Dst × Src)}

theorem stageSalvo_listed (distinct : (ps.map Prod.fst).Nodup) {d : Dst} (listed : d ∈ ps.map Prod.fst) :
    ∃ i x, i < ps.length ∧ (ps[i]?).map Prod.fst = some d ∧ (d, x) ∈ ps ∧
      (stageSalvo o tag r ps s).entry d = { s.entry d with staged := some (.salvo x ⟨o, tag, i, r⟩) } ∧
      (stageSalvo o tag r ps s).take.dirty.at d = true := by
  obtain ⟨q, inside, rfl⟩ := List.mem_map.mp listed
  obtain ⟨i, bound, rfl⟩ := List.getElem_of_mem inside
  obtain ⟨entry, dirty⟩ := stageSalvo_at o tag r ps distinct s i bound
  exact ⟨i, ps[i].2, bound, by simp [bound], inside, entry, dirty⟩

theorem planGrows_stageSalvo (h : Stageable s o tag ps) (free : anyHeld s ps = false) (r : Bool) :
    PlanGrows s (stageSalvo o tag r ps s) where
  guards := by simp
  defs := by simp
  entry d := by
    by_cases listed : d ∈ ps.map Prod.fst
    · obtain ⟨i, x, -, -, -, entry, -⟩ := stageSalvo_listed (s := s) (o := o) (tag := tag) (r := r) h.distinct listed
      rw [entry]
    · rw [(stageSalvo_other o tag r ps s d listed).1]
  dirty := (stagesOnly_stageSalvo ..).dirty
  staged d := by
    by_cases listed : d ∈ ps.map Prod.fst
    · obtain ⟨i, x, -, -, inside, entry, dirty⟩ :=
        stageSalvo_listed (s := s) (o := o) (tag := tag) (r := r) h.distinct listed
      have held : (s.entry d).hold = none := by
        by_contra some
        rw [(anyHeld_iff s ps).mpr ⟨(d, x), inside, Option.ne_none_iff_isSome.mp some⟩] at free
        cases free
      exact .inr ⟨h.unmarked _ inside, held, dirty, _, by rw [entry], permitted_of_unlocked (h.unlocked _ inside) rfl⟩
    · exact .inl (by rw [(stageSalvo_other o tag r ps s d listed).1])

/-- A mark after a salvo is staged is one of its own pairs, or stood before. -/
theorem mark_stageSalvo (distinct : (ps.map Prod.fst).Nodup) {d : Dst} {m : Mark}
    (marked : ((stageSalvo o tag r ps s).entry d).mark = some m) :
    (m.orig = o ∧ m.tag = tag ∧ m.pair < ps.length ∧ (ps[m.pair]?).map Prod.fst = some d) ∨ (s.entry d).mark = some m := by
  by_cases listed : d ∈ ps.map Prod.fst
  · obtain ⟨i, x, bound, at_, -, entry, -⟩ := stageSalvo_listed (s := s) (o := o) (tag := tag) (r := r) distinct listed
    rw [entry] at marked
    cases marked
    exact .inl ⟨rfl, rfl, bound, at_⟩
  · rw [(stageSalvo_other o tag r ps s d listed).1] at marked
    exact .inr marked

theorem marksLawful_stageSalvo (law : MarksLawful s) (distinct : (ps.map Prod.fst).Nodup) (short : ps.length ≤ 16)
    (apart : ∀ d, (s.entry d).inSalvo o tag = false) : MarksLawful (stageSalvo o tag r ps s) where
  small d m marked := by
    rcases mark_stageSalvo distinct marked with ⟨-, -, bound, -⟩ | before
    · exact bound.trans_le short
    · exact law.small d m before
  unique d e m n marked marked' orig tag' pair := by
    have old : ∀ {f : Dst} {k : Mark}, (s.entry f).mark = some k → ¬(k.orig = o ∧ k.tag = tag) := fun before same => by
      have inside := inSalvo_iff.mpr ⟨_, before, same⟩
      rw [apart] at inside
      cases inside
    rcases mark_stageSalvo distinct marked with ⟨mo, mt, -, at_⟩ | before
    · rcases mark_stageSalvo distinct marked' with ⟨-, -, -, at'⟩ | before'
      · rw [pair, at'] at at_
        exact (Option.some.inj at_).symm
      · exact absurd ⟨orig ▸ mo, tag' ▸ mt⟩ (old before')
    · rcases mark_stageSalvo distinct marked' with ⟨no, nt, -, -⟩ | before'
      · exact absurd ⟨orig.trans no, tag'.trans nt⟩ (old before)
      · exact law.unique d e m n before before' orig tag' pair

/-- A salvo of another name stays out of every destination. -/
theorem inSalvo_stageSalvo (distinct : (ps.map Prod.fst).Nodup) {p : Origin} {g : Byte} (other : (p, g) ≠ (o, tag))
    {d : Dst} (out : (s.entry d).inSalvo p g = false) : ((stageSalvo o tag r ps s).entry d).inSalvo p g = false := by
  refine Bool.eq_false_iff.mpr fun inside => ?_
  obtain ⟨m, marked, rfl, rfl⟩ := inSalvo_iff.mp inside
  rcases mark_stageSalvo distinct marked with ⟨orig, tag', -⟩ | before
  · exact other (by rw [orig, tag'])
  · rw [inSalvo_of_mark before] at out
    cases out

theorem tableLaw_stageSalvo (law : TableLaw s) (h : Stageable s o tag ps) (free : anyHeld s ps = false) (r : Bool) :
    TableLaw (stageSalvo o tag r ps s) :=
  law.grows (planGrows_stageSalvo h free r) (marksLawful_stageSalvo law.marks h.distinct h.short h.apart)

theorem planLaw_stageSalvo (law : PlanLaw s) (h : Submitted s o tag ps) (free : anyHeld s ps = false) (r : Bool) :
    PlanLaw (stageSalvo o tag r ps s) := by
  have salvos : (stageSalvo o tag r ps s).salvos = s.salvos := by simp
  refine ⟨tableLaw_stageSalvo law.table h.toStageable free r, ⟨salvos ▸ law.named.names, fun x listed => ?_⟩, fun x listed => ?_⟩
  · rw [salvos] at listed
    obtain ⟨out, rest⟩ := law.named.queued x listed
    exact ⟨fun d => inSalvo_stageSalvo h.distinct (h.fresh x listed) (out d), rest⟩
  · rw [salvos] at listed
    obtain ⟨p, inside, held⟩ := law.held x listed
    exact ⟨p, inside, by rwa [(planGrows_stageSalvo h.toStageable free r).hold]⟩

/-- A salvo that waits for a held destination joins the queue. -/
theorem planLaw_joinSalvos (law : PlanLaw s) (h : Submitted s o tag ps) (held : anyHeld s ps = true) (r : Bool) :
    PlanLaw (joinSalvos ⟨o, tag, ps, r⟩ s) := by
  have grows : PlanGrows s (joinSalvos ⟨o, tag, ps, r⟩ s) := ⟨rfl, rfl, fun _ => rfl, fun _ => id, fun _ => .inl rfl⟩
  refine ⟨law.table.grows grows ⟨law.table.marks.small, law.table.marks.unique⟩, ⟨?_, fun x listed => ?_⟩, fun x listed => ?_⟩
  · show ((s.salvos ++ [_]).map fun x : PendingSalvo => (x.orig, x.tag)).Nodup
    rw [List.map_append]
    refine law.named.names.append (List.nodup_singleton _) fun n listed single => ?_
    obtain ⟨x, inside, rfl⟩ := List.mem_map.mp listed
    exact h.fresh x inside (List.mem_singleton.mp single)
  · rcases List.mem_append.mp listed with old | new
    · exact law.named.queued x old
    · rw [List.mem_singleton.mp new]
      exact ⟨h.apart, h.short, h.distinct⟩
  · rcases List.mem_append.mp listed with old | new
    · exact law.held x old
    · rw [List.mem_singleton.mp new]
      exact (anyHeld_iff s ps).mp held

end

/-! ### What keeps current sources and staged salvos -/

/-- From `s` to `t` no current source has changed, and no salvo has lost a destination. -/
structure PlanKept (s t : State) : Prop where
  current : ∀ d, (t.entry d).current = (s.entry d).current
  staged : ∀ d, (s.entry d).mark.isSome = true → (t.entry d).staged = (s.entry d).staged

section
variable {s t u : State}

theorem PlanKept.lawfully (h : PlanKept s t) : StepsLawfully s t := .of_kept h.current h.staged

theorem PlanKept.refl (s : State) : PlanKept s s := ⟨fun _ => rfl, fun _ _ => rfl⟩

theorem PlanKept.trans (st : PlanKept s t) (tu : PlanKept t u) : PlanKept s u where
  current d := (tu.current d).trans (st.current d)
  staged d marked := by
    have same := st.staged d marked
    exact (tu.staged d (by rwa [Entry.mark, same])).trans same

theorem PlanStands.kept (h : PlanStands s t) : PlanKept s t := ⟨fun d => (h.entry d).current, fun d _ => (h.entry d).staged⟩

theorem PlanGrows.kept (h : PlanGrows s t) : PlanKept s t where
  current d := by rw [h.entry]
  staged d marked := by
    rcases h.staged d with same | ⟨unmarked, -⟩
    · exact same
    · rw [unmarked] at marked; cases marked

/-- The law holds in `t`, and from `s` to it current sources and staged salvos have been kept. -/
structure PlanHolds (s t : State) : Prop where
  law : PlanLaw t
  kept : PlanKept s t

theorem PlanHolds.stands (h : PlanHolds s t) (e : PlanStands t u) : PlanHolds s u :=
  ⟨h.law.ends e.ends, h.kept.trans e.kept⟩

theorem PlanHolds.of_same (h : PlanHolds s t) (guards : u.guards = t.guards) (defs : u.defs = t.defs)
    (salvos : u.salvos = t.salvos) (routes : u.routes = t.routes) (take : u.take = t.take) : PlanHolds s u :=
  h.stands (.of_same guards defs salvos routes (by rw [take]))

theorem PlanLaw.holds (h : PlanLaw s) : PlanHolds s s := ⟨h, .refl s⟩

end

theorem planStands_testQuiesced (p : Pnl) (s : State) : PlanStands s (testQuiesced p s) :=
  (listsShrink_testQuiesced p s).stands (by simp) (by simp) (by simp)

theorem planHolds_storeKeeps (s : State) : StoreKeeps (PlanHolds s) where
  store _ h := h.of_same rfl rfl rfl rfl rfl
  response _ _ _ _ h := h.of_same rfl rfl rfl rfl rfl
  outcome p i h := h.of_same (by simp) (by simp) (by simp) (by simp) (by simp)
  test p h := h.stands (planStands_testQuiesced p _)
  stage h verdict := by
    obtain ⟨submitted, free⟩ := submitted_of_judge (waits := false) verdict
    exact ⟨planLaw_stageSalvo h.law submitted free true, h.kept.trans
      (planGrows_stageSalvo submitted.toStageable free true).kept⟩
  queue h verdict _ := by
    obtain ⟨submitted, held⟩ := submitted_of_judge (waits := true) verdict
    exact ⟨planLaw_joinSalvos h.law submitted held true, h.kept.trans ⟨fun _ => rfl, fun _ _ => rfl⟩⟩

end Sys2Proof.Machine
end

section
/-! SUPPORT. The laws of guards and salvos through takes, trips and restores. -/

namespace Sys2Proof.Machine

/-! ### Takes (R48, R49) -/

/-- Every destination takes what is staged on it: all of a salvo at once, since what is staged is dirty (R28). -/
structure TakesAll (s t : State) : Prop where
  entry : ∀ d, t.entry d = applyStaged (s.entry d)
  guards : t.guards = s.guards
  defs : t.defs = s.defs
  salvos : t.salvos = s.salvos

section
variable {s t : State}

theorem applyStaged_staged {e : Entry} {x : Staged} (h : e.staged = some x) :
    applyStaged e = { e with current := x.source, staged := none } := by
  unfold applyStaged
  rw [h]

theorem TakesAll.staged (h : TakesAll s t) (d : Dst) : (t.entry d).staged = none := by
  rw [h.entry, applyStaged_kept]

theorem TakesAll.ends (h : TakesAll s t) : PlanEnds s t where
  guards := .of_same h.guards h.defs
  hold d := by rw [h.entry, applyStaged_kept]
  lock d := by rw [h.entry, applyStaged_kept]; exact .inl rfl
  staged d := .inr (h.staged d)
  dirty d staged := by rw [h.staged] at staged; cases staged
  salvos := h.salvos ▸ .refl _

theorem TakesAll.lawfully (h : TakesAll s t) (locks : LocksLawful s) : StepsLawfully s t where
  whole o tag := .inr ⟨fun d => by rw [Entry.inSalvo, Entry.mark, h.staged]; rfl, .inl fun d x _ change => by
    rw [h.entry, applyStaged_staged change]⟩
  locked d l locked _ changed := by
    rw [h.entry] at changed ⊢
    cases change : (s.entry d).staged with
    | none => rw [applyStaged, change] at changed; exact absurd rfl changed
    | some x => exact ⟨x, rfl, by rw [applyStaged_staged change], locks d l x locked change⟩

/-- What a take event, or a pulse or an expiry that may be one, does to the plan. -/
def TakesOrStands (s t : State) : Prop := TakesAll s t ∨ PlanStands s t

theorem takesOrStands_takeEvent (dirty : StagedIsDirty s) : TakesOrStands s (takeEvent s) := by
  unfold takeEvent
  dsimp only
  split
  · exact .inr (.of_same rfl rfl rfl rfl rfl)
  · refine .inl ⟨fun d => ?_, rfl, rfl, rfl⟩
    rw [entry_takeDirty]
    split
    · rfl
    next clean =>
      have none : (s.entry d).staged = none := by
        by_contra some
        exact clean (dirty d (Option.ne_none_iff_isSome.mp some))
      show s.entry d = _
      rw [applyStaged, none]

theorem takesOrStands_takeIfBegun (dirty : StagedIsDirty s) : TakesOrStands s (takeIfBegun s) := by
  unfold takeIfBegun
  split
  · exact takesOrStands_takeEvent dirty
  · exact .inr (.refl s)

theorem TakesOrStands.of_same {u : State} (h : TakesOrStands t u) (guards : t.guards = s.guards) (defs : t.defs = s.defs)
    (salvos : t.salvos = s.salvos) (routes : t.routes = s.routes) (dirty : t.take.dirty = s.take.dirty) :
    TakesOrStands s u := by
  rcases h with takes | stands
  · exact .inl ⟨fun d => by rw [takes.entry, entry_congr routes d], takes.guards.trans guards, takes.defs.trans defs,
      takes.salvos.trans salvos⟩
  · exact .inr (PlanStands.trans (.of_same guards defs salvos routes dirty) stands)

theorem takesOrStands_pulse (dirty : StagedIsDirty s) : TakesOrStands s (pulse s) := by
  unfold pulse
  dsimp only
  split
  · exact (takesOrStands_takeIfBegun (by exact dirty)).of_same rfl rfl rfl rfl rfl
  · split
    · exact .inr (.of_same rfl rfl rfl rfl rfl)
    · exact (takesOrStands_takeIfBegun (by exact dirty)).of_same rfl rfl rfl rfl rfl

theorem takesOrStands_frameExpiry (dirty : StagedIsDirty s) : TakesOrStands s (frameExpiry s) := by
  unfold frameExpiry
  dsimp only
  split
  · exact (takesOrStands_takeIfBegun (by exact dirty)).of_same rfl rfl rfl rfl rfl
  · split
    · exact (takesOrStands_takeIfBegun (by exact dirty)).of_same rfl rfl rfl rfl rfl
    · exact .inr (.of_same rfl rfl rfl rfl rfl)

theorem TakesOrStands.law (h : TakesOrStands s t) (law : PlanLaw s) : PlanLaw t ∧ StepsLawfully s t := by
  rcases h with takes | stands
  · exact ⟨law.ends takes.ends, takes.lawfully law.table.locks⟩
  · exact ⟨law.ends stands.ends, stands.lawfully⟩

end

/-! ### Fallback lists (R124) -/

section
variable {s : State} {g h : Gid} {d : Dst}

theorem HoldsMatchGuards.nodup (law : HoldsMatchGuards s) (g : Gid) : (fallbackDests s g).Nodup :=
  (List.nodup_flatMap.mp law.1).1 g (mem_fins g)

/-- A destination is in the fallback list of one guard at most. -/
theorem HoldsMatchGuards.apart (law : HoldsMatchGuards s) (own : d ∈ fallbackDests s g) (other : d ∈ fallbackDests s h) :
    g = h := by
  by_contra differ
  have symmetric : Std.Symm (Function.onFun List.Disjoint fun g => (s.guard g).defn.fallback.map Prod.fst) :=
    ⟨fun _ _ disjoint => List.Disjoint.symm disjoint⟩
  exact (List.nodup_flatMap.mp law.1).2.forall (mem_fins g) (mem_fins h) differ own other

end

/-! ### Unstaging for a trip (R130) -/

theorem salvos_outcome_same (o : Origin) (kind : OutcomeKind) (tag : Byte) (code : Result) (ended : Bool) (detail : Byte)
    (s : State) : (outcome o kind tag code ended detail s).salvos = s.salvos := by simp

/-- An unstaged salvo joins the queue or ends. -/
theorem salvos_requeue_cases (x : PendingSalvo) (s : State) :
    (requeue x s).salvos = s.salvos ∨ (requeue x s).salvos = s.salvos ++ [x] := by
  unfold requeue
  dsimp only
  split
  · split
    · split
      · exact .inl (salvos_outcome_same ..)
      · exact .inr (salvos_outcome_same ..)
    · exact .inl (salvos_outcome_same ..)
    · exact .inl rfl
    · exact .inl rfl
  · split
    · exact .inl rfl
    · exact .inr rfl

theorem short_rebuild (s : State) (m : Mark) : (rebuild s m).pairs.length ≤ 16 := by
  rw [pairs_rebuild]
  exact (List.length_filterMap_le ..).trans (List.length_range ..).le

theorem nodup_rebuild {s : State} (h : MarksLawful s) (m : Mark) : ((rebuild s m).pairs.map Prod.fst).Nodup := by
  refine List.pairwise_map.mpr ((pairwise_rebuild s m).imp_of_mem fun {p q} listed _ before same => ?_)
  obtain ⟨k, staged, -⟩ := (mem_rebuild h m p.1 p.2).mp listed
  have mark := mark_of_staged staged
  exact Nat.lt_irrefl _ (before k k mark (same ▸ mark))

/-- The queue while salvos that mark some of the destinations `ds` are being unstaged. -/
structure Unstaging (s : State) (ds : List Dst) (t : State) : Prop where
  marks : MarksLawful t
  named : QueueNamed t t.salvos
  held : ∀ x ∈ t.salvos, ∃ p ∈ x.pairs, (s.entry p.1).hold.isSome = true ∨ p.1 ∈ ds

theorem Unstaging.unstageAt {s t : State} {ds : List Dst} {e : Dst} (h : Unstaging s ds t) (listed : e ∈ ds) :
    Unstaging s ds (unstageAt t e) := by
  cases mark : (t.entry e).mark with
  | none => rw [unstageAt_unmarked mark]; exact h
  | some m =>
    have ends : ∀ d, ((Machine.unstageAt t e).entry d).staged = (t.entry d).staged ∨
        ((Machine.unstageAt t e).entry d).staged = none := fun d => by
      rw [entry_unstageAt mark]
      split
      · exact .inr rfl
      · exact .inl rfl
    have old : QueueNamed (Machine.unstageAt t e) t.salvos :=
      h.named.fewer (.refl _) fun _ _ out d => inSalvo_of_ends (ends d) (out d)
    have marks : MarksLawful (Machine.unstageAt t e) := h.marks.fewer fun d _ => mark_of_ends (ends d)
    have queue := salvos_requeue_cases (rebuild t m) (removeSalvo m t)
    rw [← unstageAt_marked mark] at queue
    rcases queue with same | joined
    · exact ⟨marks, same ▸ old, same ▸ h.held⟩
    · have joined : (Machine.unstageAt t e).salvos = t.salvos ++ [rebuild t m] := joined
      refine ⟨marks, ?_, ?_⟩
      · rw [joined]
        refine ⟨?_, fun x inside => ?_⟩
        · rw [List.map_append]
          refine old.names.append (List.nodup_singleton _) fun n inside single => ?_
          obtain ⟨x, queued, rfl⟩ := List.mem_map.mp inside
          obtain ⟨orig, tag⟩ := Prod.mk.inj (List.mem_singleton.mp single)
          have out := (h.named.queued x queued).1 e
          rw [show x.orig = m.orig from orig, show x.tag = m.tag from tag, inSalvo_of_mark mark] at out
          cases out
        · rcases List.mem_append.mp inside with queued | new
          · exact old.queued x queued
          · rw [List.mem_singleton.mp new]
            refine ⟨fun d => ?_, short_rebuild t m, nodup_rebuild h.marks m⟩
            show ((Machine.unstageAt t e).entry d).inSalvo m.orig m.tag = false
            rw [entry_unstageAt mark]
            split
            · rfl
            next out => exact Bool.eq_false_iff.mpr out
      · rw [joined]
        intro x inside
        rcases List.mem_append.mp inside with queued | new
        · exact h.held x queued
        · rw [List.mem_singleton.mp new]
          obtain ⟨y, staged⟩ := staged_of_mark mark
          exact ⟨(e, y), (mem_rebuild h.marks m e y).mpr ⟨m, staged, rfl, rfl⟩, .inr listed⟩

theorem PlanLaw.unstaging {s : State} (law : PlanLaw s) (ds : List Dst) : Unstaging s ds (unstageSalvos ds s) := by
  have start : Unstaging s ds s := ⟨law.table.marks, law.named, fun x listed => by
    obtain ⟨p, inside, held⟩ := law.held x listed
    exact ⟨p, inside, .inl held⟩⟩
  have loop : ∀ (l : List Dst) (t : State), (∀ e ∈ l, e ∈ ds) → Unstaging s ds t → Unstaging s ds (l.foldl unstageAt t) := by
    intro l
    induction l with
    | nil => exact fun _ _ => id
    | cons e l ih =>
      exact fun t sub h => ih _ (fun f later => sub f (List.mem_cons_of_mem _ later)) (h.unstageAt (sub e List.mem_cons_self))
  refine loop _ s (fun e listed => ?_) start
  simpa using (List.mem_filter.mp listed).2

/-! ### The trip action (R131) -/

section
variable {s : State} {g : Gid} {d : Dst}

/-- A fallback destination after the trip. -/
theorem trip_listed (distinct : (fallbackDests s g).Nodup) (listed : d ∈ fallbackDests s g) :
    ∃ x, (trip g s).entry d = { s.entry d with hold := some g, staged := some (.guarded x g) } ∧
      (trip g s).take.dirty.at d = true := by
  obtain ⟨p, inside, rfl⟩ := List.mem_map.mp listed
  obtain ⟨entry, dirty⟩ := holdPairs_at g distinct (d := p.1) (x := p.2) inside (unstageSalvos (fallbackDests s g) s)
  refine ⟨p.2, ?_, by rw [dirty_trip]; exact dirty⟩
  rw [entry_trip, heldBack, entry]
  by_cases touched : Touched s (fallbackDests s g) p.1
  · rw [entry_unstageSalvos_touched touched]
    rfl
  · rw [entry_unstageSalvos_untouched touched]

/-- Another destination after the trip has lost its staged change if its salvo was unstaged. -/
theorem trip_other (other : d ∉ fallbackDests s g) :
    (trip g s).entry d = (unstageSalvos (fallbackDests s g) s).entry d := by
  rw [entry_trip]
  exact (holdPairs_other g other _).1

theorem ends_unstageSalvos (ds : List Dst) (s : State) (d : Dst) : (unstageSalvos ds s).entry d = s.entry d ∨
    (unstageSalvos ds s).entry d = (s.entry d).unstaged := by
  by_cases touched : Touched s ds d
  · exact .inr (entry_unstageSalvos_touched touched)
  · exact .inl (entry_unstageSalvos_untouched touched)

theorem ends_trip (other : d ∉ fallbackDests s g) :
    (trip g s).entry d = s.entry d ∨ (trip g s).entry d = (s.entry d).unstaged := by
  rw [trip_other other]
  exact ends_unstageSalvos _ s d

theorem staged_ends_trip (other : d ∉ fallbackDests s g) : ((trip g s).entry d).staged = (s.entry d).staged ∨
    ((trip g s).entry d).staged = none := by
  rcases ends_trip other with same | gone
  · exact .inl (by rw [same])
  · exact .inr (by rw [gone]; rfl)

theorem hold_trip_other (other : d ∉ fallbackDests s g) : ((trip g s).entry d).hold = (s.entry d).hold := by
  rcases ends_trip other with same | gone
  · rw [same]
  · rw [gone]; rfl

theorem current_trip (g : Gid) (s : State) (d : Dst) : ((trip g s).entry d).current = (s.entry d).current := by
  rw [(stagesOnly_trip g s).entry]

theorem lock_trip (g : Gid) (s : State) (d : Dst) : ((trip g s).entry d).lock = (s.entry d).lock := by
  rw [(stagesOnly_trip g s).entry]

theorem guard_trip (g h : Gid) (s : State) : ((trip g s).guard h).defn = (s.guard h).defn ∧
    ((trip g s).guard h).state.holding = (decide (h = g) || (s.guard h).state.holding) := by
  have same : (trip g s).guard h = (tripped g s).guard h := rfl
  rw [same]
  by_cases own : h = g
  · subst own
    rw [guard_tripped]
    exact ⟨rfl, by simp [GuardState.holding]⟩
  · rw [guard_tripped_ne s own]
    exact ⟨rfl, by simp [own]⟩

theorem holdsMatch_trip (law : HoldsMatchGuards s) :
    HoldsMatchGuards (trip g s) := by
  have distinct := law.nodup g
  have lists : ∀ h, ((trip g s).guard h).defn.fallback = (s.guard h).defn.fallback := fun h => by rw [(guard_trip g h s).1]
  obtain ⟨apart, classes, held, own⟩ := id law
  refine ⟨by simpa only [lists] using apart, fun h p listed => ?_, fun d h => ?_, fun d h holds x change => ?_⟩
  · rw [lists] at listed
    rw [(trip_frame g s).2.1]
    exact classes h p listed
  · rw [lists, (guard_trip g h s).2, Bool.or_eq_true, decide_eq_true_eq]
    by_cases listed : d ∈ fallbackDests s g
    · obtain ⟨x, entry, -⟩ := trip_listed distinct listed
      rw [entry]
      constructor
      · intro same
        cases same
        exact ⟨.inl rfl, listed⟩
      · exact fun ⟨_, inside⟩ => congrArg some (law.apart listed inside)
    · rw [hold_trip_other listed, held]
      refine and_congr_left fun inside => ⟨.inr, fun either => either.resolve_left fun same => listed (same ▸ inside)⟩
  · by_cases listed : d ∈ fallbackDests s g
    · obtain ⟨y, entry, -⟩ := trip_listed distinct listed
      rw [entry] at holds change
      cases holds
      cases change
      exact ⟨y, rfl⟩
    · rw [hold_trip_other listed] at holds
      rcases staged_ends_trip listed with same | gone
      · exact own d h holds x (same ▸ change)
      · rw [gone] at change; cases change

theorem mark_trip (distinct : (fallbackDests s g).Nodup) {m : Mark} (mark : ((trip g s).entry d).mark = some m) :
    d ∉ fallbackDests s g ∧ ((unstageSalvos (fallbackDests s g) s).entry d).mark = some m := by
  by_cases listed : d ∈ fallbackDests s g
  · obtain ⟨x, entry, -⟩ := trip_listed distinct listed
    rw [entry] at mark
    cases mark
  · exact ⟨listed, trip_other listed ▸ mark⟩

theorem tableLaw_trip (law : TableLaw s) : TableLaw (trip g s) where
  holds := holdsMatch_trip law.holds
  marks := law.marks.fewer fun d m mark => by
    obtain ⟨listed, -⟩ := mark_trip (law.holds.nodup g) mark
    exact mark_of_ends (staged_ends_trip listed) mark
  dirty d staged := by
    by_cases listed : d ∈ fallbackDests s g
    · exact (trip_listed (law.holds.nodup g) listed).choose_spec.2
    · refine (stagesOnly_trip g s).dirty d (law.dirty d ?_)
      rcases staged_ends_trip listed with same | gone
      · exact same ▸ staged
      · rw [gone] at staged; cases staged
  locks d l x locked change := by
    rw [lock_trip] at locked
    by_cases listed : d ∈ fallbackDests s g
    · obtain ⟨y, entry, -⟩ := trip_listed (law.holds.nodup g) listed
      rw [entry] at change
      cases change
      exact .inl ⟨y, g, rfl⟩
    · rcases staged_ends_trip listed with same | gone
      · exact law.locks d l x locked (same ▸ change)
      · rw [gone] at change; cases change

theorem planLaw_trip (law : PlanLaw s) : PlanLaw (trip g s) := by
  have distinct := law.table.holds.nodup g
  obtain ⟨-, named, held⟩ := law.unstaging (fallbackDests s g)
  have salvos := (sameQueues_trip g s).salvos
  refine ⟨tableLaw_trip law.table, ?_, ?_⟩
  · rw [salvos]
    refine named.fewer (.refl _) fun o tag out d => Bool.eq_false_iff.mpr fun inside => ?_
    obtain ⟨m, mark, rfl, rfl⟩ := inSalvo_iff.mp inside
    have old := inSalvo_of_mark (mark_trip distinct mark).2
    rw [out d] at old
    cases old
  · rw [salvos]
    intro x queued
    obtain ⟨p, inside, holds⟩ := held x queued
    refine ⟨p, inside, ?_⟩
    by_cases listed : p.1 ∈ fallbackDests s g
    · obtain ⟨y, entry, -⟩ := trip_listed distinct listed
      rw [entry]
      rfl
    · rw [hold_trip_other listed]
      exact holds.resolve_right listed

/-- A trip unstages a salvo whole, or leaves all of it. -/
theorem lawfully_trip (distinct : (fallbackDests s g).Nodup) : StepsLawfully s (trip g s) where
  whole o tag := by
    by_cases touched : ∃ e ∈ fallbackDests s g, (s.entry e).inSalvo o tag = true
    · refine .inr ⟨fun d => Bool.eq_false_iff.mpr fun inside => ?_, .inr (.inl fun d _ => current_trip g s d)⟩
      obtain ⟨m, mark, rfl, rfl⟩ := inSalvo_iff.mp inside
      obtain ⟨listed, old⟩ := mark_trip distinct mark
      have before := mark_of_ends (staged_ends_trip listed) mark
      rw [entry_unstageSalvos_touched ⟨m, before, touched⟩] at old
      cases old
    · refine .inl fun d inside => ?_
      have listed : d ∉ fallbackDests s g := fun listed => touched ⟨d, listed, inside⟩
      rw [trip_other listed, entry_unstageSalvos_untouched]
      rintro ⟨m, mark, e, fallback, shares⟩
      obtain ⟨n, own, rfl, rfl⟩ := inSalvo_iff.mp inside
      rw [mark] at own
      cases own
      exact touched ⟨e, fallback, shares⟩
  locked d l _ _ changed := absurd (current_trip g s d) changed

end

end Sys2Proof.Machine
end

section
/-! SUPPORT. The laws of guards and salvos through the examination of the queue and the restore action. -/

namespace Sys2Proof.Machine

/-! ### The examination of the queue (R31) -/

/-- What the examination of the entries `xs` in `s` makes: the state `t`, and the entries `ys` that stay. -/
structure Examined (s : State) (xs : List PendingSalvo) (t : State) (ys : List PendingSalvo) : Prop where
  table : TableLaw t
  named : QueueNamed t ys
  held : QueueHeld t ys
  kept : PlanKept s t
  hold : ∀ d, (t.entry d).hold = (s.entry d).hold
  sub : ys.Sublist xs
  out : ∀ o tag, (∀ d, (s.entry d).inSalvo o tag = false) → (∀ x ∈ xs, (x.orig, x.tag) ≠ (o, tag)) →
    ∀ d, (t.entry d).inSalvo o tag = false

section
variable {s t u : State} {x : PendingSalvo} {xs ys : List PendingSalvo}

theorem QueueNamed.tail (h : QueueNamed s (x :: xs)) : QueueNamed s xs :=
  h.fewer (List.sublist_cons_self x xs) fun _ _ => id

theorem QueueNamed.head (h : QueueNamed s (x :: xs)) : ∀ y ∈ xs, (y.orig, y.tag) ≠ (x.orig, x.tag) := fun y listed same => by
  have names := h.names
  rw [List.map_cons, List.nodup_cons] at names
  exact names.1 (List.mem_map.mpr ⟨y, listed, same⟩)

/-- An entry that names a held destination stays. -/
theorem Examined.stays (named : QueueNamed s (x :: xs)) (held : ∃ p ∈ x.pairs, (s.entry p.1).hold.isSome = true)
    (h : Examined s xs t ys) : Examined s (x :: xs) t (x :: ys) where
  table := h.table
  named := by
    refine ⟨(h.sub.cons_cons x).map _ |>.nodup named.names, fun y listed => ?_⟩
    rcases List.mem_cons.mp listed with rfl | later
    · obtain ⟨out, rest⟩ := named.queued y List.mem_cons_self
      exact ⟨h.out _ _ out named.head, rest⟩
    · exact h.named.queued y later
  held y listed := by
    rcases List.mem_cons.mp listed with rfl | later
    · obtain ⟨p, inside, holds⟩ := held
      exact ⟨p, inside, by rwa [h.hold]⟩
    · exact h.held y later
  kept := h.kept
  hold := h.hold
  sub := h.sub.cons_cons x
  out o tag apart others := h.out o tag apart fun y later => others y (List.mem_cons_of_mem _ later)

/-- An entry that ends, or is staged, leaves the queue. -/
theorem Examined.leaves (kept : PlanKept s u) (hold : ∀ d, (u.entry d).hold = (s.entry d).hold)
    (out : ∀ o tag, (x.orig, x.tag) ≠ (o, tag) → (∀ d, (s.entry d).inSalvo o tag = false) →
      ∀ d, (u.entry d).inSalvo o tag = false) (h : Examined u xs t ys) : Examined s (x :: xs) t ys where
  table := h.table
  named := h.named
  held := h.held
  kept := kept.trans h.kept
  hold d := (h.hold d).trans (hold d)
  sub := h.sub.cons x
  out o tag apart others := h.out o tag (out o tag (others x List.mem_cons_self) apart) fun y later =>
    others y (List.mem_cons_of_mem _ later)

/-- An entry that ends changes nothing in the route table. -/
theorem Examined.ends (same : ∀ d, u.entry d = s.entry d) (h : Examined u xs t ys) : Examined s (x :: xs) t ys :=
  h.leaves ⟨fun d => by rw [same], fun d _ => by rw [same]⟩ (fun d => by rw [same]) fun o tag _ apart d => by
    rw [same]; exact apart d

theorem TableLaw.of_same (h : TableLaw s) (guards : t.guards = s.guards) (defs : t.defs = s.defs)
    (routes : t.routes = s.routes) (take : t.take = s.take) : TableLaw t :=
  h.grows ⟨guards, defs, fun d => by rw [entry_congr routes d], fun d => by rw [take]; exact id,
    fun d => .inl (by rw [entry_congr routes d])⟩
    (h.marks.fewer fun d m mark => by rwa [entry_congr routes d] at mark)

theorem QueueNamed.of_entries (h : QueueNamed s xs) (same : ∀ d, t.entry d = s.entry d) : QueueNamed t xs :=
  h.fewer (.refl _) fun o tag apart d => by rw [same]; exact apart d

theorem examined_examine (xs : List PendingSalvo) {s : State} (table : TableLaw s) (named : QueueNamed s xs) :
    Examined s xs (examine xs s).1 (examine xs s).2 := by
  induction xs generalizing s with
  | nil => exact ⟨table, named, nofun, .refl s, fun _ => rfl, .refl _, fun _ _ apart _ => apart⟩
  | cons x xs ih =>
    have told : ∀ {kind tag code ended detail} {u : State}, TableLaw u → QueueNamed u xs →
        Examined u (x :: xs) (examine xs (outcome x.orig kind tag code ended detail u)).1
          (examine xs (outcome x.orig kind tag code ended detail u)).2 := by
      intro kind tag code ended detail u table named
      have same : ∀ d, (outcome x.orig kind tag code ended detail u).entry d = u.entry d := fun d =>
        entry_congr (by simp) d
      exact (ih (table.of_same (by simp) (by simp) (by simp) (by simp)) (named.of_entries same)).ends same
    cases held : anyHeld s x.pairs with
    | true =>
      rw [examine_held held]
      exact (ih table named.tail).stays named ((anyHeld_iff s x.pairs).mp held)
    | false =>
      cases locked : firstLocked s x.orig x.pairs with
      | some i =>
        rw [examine_locked held locked]
        exact told table named.tail
      | none =>
        cases marked : anyMarked s x.pairs with
        | true =>
          rw [examine_marked held locked marked]
          exact told table named.tail
        | false =>
          rw [examine_stages held locked marked]
          obtain ⟨apart, short, distinct⟩ := named.queued x List.mem_cons_self
          have stageable : Stageable s x.orig x.tag x.pairs := ⟨short, distinct, apart, fun p => locked_listed locked,
            fun p listed => by
              by_contra some
              rw [(anyMarked_iff s x.pairs).mpr ⟨p, listed, Option.ne_none_iff_isSome.mp some⟩] at marked
              cases marked⟩
          have grows := planGrows_stageSalvo stageable held x.isRecall
          have later : QueueNamed (stageSalvo x.orig x.tag x.isRecall x.pairs s) xs :=
            ⟨named.tail.names, fun y listed => (named.tail.queued y listed).imp_left fun out d =>
              inSalvo_stageSalvo distinct (named.head y listed) (out d)⟩
          have staged := tableLaw_stageSalvo table stageable held x.isRecall
          have same : ∀ {kind tag code ended detail} (d : Dst), (outcome x.orig kind tag code ended detail
              (stageSalvo x.orig x.tag x.isRecall x.pairs s)).entry d =
                (stageSalvo x.orig x.tag x.isRecall x.pairs s).entry d := fun d => entry_congr (by simp) d
          refine (ih (staged.of_same (by simp) (by simp) (by simp) (by simp)) (later.of_entries same)).leaves ?_ ?_ ?_
          · exact grows.kept.trans ⟨fun d => by rw [same], fun d _ => by rw [same]⟩
          · exact fun d => by rw [same, grows.hold]
          · exact fun o tag other out d => by rw [same]; exact inSalvo_stageSalvo distinct (Ne.symm other) (out d)

end

/-! ### The restore action (R136) -/

section
variable {s : State} {g : Gid} {r : List Src} {d : Dst}

theorem firsts_zip_sublist {α β : Type} (l : List α) (m : List β) : ((l.zip m).map Prod.fst).Sublist l := by
  induction l generalizing m with
  | nil => exact .refl _
  | cons a l ih =>
    cases m with
    | nil => exact List.nil_sublist _
    | cons b m => exact (ih m).cons_cons a

/-- A fallback destination after its hold has ended: its saved source is staged, if there is one. -/
theorem letGo_listed (distinct : (fallbackDests s g).Nodup) (listed : d ∈ fallbackDests s g) :
    ((letGo g r s).entry d).hold = none ∧ (((letGo g r s).entry d).staged = (s.entry d).staged ∨
      ∃ x, ((letGo g r s).entry d).staged = some (.guarded x g) ∧ (letGo g r s).take.dirty.at d = true) := by
  rw [entry_letGo, entry_endHolds, if_pos listed, stageReturns_eq]
  refine ⟨rfl, ?_⟩
  by_cases returned : d ∈ ((fallbackDests s g).zip r).map Prod.fst
  · obtain ⟨p, inside, rfl⟩ := List.mem_map.mp returned
    obtain ⟨entry, dirty⟩ := stagePairsBack_at (s := s) (g := g) (d := p.1) (x := p.2)
      ((firsts_zip_sublist _ _).nodup distinct) inside
    exact .inr ⟨p.2, by rw [entry], by rw [dirty_letGo]; exact dirty⟩
  · exact .inl (by rw [(stagePairsBack_other returned).1])

theorem letGo_other (other : d ∉ fallbackDests s g) : (letGo g r s).entry d = s.entry d := by
  rw [entry_letGo, entry_endHolds, if_neg other, stageReturns_eq]
  exact (stagePairsBack_other fun returned => other ((firsts_zip_sublist _ _).subset returned)).1

theorem stagesOnly_letGo (g : Gid) (r : List Src) (s : State) : StagesOnly s (letGo g r s) :=
  ((stagesOnly_stageReturns g (fallbackDests s g) r s).trans (stagesOnly_endHolds _ _)).then_routes rfl rfl

/-- Held by a tripped or recovering guard, a fallback destination has nothing staged but the guard's change. -/
theorem unmarked_held (law : HoldsMatchGuards s) (holds : (s.guard g).state.holding = true)
    (listed : d ∈ fallbackDests s g) : (s.entry d).hold = some g ∧ (s.entry d).mark = none := by
  obtain ⟨-, -, held, own⟩ := law
  have hold := (held d g).mpr ⟨holds, listed⟩
  refine ⟨hold, ?_⟩
  unfold Entry.mark
  cases staged : (s.entry d).staged with
  | none => rfl
  | some x =>
    obtain ⟨y, rfl⟩ := own d g hold x staged
    rfl

/-- The changes of a restore are staged on destinations that had no mark. -/
theorem mark_letGo (law : HoldsMatchGuards s) (holds : (s.guard g).state.holding = true) (d : Dst) :
    ((letGo g r s).entry d).mark = (s.entry d).mark := by
  by_cases listed : d ∈ fallbackDests s g
  · rw [(unmarked_held law holds listed).2]
    rcases (letGo_listed (r := r) (law.nodup g) listed).2 with same | ⟨x, returned, -⟩
    · rw [Entry.mark, same]
      exact (unmarked_held law holds listed).2
    · rw [Entry.mark, returned]
      rfl
  · rw [letGo_other listed]

theorem holdsMatch_letGo (law : HoldsMatchGuards s) : HoldsMatchGuards (letGo g r s) := by
  have lists : ∀ h, ((letGo g r s).guard h).defn = (s.guard h).defn := fun h => by
    rw [guard_letGo]
    split
    next same => rw [same]
    next => rfl
  obtain ⟨apart, classes, held, own⟩ := id law
  have hold : ∀ d h, ((letGo g r s).entry d).hold = some h → d ∉ fallbackDests s g ∧ (s.entry d).hold = some h := by
    intro d h still
    by_cases listed : d ∈ fallbackDests s g
    · rw [(letGo_listed (law.nodup g) listed).1] at still; cases still
    · exact ⟨listed, letGo_other listed ▸ still⟩
  refine ⟨by simpa only [lists] using apart, fun h p listed => ?_, fun d h => ⟨fun still => ?_, fun ⟨holding, inside⟩ => ?_⟩,
    fun d h still x change => ?_⟩
  · rw [lists] at listed
    rw [congrArg State.defs (letGo_rest g r s)]
    exact classes h p listed
  · obtain ⟨listed, before⟩ := hold d h still
    obtain ⟨holding, inside⟩ := (held d h).mp before
    have other : h ≠ g := fun same => listed (same ▸ inside)
    rw [guard_letGo, if_neg other]
    exact ⟨holding, inside⟩
  · rw [lists] at inside
    rw [guard_letGo] at holding
    split at holding
    · cases holding
    next other =>
      have listed : d ∉ fallbackDests s g := fun listed => other (law.apart listed inside).symm
      rw [letGo_other listed]
      exact (held d h).mpr ⟨holding, inside⟩
  · obtain ⟨listed, before⟩ := hold d h still
    rw [letGo_other listed] at change
    exact own d h before x change

theorem tableLaw_letGo (law : TableLaw s) (holds : (s.guard g).state.holding = true) : TableLaw (letGo g r s) where
  holds := holdsMatch_letGo law.holds
  marks := law.marks.fewer fun d m mark => mark_letGo (r := r) law.holds holds d ▸ mark
  dirty d staged := by
    by_cases listed : d ∈ fallbackDests s g
    · rcases (letGo_listed (r := r) (law.holds.nodup g) listed).2 with same | ⟨x, -, dirty⟩
      · exact (stagesOnly_letGo g r s).dirty d (law.dirty d (same ▸ staged))
      · exact dirty
    · rw [letGo_other listed] at staged
      exact (stagesOnly_letGo g r s).dirty d (law.dirty d staged)
  locks d l x locked change := by
    rw [(stagesOnly_letGo g r s).entry] at locked
    by_cases listed : d ∈ fallbackDests s g
    · rcases (letGo_listed (r := r) (law.holds.nodup g) listed).2 with same | ⟨y, returned, -⟩
      · exact law.locks d l x locked (same ▸ change)
      · rw [returned] at change
        cases change
        exact .inl ⟨y, g, rfl⟩
    · rw [letGo_other listed] at change
      exact law.locks d l x locked change

theorem planKept_letGo (law : HoldsMatchGuards s) (holds : (s.guard g).state.holding = true) :
    PlanKept s (letGo g r s) where
  current d := by rw [(stagesOnly_letGo g r s).entry]
  staged d marked := by
    by_cases listed : d ∈ fallbackDests s g
    · rw [(unmarked_held law holds listed).2] at marked; cases marked
    · rw [letGo_other listed]

theorem planHolds_restore (law : PlanLaw s) (holds : (s.guard g).state.holding = true) (r : List Src) :
    PlanHolds s (restore g r s) := by
  have salvos : (letGo g r s).salvos = s.salvos := by
    have rest := congrArg State.salvos (letGo_rest g r s)
    exact rest
  have named : QueueNamed (letGo g r s) (letGo g r s).salvos := by
    rw [salvos]
    refine law.named.fewer (.refl _) fun o tag out d => ?_
    rw [Entry.inSalvo, mark_letGo law.table.holds holds]
    exact out d
  have examined := examined_examine _ (tableLaw_letGo (r := r) law.table holds) named
  have law' : PlanLaw (restored g r s) := by
    rw [restored_eq]
    exact ⟨examined.table.of_same rfl rfl rfl rfl, examined.named.of_entries fun _ => rfl, examined.held⟩
  have after : PlanKept (letGo g r s) (restored g r s) := ⟨examined.kept.current, examined.kept.staged⟩
  have kept : PlanKept s (restored g r s) := (planKept_letGo law.table.holds holds).trans after
  rw [restore_eq]
  exact (⟨law', kept⟩ : PlanHolds s _).of_same rfl rfl rfl rfl rfl

end

end Sys2Proof.Machine
end

section
/-! SUPPORT. The laws of guards and salvos through every effect; the obligation O58. -/

namespace Sys2Proof.Machine

/-! ### Effects that leave the plan alone -/

section
variable {s t : State}

theorem planStands_setEntry {d : Dst} {e : Entry} (same : (s.entry d).SamePlan e) : PlanStands s (s.setEntry d e) := by
  refine .of_entries rfl rfl rfl (fun i => ?_) fun _ => id
  rw [entry_setEntry]
  split
  next own => rw [← own]; exact same
  next => exact .refl _

theorem planStands_markDirty (d : Dst) (s : State) : PlanStands s (s.markDirty d) :=
  .of_entries rfl rfl rfl (fun _ => .refl _) (dirty_markDirty d s)

theorem planStands_enterTalk (k : KeyId) (x : KeyTarget) (s : State) : PlanStands s (enterTalk k x s) := by
  cases x with
  | party y call => cases call <;> exact .of_same (by simp) (by simp) (by simp) (by simp [enterTalk]) (by simp [enterTalk])
  | ifb d =>
    have listed : PlanStands s (s.setEntry d { s.entry d with interrupters := (s.entry d).interrupters ++ [k] }) :=
      planStands_setEntry ⟨rfl, rfl, rfl, rfl⟩
    exact listed.trans (planStands_markDirty d _)

theorem planStands_leaveTalk (k : KeyId) (x : KeyTarget) (s : State) : PlanStands s (leaveTalk k x s) :=
  (listsShrink_leaveTalk k x s).stands (by simp) (by simp) (by simp)

theorem planStands_moveKey (k : KeyId) (new : KeyState) (s : State) : PlanStands s (moveKey k new s) := by
  have keyed : PlanStands s (s.setKey k { s.key k with state := new }) := .of_same rfl rfl rfl rfl rfl
  unfold moveKey
  dsimp only
  split
  · exact keyed
  · split
    · exact keyed.trans (planStands_enterTalk ..)
    · split
      · exact keyed.trans (planStands_leaveTalk ..)
      · exact keyed

theorem planStands_setGuardState {g : Gid} {x : GuardState} (same : x.holding = (s.guard g).state.holding) :
    PlanStands s (s.setGuardState g x) where
  guards := by
    refine ⟨fun h => ?_, fun h => ?_, fun _ _ _ => id⟩
    · by_cases own : g = h
      · rw [← own, guard_setGuardState_same]
      · rw [guard_setGuardState_ne _ _ own]
    · by_cases own : g = h
      · rw [← own, guard_setGuardState_same, same]
      · rw [guard_setGuardState_ne _ _ own]
  entry _ := .refl _
  dirty _ := id
  salvos := .refl _

/-- Guards that move between the states of their kind, in any number. -/
theorem planStands_guards (guards : ∀ g, (t.guard g).defn = (s.guard g).defn ∧
    (t.guard g).state.holding = (s.guard g).state.holding) (defs : t.defs = s.defs) (salvos : t.salvos = s.salvos)
    (entry : ∀ d, (s.entry d).SamePlan (t.entry d)) (take : t.take.dirty = s.take.dirty) : PlanStands s t where
  guards := ⟨fun g => by rw [(guards g).1], fun g => (guards g).2, fun _ _ _ => by rw [defs]; exact id⟩
  entry := entry
  dirty d := by rw [take]; exact id
  salvos := salvos ▸ .refl _

theorem planStands_sampleChange (l : Lid) (high : Bool) (s : State) : PlanStands s (sampleChange l high s) := by
  refine planStands_guards (fun g => ?_) (by simp) (by simp) (fun d => ?_) (by simp)
  · rcases guard_sampleChange l high s g with same | changed
    · rw [same]; exact ⟨rfl, rfl⟩
    · rw [changed]; exact ⟨defn_guardOnChange l high _, holding_guardOnChange l high _⟩
  · rw [entry_congr (sampleChange_frame l high s).2.2.1 d]
    exact .refl _

theorem planStands_tick (s : State) : PlanStands s (tick s) :=
  planStands_guards (fun g => by rw [tick_guard]; exact ⟨tickGuard_defn _, holding_tickGuard _⟩) rfl rfl
    (fun d => by rw [tick_entry, tickEntry_kept]; exact ⟨rfl, rfl, rfl, rfl⟩) rfl

theorem planStands_armBlock (g : Gid) (s : State) : PlanStands s (armBlock g.1 s).1 := by
  rw [armBlock_inRange]
  split
  · exact .refl s
  next disabled =>
    split
    · exact .refl s
    · have state : (s.guard g).state = .disabled := (isDisabled_iff _).mp (by simpa using disabled)
      exact planStands_setGuardState (by rw [holding_armedState, state]; rfl)

theorem planStands_armAtStart (s : State) : PlanStands s (armAtStart s) := by
  refine .foldl (fun t g => ?_) (fins 4) s
  split
  · exact planStands_armBlock g t
  · exact .refl t

theorem planStands_redefine {d : Dst} {x : DestDef} (free : x.cls = .ifb → inFallback s d = false) :
    PlanStands s (redefine d x s) where
  guards := by
    have guards : (redefine d x s).guards = s.guards := (redefine_frame d x s).2.2.2.2.2.1
    have defs : (redefine d x s).defs = s.defs.put d x := (refresh_frame { s with defs := s.defs.put d x }).2.1
    refine ⟨fun g => by rw [guard_congr guards g], fun g => by rw [guard_congr guards g], fun g p listed ifb => ?_⟩
    rw [defs, Tab.at_put] at ifb
    split at ifb
    next same =>
      have unlisted := List.any_eq_false.mp (free ifb) g (mem_fins g)
      rw [List.contains_iff_mem] at unlisted
      exact absurd (List.mem_map.mpr ⟨p, listed, same.symm⟩) unlisted
    next => exact ifb
  entry d := by rw [entry_congr (redefine_frame _ x s).2.1 d]; exact .refl _
  dirty d := by rw [(redefine_frame _ x s).2.2.2.1]; exact id
  salvos := by rw [(redefine_frame _ x s).2.2.1]

end

/-! ### The load and the starts (R188, R189) -/

/-- The configuration in force after a load has good fallback lists, stored or factory (R188). -/
theorem fallbacksGood_loadedConfig (s : State) : fallbacksGood (loadedConfig s) = true := by
  unfold loadedConfig
  cases stored : storedConfig s.store.mem with
  | none =>
    have factory : ∀ g, (Loaded.factory.guards.at g).fallback = [] := fun g => by
      rw [show Loaded.factory.guards.at g = GuardDef.factory from Tab.at_tabOf _ g]
      rfl
    show fallbacksGood Loaded.factory = true
    have empty : ((fins 4).flatMap fun _ => ([] : List Dst)) = [] := List.flatMap_eq_nil_iff.mpr fun _ _ => rfl
    simp [fallbacksGood, factory, empty, distinct]
  | some c =>
    unfold storedConfig judge at stored
    split at stored
    · split at stored
      next c' _ =>
        split at stored
        next checks =>
          cases stored
          simp only [crossChecks, Bool.and_eq_true] at checks
          exact checks.1.1.1.2
        next => cases stored
      next => cases stored
    · cases stored

section
variable {s : State}

/-- A table with nothing staged, locked, held or queued is lawful, whatever the guards' lists, if none of them holds. -/
theorem planLaw_of_bare (bare : ∀ d, (s.entry d).staged = none ∧ (s.entry d).lock = none ∧ (s.entry d).hold = none)
    (salvos : s.salvos = []) (rests : ∀ g, (s.guard g).state.holding = false)
    (apart : ((fins 4).flatMap fun g => (s.guard g).defn.fallback.map Prod.fst).Nodup)
    (classes : ∀ g, ∀ p ∈ (s.guard g).defn.fallback, (s.defs.at p.1).cls ≠ .ifb) : PlanLaw s := by
  have unmarked : ∀ d m, (s.entry d).mark ≠ some m := fun d m mark => by
    rw [Entry.mark, (bare d).1] at mark
    cases mark
  refine ⟨⟨⟨apart, classes, fun d g => ⟨fun hold => ?_, fun ⟨holding, _⟩ => ?_⟩, fun d g hold => ?_⟩,
    ⟨fun d m mark => absurd mark (unmarked d m), fun d e m n mark => absurd mark (unmarked d m)⟩, fun d staged => ?_,
    fun d l x lock => ?_⟩, ?_, ?_⟩
  · rw [(bare d).2.2] at hold; cases hold
  · rw [rests] at holding; cases holding
  · rw [(bare d).2.2] at hold; cases hold
  · rw [(bare d).1] at staged; cases staged
  · rw [(bare d).2.1] at lock; cases lock
  · rw [salvos]; exact ⟨.nil, nofun⟩
  · rw [salvos]; exact nofun

theorem planStands_raise (c : Cause) (s : State) : PlanStands s (raise c s) := .of_same rfl rfl rfl rfl rfl

theorem planStands_enterReady (s : State) : PlanStands s (enterReady s) := .of_same rfl rfl rfl rfl rfl

theorem planLaw_endLoad (waits : Waits s) : PlanLaw (endLoad s) := by
  have good := fallbacksGood_loadedConfig s
  simp only [fallbacksGood, Bool.and_eq_true, distinct_iff, List.all_eq_true, bne_iff_ne] at good
  have guard : ∀ g, (install (loadedConfig s) s).guard g = { s.guard g with defn := (loadedConfig s).guards.at g } :=
    fun g => Tab.at_tabOf _ g
  have installed : PlanLaw (install (loadedConfig s) s) := by
    refine planLaw_of_bare (fun d => ?_) waits.salvos (fun g => ?_) ?_ fun g p listed => ?_
    · obtain ⟨staged, lock, hold, -⟩ := waits.entries d
      rw [entry_install]
      exact ⟨staged, lock, hold⟩
    · rw [guard, waits.guards g]
      rfl
    · simpa only [guard] using good.1
    · rw [guard] at listed
      exact good.2 g (mem_fins g) p listed
  have ends : ∀ v, PlanStands v (enterReady (armAtStart (refresh v))) := fun v =>
    ((PlanStands.refl v).refresh.trans (planStands_armAtStart _)).trans (planStands_enterReady _)
  obtain ⟨v, loaded, same | raised⟩ := endLoad_eq s
  · rw [loaded, same]
    exact installed.ends (ends _).ends
  · rw [loaded, raised]
    exact installed.ends ((planStands_raise .configDefaulted _).trans (ends _)).ends

/-- Where nothing is staged or locked, any step is lawful. -/
theorem StepsLawfully.of_bare (bare : ∀ d, (s.entry d).staged = none ∧ (s.entry d).lock = none) (t : State) :
    StepsLawfully s t where
  whole o tag := .inl fun d inside => by
    rw [Entry.inSalvo, Entry.mark, (bare d).1] at inside
    cases inside
  locked d l lock := by
    rw [(bare d).2] at lock
    cases lock

theorem startUp_entry (cause : StartCause) (s : State) (d : Dst) :
    (startUp cause s).entry d = Entry.fresh (DestDef.factory d).home := Tab.at_tabOf _ d

theorem startUp_guard (cause : StartCause) (s : State) (g : Gid) :
    (startUp cause s).guard g = ⟨GuardDef.factory, .disabled⟩ := Tab.at_tabOf _ g

theorem planLaw_startUp (cause : StartCause) (s : State) : PlanLaw (startUp cause s) := by
  refine planLaw_of_bare (fun d => ?_) rfl (fun g => ?_) ?_ fun g p listed => ?_
  · rw [startUp_entry]; exact ⟨rfl, rfl, rfl⟩
  · rw [startUp_guard]; rfl
  · simp only [startUp_guard]; decide
  · rw [startUp_guard] at listed; cases listed

theorem lawfully_startUp (cause : StartCause) (s : State) : StepsLawfully s (startUp cause s) where
  whole o tag := .inr ⟨fun d => by rw [startUp_entry]; rfl, .inr (.inr rfl)⟩
  locked d l _ still := by
    rw [startUp_entry] at still
    cases still

/-! ### RESTART (R24, R142) -/

theorem reevaluate_kind (v : State) (x : Guard) : (reevaluate v x).state.holding = x.state.holding := by
  cases state : x.state with
  | disabled => rw [reevaluate_disabled state]
  | armed => rw [reevaluate_waiting (.inl state), holding_armedState]; rfl
  | debouncing n => rw [reevaluate_waiting (.inr ⟨n, state⟩), holding_armedState]; rfl
  | tripped r =>
    rw [reevaluate_holding (.inl state)]
    split <;> rfl
  | recovering n r =>
    rw [reevaluate_holding (.inr ⟨n, state⟩)]
    split <;> rfl

theorem planEnds_restartBlock (tag : Byte) (s : State) : PlanEnds s (restartBlock tag s).1 where
  guards := by
    have guard : ∀ g, (restartBlock tag s).1.guard g = reevaluate (restartTalk (restartRoutes s)) (s.guard g) :=
      guards_afterRestart tag s
    have defs : (restartBlock tag s).1.defs = s.defs :=
      (refresh_frame (restartLinks (restartGuards (restartTalk (restartRoutes s))))).2.1
    refine ⟨fun g => by rw [guard]; rfl, fun g => ?_, fun g p _ => by rw [defs]; exact id⟩
    rw [guard, reevaluate_kind]
  hold d := by rw [entry_restartBlock]; rfl
  lock d := by rw [entry_restartBlock]; exact .inl rfl
  staged d := by
    rw [entry_restartBlock]
    show keptStaged _ = _ ∨ keptStaged _ = none
    unfold keptStaged
    split
    next staged => exact .inl staged.symm
    next => exact .inr rfl
  dirty d _ dirty := by
    have take : (restartBlock tag s).1.take = (restartRoutes s).take :=
      (refresh_frame (restartLinks (restartGuards (restartTalk (restartRoutes s))))).2.2.2.2.1
    rw [take]
    refine (Tab.at_tabOf _ d).trans ?_
    rw [dirty]
    rfl
  salvos := List.nil_sublist _

theorem lawfully_restartBlock (tag : Byte) (s : State) : StepsLawfully s (restartBlock tag s).1 where
  whole o t := by
    refine .inr ⟨fun d => ?_, .inr (.inl fun d _ => by rw [entry_restartBlock]; rfl)⟩
    rw [entry_restartBlock, Entry.inSalvo, Entry.mark]
    have kept : ∀ x, (keptStaged x).bind Staged.mark = none := fun x => by
      unfold keptStaged
      split <;> rfl
    rw [show (restartEntry (twoFrames s) (s.entry d)).staged = keptStaged (s.entry d).staged from rfl, kept]
  locked d l _ _ changed := by
    rw [entry_restartBlock] at changed
    exact absurd rfl changed

end

/-! ### Routes, locks and definitions of guards -/

section
variable {s : State}

theorem planGrows_route {d : Dst} {o : Origin} (x : Src) (free : (s.entry d).hold = none)
    (unlocked : ¬LockedTo (s.entry d) o) (unmarked : (s.entry d).mark = none) :
    PlanGrows s (stageOn d (.routed x o) s) where
  guards := rfl
  defs := rfl
  entry e := by
    rw [entry_stageOn]
    split <;> rfl
  dirty := (stagesOnly_stageOn ..).dirty
  staged e := by
    rw [entry_stageOn, dirty_stageOn]
    split
    next same =>
      subst same
      exact .inr ⟨unmarked, free, rfl, _, rfl, permitted_of_unlocked unlocked rfl⟩
    next => exact .inl rfl

theorem planHolds_route (law : PlanLaw s) {d : Dst} {o : Origin} (x : Src) (free : (s.entry d).hold = none)
    (unlocked : ¬LockedTo (s.entry d) o) (unmarked : (s.entry d).mark = none) :
    PlanHolds s (stageOn d (.routed x o) s) := by
  have grows := planGrows_route x free unlocked unmarked
  have marks : ∀ e, ((stageOn d (.routed x o) s).entry e).mark = (s.entry e).mark := fun e => by
    rw [entry_stageOn]
    split
    next same => rw [← same, unmarked]; rfl
    next => rfl
  refine ⟨⟨law.table.grows grows (law.table.marks.fewer fun e m mark => marks e ▸ mark),
    law.named.fewer (.refl _) fun p t out e => ?_, fun y queued => ?_⟩, grows.kept⟩
  · rw [Entry.inSalvo, marks]
    exact out e
  · obtain ⟨p, inside, held⟩ := law.held y queued
    exact ⟨p, inside, by rwa [grows.hold]⟩

/-- A lock is set where nothing is staged that it would not permit. -/
theorem permitted_of_allowed {e : Entry} {o : Origin} {kind : LockKind} (allowed : forbidsLock o kind e = false)
    {x : Staged} (staged : e.staged = some x) : PermittedBy ⟨o, kind⟩ x := by
  unfold forbidsLock at allowed
  rw [staged] at allowed
  simp only [Bool.or_eq_false_iff, decide_eq_false_iff_not, bne_eq_false_iff_eq] at allowed
  refine .inr ⟨?_, allowed.2⟩
  cases kind with
  | protect => rfl
  | lock => exact absurd rfl allowed.1

theorem planHolds_lock (law : PlanLaw s) {o : Origin} {kind : LockKind} {d : Dst}
    (allowed : forbidsLock o kind (s.entry d) = false) :
    PlanHolds s (s.setEntry d { s.entry d with lock := some ⟨o, kind⟩ }) := by
  have entry : ∀ e, (s.setEntry d { s.entry d with lock := some ⟨o, kind⟩ }).entry e =
      { s.entry e with lock := if d = e then some ⟨o, kind⟩ else (s.entry e).lock } := fun e => by
    rw [entry_setEntry]
    split
    next same => rw [same]
    next => rfl
  generalize made : s.setEntry d { s.entry d with lock := some ⟨o, kind⟩ } = t at entry ⊢
  have guards : t.guards = s.guards ∧ t.defs = s.defs ∧ t.salvos = s.salvos ∧ t.take = s.take := by
    rw [← made]
    exact ⟨rfl, rfl, rfl, rfl⟩
  obtain ⟨guards, defs, salvos, take⟩ := guards
  have marks : ∀ e, (t.entry e).mark = (s.entry e).mark := fun e => by rw [entry]; rfl
  refine ⟨⟨⟨law.table.holds.stand (.of_same guards defs) (fun e => by rw [entry]) fun e x change _ => ?_,
    law.table.marks.fewer fun e m mark => marks e ▸ mark, fun e staged => ?_, fun e l x locked change => ?_⟩, ?_, ?_⟩,
    ⟨fun e => by rw [entry], fun e _ => by rw [entry]⟩⟩
  · rw [entry] at change
    exact change
  · rw [entry] at staged
    rw [take]
    exact law.table.dirty e staged
  · rw [entry] at locked change
    dsimp only at locked
    split at locked
    next same =>
      subst same
      cases locked
      exact permitted_of_allowed allowed change
    next => exact law.table.locks e l x locked change
  · rw [salvos]
    refine law.named.fewer (.refl _) fun p g out e => ?_
    rw [Entry.inSalvo, marks]
    exact out e
  · rw [salvos]
    intro x queued
    obtain ⟨p, inside, held⟩ := law.held x queued
    exact ⟨p, inside, by rw [entry]; exact held⟩

theorem planEnds_unlock (s : State) (d : Dst) : PlanEnds s (s.setEntry d { s.entry d with lock := none }) := by
  have entry : ∀ e, (s.setEntry d { s.entry d with lock := none }).entry e = s.entry e ∨
      (s.setEntry d { s.entry d with lock := none }).entry e = { s.entry e with lock := none } := fun e => by
    rw [entry_setEntry]
    split
    next same => rw [same]; exact .inr rfl
    next => exact .inl rfl
  refine ⟨.of_same rfl rfl, fun e => ?_, fun e => ?_, fun e => ?_, fun _ _ => id, .refl _⟩
  all_goals rcases entry e with same | unlocked
  · rw [same]
  · rw [unlocked]
  · rw [same]; exact .inl rfl
  · rw [unlocked]; exact .inr rfl
  · rw [same]; exact .inl rfl
  · rw [unlocked]; exact .inl rfl

theorem holdsMatch_defineGuard (law : HoldsMatchGuards s) {g : Gid} {f : GuardDef} (distinct : (f.fallback.map Prod.fst).Nodup)
    (disabled : (s.guard g).state = .disabled) (classes : ∀ p ∈ f.fallback, (s.defs.at p.1).cls ≠ .ifb)
    (shares : sharesDest s g f = false) : HoldsMatchGuards (s.setGuard g { s.guard g with defn := f }) := by
  have alone : ∀ h, h ≠ g → ∀ d ∈ f.fallback.map Prod.fst, d ∉ (s.guard h).defn.fallback.map Prod.fst :=
    fun h other d own inside => by
      rw [(sharesDest_iff s g f).mpr ⟨h, other, d, own, inside⟩] at shares
      cases shares
  obtain ⟨apart, old, held, own⟩ := id law
  have pairs := List.nodup_flatMap.mp apart
  refine ⟨List.nodup_flatMap.mpr ⟨fun h _ => ?_, ?_⟩, fun h p listed => ?_, fun d h => ?_, own⟩
  · rw [guard_setGuard]
    split
    · exact distinct
    · exact pairs.1 h (mem_fins h)
  · refine (pairs.2.and (pairwise_fins 4)).imp fun {a b} ⟨disjoint, before⟩ d inA inB => ?_
    replace inA : d ∈ ((s.setGuard g { s.guard g with defn := f }).guard a).defn.fallback.map Prod.fst := inA
    replace inB : d ∈ ((s.setGuard g { s.guard g with defn := f }).guard b).defn.fallback.map Prod.fst := inB
    rw [guard_setGuard] at inA inB
    split at inA
    next first =>
      have other : b ≠ g := fun same => before.ne (first.symm.trans same.symm)
      rw [if_neg (Ne.symm other)] at inB
      exact alone b other d inA inB
    next first =>
      split at inB
      · exact alone a (Ne.symm first) d inB inA
      · exact disjoint inA inB
  · rw [guard_setGuard] at listed
    split at listed
    · exact classes p listed
    · exact old h p listed
  · rw [guard_setGuard]
    split
    next same =>
      subst same
      refine ⟨fun hold => ?_, fun ⟨holding, _⟩ => ?_⟩
      · have holding := ((held d g).mp hold).1
        rw [disabled] at holding
        cases holding
      · rw [disabled] at holding
        cases holding
    next => exact held d h

theorem planHolds_defineGuard (law : PlanLaw s) {g : Gid} {f : GuardDef} (distinct : (f.fallback.map Prod.fst).Nodup)
    (disabled : (s.guard g).state = .disabled) (classes : ∀ p ∈ f.fallback, (s.defs.at p.1).cls ≠ .ifb)
    (shares : sharesDest s g f = false) : PlanHolds s (s.setGuard g { s.guard g with defn := f }) :=
  ⟨⟨⟨holdsMatch_defineGuard law.table.holds distinct disabled classes shares, ⟨law.table.marks.small, law.table.marks.unique⟩,
    law.table.dirty, law.table.locks⟩, ⟨law.named.names, law.named.queued⟩, law.held⟩, ⟨fun _ => rfl, fun _ _ => rfl⟩⟩

end

/-! ### The effects -/

/-- The law holds after the effect, and the step to it is lawful. -/
structure PlanStep (s t : State) : Prop where
  law : PlanLaw t
  lawfully : StepsLawfully s t

section
variable {s t : State}

theorem PlanHolds.step (h : PlanHolds s t) : PlanStep s t := ⟨h.law, h.kept.lawfully⟩

theorem PlanLaw.step (h : PlanLaw s) (e : PlanStands s t) : PlanStep s t := ⟨h.ends e.ends, e.lawfully⟩

theorem PlanLaw.of_same (h : PlanLaw s) (guards : t.guards = s.guards) (defs : t.defs = s.defs)
    (salvos : t.salvos = s.salvos) (routes : t.routes = s.routes) (take : t.take = s.take) : PlanStep s t :=
  h.step (.of_same guards defs salvos routes (by rw [take]))

theorem TakesOrStands.step (h : TakesOrStands s t) (law : PlanLaw s) : PlanStep s t :=
  ⟨(h.law law).1, (h.law law).2⟩

theorem planStands_linkDown (p : Pnl) (s : State) : PlanStands s (linkDown p s) :=
  (listsShrink_linkDown p s).stands (by simp) (by simp) (by rw [salvos_linkDown]; exact List.filter_sublist)

theorem planStands_startQuiesce (p : Pnl) (owed : Option Byte) (s : State) : PlanStands s (startQuiesce p owed s) := by
  have started : PlanStands s (quiesceStarted p owed s) := (listsShrink_quiesceStarted p owed s).stands
    (by simp [quiesceStarted]) (by simp [quiesceStarted]) (by rw [salvos_quiesceStarted]; exact List.filter_sublist)
  rw [startQuiesce_eq]
  exact started.trans (planStands_testQuiesced p _)

theorem planStep_event {u : State} (law : PlanLaw s) (quiet : QuietUntilReady s) (e : Event s u) : PlanStep s u := by
  cases e with
  | load loading =>
    have waits := ((quietUntilReady_iff s).mp quiet).resolve_left fun running => running.loaded loading
    exact ⟨planLaw_endLoad waits, .of_bare (fun d => ⟨(waits.entries d).1, (waits.entries d).2.1⟩) _⟩
  | linkLost p => exact law.step (planStands_linkDown p s)
  | wordReady => exact ((planHolds_storeKeeps s).wordReady law.holds).step
  | readDone => exact ((planHolds_storeKeeps s).readDone law.holds).step
  | pulse => exact (takesOrStands_pulse law.table.dirty).step law
  | frameExpiry => exact (takesOrStands_frameExpiry law.table.dirty).step law
  | command => exact law.step ((confirmsOnly_sendCommand s).stands (by simp) (by simp) (by simp))
  | abandon => exact law.step ((confirmsOnly_abandon s).stands (by simp) (by simp) (by simp))
  | report d x => exact law.step ((confirmsOnly_report d x s).stands (by simp) (by simp) (by simp))
  | confirm d => exact law.step ((confirmsOnly_confirmExpiry d s).stands (by simp) (by simp) (by simp))
  | threshold k n => exact law.step (planStands_moveKey k .held s)
  | limit k n =>
    exact law.step ((planStands_moveKey k .idle s).refresh.trans (planStands_testQuiesced (stationOf k) _))
  | silence => exact law.step ((listsShrink_silence s).stands (by simp) (by simp) (by simp))
  | trip g => exact ⟨planLaw_trip law, lawfully_trip (law.table.holds.nodup g)⟩
  | tripAgain g n r recovering => exact law.step (planStands_setGuardState (by rw [recovering]; rfl))
  | restore g n r recovering => exact (planHolds_restore law (by rw [recovering]; rfl) r).step
  | sample l high => exact law.step (planStands_sampleChange l high s)
  | bytes p bs => exact law.of_same (by simp) (by simp) (by simp) (by simp) (by simp)
  | byteTimeout p => exact law.of_same rfl rfl rfl rfl rfl
  | frameSent p => exact law.of_same (by simp) (by simp) (by simp) (by simp) (by simp)
  | holdEnds p => exact law.of_same rfl rfl rfl rfl rfl
  | flash => exact law.of_same rfl rfl rfl rfl rfl
  | talkSend => exact law.of_same (by simp) (by simp) (by simp) (by simp) (by simp)

theorem planStep_block {c : Instr} {u : State} (law : PlanLaw s) (e : Block c s u) : PlanStep s u := by
  cases e with
  | same => exact law.holds.step
  | quiesce p owed => exact law.step (planStands_startQuiesce p owed s)
  | route o d x free unlocked unmarked => exact (planHolds_route law x free unlocked unmarked).step
  | lock o kind d _ allowed => exact (planHolds_lock law allowed).step
  | unlock d =>
    have ends := planEnds_unlock s d
    refine ⟨law.ends ends, .of_kept (fun e => ?_) fun e _ => ?_⟩
    all_goals
      rw [entry_setEntry]
      split
      next same => rw [same]
      next => rfl
  | redefine d x _ _ free => exact law.step (planStands_redefine free)
  | stage o tag raw ps verdict =>
    obtain ⟨submitted, free⟩ := submitted_of_judge (waits := false) verdict
    exact ⟨planLaw_stageSalvo law submitted free false, (planGrows_stageSalvo submitted.toStageable free false).kept.lawfully⟩
  | queue o tag raw ps verdict =>
    obtain ⟨submitted, held⟩ := submitted_of_judge (waits := true) verdict
    exact ⟨planLaw_joinSalvos law submitted held false, .of_kept (fun _ => rfl) fun _ _ => rfl⟩
  | cancel f => exact law.step ⟨.of_same rfl rfl, fun _ => .refl _, fun _ => id, List.filter_sublist⟩
  | matrix => exact law.step ⟨.of_same rfl rfl, fun _ => .refl _, fun d _ => Tab.at_tabOf _ d, .refl _⟩
  | store op => exact ((planHolds_storeKeeps s).joinStore law.holds op).step
  | release => exact ((planHolds_storeKeeps s).startOps _ ((planHolds_storeKeeps s).store _ law.holds)).step
  | releaseRaw =>
    exact ((planHolds_storeKeeps s).startOps _
      ((planHolds_storeKeeps s).closeSequence ((planHolds_storeKeeps s).store _ law.holds))).step
  | keyDown k f => exact law.step (planStands_moveKey ..).refresh
  | keyUp k up => exact law.step ((planStands_moveKey ..).refresh.trans (planStands_testQuiesced (stationOf k) _))
  | arm g disabled => exact law.step (planStands_setGuardState (by rw [holding_armedState, disabled]; rfl))
  | disarm g rests => exact law.step (planStands_setGuardState (by rw [rests]; rfl))
  | restore g r holds =>
    refine (planHolds_restore law ?_ r).step
    rcases holds with tripped | ⟨n, recovering⟩
    · rw [tripped]; rfl
    · rw [recovering]; rfl
  | defineGuard g f distinct disabled classes shares =>
    exact (planHolds_defineGuard law distinct disabled classes shares).step
  | restart tag => exact ⟨law.ends (planEnds_restartBlock tag s), lawfully_restartBlock tag s⟩
  | record program preview fresh => exact law.of_same (by simp) (by simp) (by simp) (by simp) (by simp)
  | switcher l x => exact law.of_same (by simp) (by simp) (by simp) (by simp) (by simp)
  | map ch x => exact law.of_same (by simp) (by simp) (by simp) (by simp) (by simp)
  | keyDef k f => exact law.of_same (by simp) (by simp) (by simp) (by simp) (by simp)
  | station p m => exact law.of_same rfl rfl rfl rfl rfl
  | party y ch => exact law.of_same rfl rfl rfl rfl rfl
  | hello p => exact law.of_same rfl rfl rfl rfl rfl
  | owe p owed => exact law.of_same rfl rfl rfl rfl rfl
  | subscribe p tag classes => exact law.of_same rfl rfl rfl rfl rfl
  | hold p t => exact law.of_same rfl rfl rfl rfl rfl
  | latches lines values => exact law.of_same rfl rfl rfl rfl rfl
  | line l x => exact law.of_same rfl rfl rfl rfl rfl
  | attention a m => exact law.of_same rfl rfl rfl rfl rfl
  | timing t => exact law.of_same rfl rfl rfl rfl rfl
  | permit on => exact law.of_same rfl rfl rfl rfl rfl
  | grant => exact law.of_same rfl rfl rfl rfl rfl
  | want job w tag => exact law.of_same rfl rfl rfl rfl rfl
  | rawRead start count => exact law.of_same rfl rfl rfl rfl rfl
  | rawWrite raw cs => exact law.of_same rfl rfl rfl rfl rfl

theorem planStep_effect {c : Instr} {u : State} (law : PlanLaw s) (quiet : QuietUntilReady s) (e : Effect c s u) :
    PlanStep s u := by
  cases e with
  | same => exact law.holds.step
  | event e => exact planStep_event law quiet e
  | block _ e => exact planStep_block law e

theorem TrafficOnly.trans {u : State} (st : TrafficOnly s t) (tu : TrafficOnly t u) : TrafficOnly s u where
  rest := by rw [tu.rest, st.rest]
  ready := tu.ready.trans st.ready
  state p := (tu.state p).trans (st.state p)

/-- Traffic before and after leaves a lawful step lawful. -/
theorem PlanStep.traffic {w u : State} (before : TrafficOnly s w) (h : PlanStep w u) (after : TrafficOnly u t) :
    PlanStep s t :=
  ⟨h.law.ends after.stands.ends, h.lawfully.congr (fun d => entry_congr (by rw [before.rest]) d)
    (fun d => entry_congr (by rw [after.rest]) d) after.ready⟩

/-- Every step keeps the law and is lawful: time, the starts, and each effect between its traffic. -/
theorem planStep_step (law : PlanLaw s) (quiet : QuietUntilReady s) (h : step s = .next t) : PlanStep s t := by
  rcases step_cases h with rfl | ⟨rest, c, run⟩
  · exact law.step (planStands_tick s)
  · have behind : TrafficOnly s { s with pending := rest } := ⟨rfl, rfl, fun _ => rfl⟩
    rcases exec_cases run with ⟨cause, rfl⟩ | ⟨w, u, v, before, happens, answered, -, rfl⟩
    · exact ⟨planLaw_startUp cause _, (lawfully_startUp cause _).congr (fun _ => rfl) (fun _ => rfl) rfl⟩
    · have first := behind.trans before.traffic
      have effect := planStep_effect (law.ends first.stands.ends) (quiet_traffic first quiet) happens
      exact effect.traffic first (answered.traffic.trans (trafficOnly_settle _ _))

end

/-- Settles O58. -/
theorem guardsAndSalvosStayLawful : Obligations.GuardsAndSalvosStayLawful := by
  intro s t quiet holds salvos dirty locks run
  obtain ⟨law, whole, locked⟩ := planStep_step ((planLaw_iff s).mpr ⟨holds, salvos, dirty, locks⟩) quiet run
  obtain ⟨holds, salvos, dirty, locks⟩ := (planLaw_iff t).mp law
  exact ⟨holds, salvos, dirty, locks, whole, locked⟩

end Sys2Proof.Machine
end

section
/-! SUPPORT. The laws right after POWER: the obligation O54. -/

namespace Sys2Proof.Machine

/-- Right after POWER the controller stands as a POWER start leaves it. -/
theorem startUp_reset : startUp .power State.reset = State.reset := rfl

theorem storeGood_reset : State.reset.store.Good := ⟨rfl, ⟨nofun, nofun⟩, fun _ => rfl, Nat.zero_le _⟩

theorem entryGood_reset (d : Dst) : (State.reset.entry d).Good := by
  rw [← startUp_reset, startUp_entry]
  exact ⟨Nat.zero_le _, rfl, rfl⟩

/-- Settles O54: each law holds after any start, so after the POWER start that leaves this state. -/
theorem resetMeetsEveryLaw : Obligations.ResetMeetsEveryLaw := by
  have quiet : QuietUntilReady State.reset := quiet_startUp .power State.reset
  have outputs : OutputsFollow State.reset := outputsFollow_startUp .power State.reset
  obtain ⟨counted, defined⟩ : TalkLaw State.reset := talkLaw_startUp .power State.reset
  obtain ⟨holds, salvos, dirty, locks⟩ := (planLaw_iff _).mp (planLaw_startUp .power State.reset)
  obtain ⟨watched, talk, changes⟩ := (linksLawful_iff _).mp (linksLawful_startUp .power State.reset)
  have idle : IdleHasNothingToSend State.reset := idleHasNothingToSend_startUp .power State.reset
  obtain ⟨canonical, latched, rests, queue⟩ := storeGood_reset
  exact ⟨quiet, outputs, neverRedAndGreen_of_follow outputs, counted.holds, counted.lists, defined, holds, salvos, dirty,
    watched, talk, changes, idle, canonical, ⟨latched, rests⟩,
    ⟨Nat.zero_le _, queue, fun d => (entryGood_reset d).room, .nil⟩, fun d => (entryGood_reset d).confirmed,
    counted.calls, locks, rfl, rfl⟩

end Sys2Proof.Machine
end

section
/-! SUPPORT. The queries and the layout of their replies: the obligation O7. -/

namespace Sys2Proof.Machine

/-! ### Which reply a query gets -/

section
variable {s : State} {o : Origin} {tag : Byte}

theorem answers_queryRoute (admits : Admits s o .queryRoute) (d : Dst) :
    Answers (.queryRoute o tag d.1) s s o .queryRoute tag .ok (routeReply s d) :=
  answers_of_block rfl admits (by simp only [queryRouteBlock, finOf_val, replyWith])

theorem answers_queryRoute_range (admits : Admits s o .queryRoute) {d : Nat} (out : ¬d < 48) :
    Answers (.queryRoute o tag d) s s o .queryRoute tag .range [] :=
  answers_of_block rfl admits (by simp only [queryRouteBlock, finOf_ge out, refuseWith])

theorem answers_querySalvos (admits : Admits s o .querySalvos) {i : Nat} (inside : i < 4) :
    Answers (.querySalvos o tag i) s s o .querySalvos tag .ok (salvosReply s i) :=
  answers_of_block rfl admits (if_pos inside)

theorem answers_querySalvos_range (admits : Admits s o .querySalvos) {i : Nat} (out : ¬i < 4) :
    Answers (.querySalvos o tag i) s s o .querySalvos tag .range [] :=
  answers_of_block rfl admits (if_neg out)

theorem answers_queryTally_channel (admits : Admits s o .queryTally) (c : Chn) :
    Answers (.queryTally o tag 0 c.1) s s o .queryTally tag .ok (channelReply s c) :=
  answers_of_block rfl admits (by simp only [queryTallyBlock, finOf_val, replyWith])

theorem answers_queryTally_source (admits : Admits s o .queryTally) (x : Src) :
    Answers (.queryTally o tag 1 x.1) s s o .queryTally tag .ok (sourceReply s x) :=
  answers_of_block rfl admits (by simp only [queryTallyBlock, finOf_val, replyWith])

/-- The number a query of the switcher record carries is ignored (log 16). -/
theorem answers_queryTally_switcher (admits : Admits s o .queryTally) (n : Nat) :
    Answers (.queryTally o tag 2 n) s s o .queryTally tag .ok (switcherReply s) :=
  answers_of_block (block := queryTallyBlock 2 n) rfl admits rfl

theorem queryTallyBlock_range {k n : Nat} (out : k = 0 ∧ ¬n < 32 ∨ k = 1 ∧ ¬n < 64 ∨ ¬k < 3) :
    queryTallyBlock k n s = refuseWith .range s := by
  rcases out with ⟨rfl, out⟩ | ⟨rfl, out⟩ | out
  · simp only [queryTallyBlock, finOf_ge out]
  · simp only [queryTallyBlock, finOf_ge out]
  · obtain ⟨j, rfl⟩ : ∃ j, k = j + 3 := ⟨k - 3, by omega⟩
    rfl

theorem answers_queryKey_key (admits : Admits s o .queryKey) (k : KeyId) :
    Answers (.queryKey o tag 0 k.1) s s o .queryKey tag .ok (keyReply s k) :=
  answers_of_block rfl admits (by simp only [queryKeyBlock, finOf_val, replyWith])

theorem answers_queryKey_station (admits : Admits s o .queryKey) (p : Pnl) :
    Answers (.queryKey o tag 1 p.1) s s o .queryKey tag .ok (stationReply s p) :=
  answers_of_block rfl admits (by simp only [queryKeyBlock, finOf_val, replyWith])

theorem answers_queryKey_party (admits : Admits s o .queryKey) (y : Pty) :
    Answers (.queryKey o tag 2 y.1) s s o .queryKey tag .ok (partyReply s y) :=
  answers_of_block rfl admits (by simp only [queryKeyBlock, finOf_val, replyWith])

theorem queryKeyBlock_range {k n : Nat} (out : k = 0 ∧ ¬n < 128 ∨ k = 1 ∧ ¬n < 8 ∨ k = 2 ∧ ¬n < 32 ∨ ¬k < 3) :
    queryKeyBlock k n s = refuseWith .range s := by
  rcases out with ⟨rfl, out⟩ | ⟨rfl, out⟩ | ⟨rfl, out⟩ | out
  · simp only [queryKeyBlock, finOf_ge out]
  · simp only [queryKeyBlock, finOf_ge out]
  · simp only [queryKeyBlock, finOf_ge out]
  · obtain ⟨j, rfl⟩ : ∃ j, k = j + 3 := ⟨k - 3, by omega⟩
    rfl

theorem answers_queryGuard (admits : Admits s o .queryGuard) (g : Gid) :
    Answers (.queryGuard o tag g.1) s s o .queryGuard tag .ok (guardReply s g) :=
  answers_of_block rfl admits (by simp only [queryGuardBlock, finOf_val, replyWith])

theorem answers_queryGuard_range (admits : Admits s o .queryGuard) {g : Nat} (out : ¬g < 4) :
    Answers (.queryGuard o tag g) s s o .queryGuard tag .range [] :=
  answers_of_block rfl admits (by simp only [queryGuardBlock, finOf_ge out, refuseWith])

theorem answers_queryLine (admits : Admits s o .queryLine) (l : Lid) :
    Answers (.queryLine o tag l.1) s s o .queryLine tag .ok (lineReply s l) := by
  have single : l.1 ≠ 255 := by omega
  exact answers_of_block rfl admits (by simp only [queryLineBlock, if_neg single, finOf_val, replyWith])

theorem answers_queryLine_all (admits : Admits s o .queryLine) :
    Answers (.queryLine o tag 255) s s o .queryLine tag .ok (allLinesReply s) :=
  answers_of_block (block := queryLineBlock 255) rfl admits rfl

theorem answers_queryLine_range (admits : Admits s o .queryLine) {l : Nat} (out : ¬l < 16) (single : l ≠ 255) :
    Answers (.queryLine o tag l) s s o .queryLine tag .range [] :=
  answers_of_block rfl admits (by simp only [queryLineBlock, if_neg single, finOf_ge out, refuseWith])

end

/-- READ STATUS is admitted before READY too (R174). -/
theorem answers_readStatus (s : State) (tag : Byte) :
    Answers (.readStatus .ctl tag) s s .ctl .readStatus tag .ok (statusReply s) :=
  answers_of_block (block := readStatusBlock) rfl ⟨rfl, rfl, .inr rfl⟩ rfl

/-! ### The fields of a reply -/

theorem conditionsByte_bit (w : Conditions) (i : Nat) :
    (conditionsByte w).getLsbD i = (i == 0 && w.pgmDirect || i == 1 && w.pgmSwitcher || i == 2 && w.pvwDirect ||
      i == 3 && w.pvwSwitcher || i == 4 && w.iso) := by
  obtain ⟨a, b, c, d, e⟩ := w
  by_cases low : i < 8
  · revert a b c d e
    interval_cases i <;> decide
  · rw [BitVec.getLsbD_of_ge _ _ (by omega)]
    simp [show i ≠ 0 by omega, show i ≠ 1 by omega, show i ≠ 2 by omega, show i ≠ 3 by omega, show i ≠ 4 by omega]

theorem msLeft_eq (n : Nat) : msLeft n = n / 1000 ∨ n % 1000 ≠ 0 ∧ msLeft n = n / 1000 + 1 := by
  unfold msLeft
  by_cases whole : n % 1000 = 0
  · exact .inl (by rw [if_pos whole, Nat.add_zero])
  · rw [if_neg whole]
    cases Config.roundsUp n with
    | false => exact .inl rfl
    | true => exact .inr ⟨whole, rfl⟩

theorem le_secondsLeft (n : Nat) : n ≤ 1000000 * secondsLeft n ∧ 1000000 * secondsLeft n < n + 1000000 := by
  unfold secondsLeft
  omega

/-- Three bytes, the low one first, hold a set of switcher inputs. -/
theorem testBit_inputSet (t : Tab Bool 24) (w : Fin 24) :
    ((byte (bitmap t % 256)).toNat + 256 * (byte (bitmap t / 256 % 256)).toNat +
      65536 * (byte (bitmap t / 65536)).toNat).testBit w.1 = t.at w := by
  have bytes : (byte (bitmap t % 256)).toNat + 256 * (byte (bitmap t / 256 % 256)).toNat +
      65536 * (byte (bitmap t / 65536)).toNat = bitmap t % 2 ^ 24 := by
    simp only [toNat_byte]
    omega
  rw [bytes, Nat.testBit_mod_two_pow, testBit_bitmap]
  simp [w.isLt]

/-- Two bytes, the high one first, hold a set of lines. -/
theorem testBit_lineSet (t : Tab Bool 16) (l : Lid) :
    (256 * (byte (bitmap t / 256)).toNat + (byte (bitmap t % 256)).toNat).testBit l.1 = t.at l := by
  rw [Nat.mul_comm, testBit_two _ l.isLt, testBit_bitmap]

theorem byte_inj {a b : Nat} (ha : a < 256) (hb : b < 256) : byte a = byte b ↔ a = b :=
  ⟨fun same => by rw [← toNat_byte_of_lt ha, same, toNat_byte_of_lt hb], congrArg byte⟩

theorem flag_orphaned (s : State) (owner : Origin) (kind : LockKind) :
    flag (orphaned s ⟨owner, kind⟩) =
      (match owner with | .panel p => if (s.link p).state = .up then 0 else 1 | .ctl => 0) := by
  cases owner with
  | ctl => rfl
  | panel p => by_cases up : (s.link p).state = .up <;> simp [orphaned, flag, up]

theorem pairwise_mappedTo (s : State) (x : Src) : (mappedTo s x).Pairwise (· < ·) := (pairwise_fins 32).filter _

theorem mem_mappedTo (s : State) (x : Src) (c : Chn) : c ∈ mappedTo s x ↔ (s.channel c).mapped = some x := by
  simp [mappedTo]

theorem lt_code_keyState (k : KeyState) : k.code < 5 := by cases k <;> simp [KeyState.code]

/-- Keys counted by the state's byte are keys counted by its code. -/
theorem keysIn_eq {stateCode : KeyState → Byte} (codes : ∀ k, stateCode k = byte k.code) (s : State) (p : Pnl) {c : Nat}
    (code : c < 5) :
    keysIn s p c = ((stationKeys p).filter fun k => decide (stateCode (s.key k).state = byte c)).length := by
  refine congrArg List.length (List.filter_congr fun k _ => decide_eq_decide.mpr ?_)
  have := lt_code_keyState (s.key k).state
  rw [codes, byte_inj (by omega) (by omega)]

theorem optTwo_thresholdLeft (f : Nat → Nat) (x : KeyState) : optTwo (x.thresholdLeft.map f) =
    two (match x with | .timing (some n) => f n | _ => 0xFFFF) := by
  refine congrArg two ?_
  rcases x with _ | (_ | _) | _ | _ | _ <;> rfl

theorem optTwo_limitLeft (f : Nat → Nat) (x : KeyState) : optTwo (x.limitLeft.map f) =
    two (match x with | .latched (some n) => f n | _ => 0xFFFF) := by
  refine congrArg two ?_
  rcases x with _ | _ | _ | (_ | _) | _ <;> rfl

theorem optTwo_timer (f : Nat → Nat) (x : GuardState) : optTwo (x.timer.map f) =
    two (match x with | .debouncing n => f n | .recovering n _ => f n | _ => 0xFFFF) := by
  refine congrArg two ?_
  cases x <;> rfl

/-! ### The layout of each reply (R193) -/

theorem routeReply_layout (s : State) (d : Dst) :
    routeReply s d =
      [(match (s.defs.at d).cls with | .plain => 0 | .tx => 1 | .pvw => 2 | .iso => 3 | .swin _ => 4 | .ifb => 5),
       (match (s.defs.at d).cls with | .swin w => byte w.1 | _ => 0xFF), byte (s.defs.at d).home.1] ++
        routePart s d := by
  unfold routeReply
  cases (s.defs.at d).cls <;> rfl

theorem routePart_layout (s : State) (d : Dst) {e : Entry} (here : e = s.entry d) :
    routePart s d =
      [byte e.current.1,
       (match e.staged with | none => 0xFF | some x => byte x.source.1),
       (match e.staged with
        | none => 0xFF
        | some (.routed _ o) => byte (originCode o)
        | some (.salvo _ m) => byte (originCode m.orig)
        | some (.guarded _ g) => byte (9 + g.1)),
       (match e.staged with | some (.salvo _ m) => byte (originCode m.orig) | _ => 0xFF),
       (match e.staged with | some (.salvo _ m) => m.tag | _ => 0xFF),
       (match e.lock with | none => 0xFF | some l => byte (originCode l.owner)),
       (match e.lock with | none => 0xFF | some ⟨_, .lock⟩ => 0 | some ⟨_, .protect⟩ => 1),
       (match e.lock with | some ⟨.panel p, _⟩ => if (s.link p).state = .up then 0 else 1 | _ => 0),
       (match e.hold with | none => 0xFF | some g => byte g.1),
       (match e.interrupters.getLast?.bind fun k => s.talk.mics.at (stationOf k) with
        | none => 0xFF
        | some x => byte x.1),
       byte e.interrupters.length,
       (match e.commanded with | none => 0xFF | some x => byte x.1),
       (match e.confirmation with
        | none => 0xFF
        | some .settled => 0
        | some (.awaiting _) => 1
        | some .unconfirmed => 2
        | some .mismatch => 3),
       (match e.reported with | none => 0xFF | some x => byte x.1),
       (match e.reported, e.commanded with
        | some x, _ => byte x.1
        | none, some x => byte x.1
        | none, none => 0xFF)] := by
  obtain ⟨current, staged, lock, hold, interrupters, commanded, confirmation, reported⟩ := e
  unfold routePart effective
  rw [← here]
  refine congrArg₂ List.cons rfl <| congrArg₂ List.cons ?staged <| congrArg₂ List.cons ?origin <|
    congrArg₂ List.cons ?mark <| congrArg₂ List.cons ?tag <| congrArg₂ List.cons ?owner <|
    congrArg₂ List.cons ?kind <| congrArg₂ List.cons ?orphaned <| congrArg₂ List.cons ?hold <|
    congrArg₂ List.cons ?interrupt <| congrArg₂ List.cons rfl <| congrArg₂ List.cons ?commanded <|
    congrArg₂ List.cons ?confirmation <| congrArg₂ List.cons ?reported <| congrArg₂ List.cons ?tally rfl
  case staged => cases staged <;> rfl
  case origin => rcases staged with _ | (_ | _ | _) <;> rfl
  case mark => rcases staged with _ | (_ | _ | _) <;> rfl
  case tag => rcases staged with _ | (_ | _ | _) <;> rfl
  case owner => cases lock <;> rfl
  case kind => rcases lock with _ | ⟨_, _ | _⟩ <;> rfl
  case orphaned =>
    rcases lock with _ | ⟨p | _, kind⟩
    · rfl
    · exact flag_orphaned s (.panel p) kind
    · rfl
  case hold => cases hold <;> rfl
  case interrupt =>
    dsimp only
    cases interrupters.getLast? with
    | none => rfl
    | some k => dsimp only [Option.bind_some]; cases s.talk.mics.at (stationOf k) <;> rfl
  case commanded => cases commanded <;> rfl
  case confirmation => rcases confirmation with _ | (_ | _ | _ | _) <;> rfl
  case reported => cases reported <;> rfl
  case tally => cases reported <;> cases commanded <;> rfl

theorem salvosReply_layout (s : State) (i : Nat) : salvosReply s i = byte s.salvos.length ::
    (match s.salvos[i]? with
     | none => []
     | some x =>
       byte (originCode x.orig) :: x.tag :: (if x.isRecall then 1 else 0) :: byte x.pairs.length ::
         x.pairs.flatMap fun p =>
           [byte p.1.1, byte p.2.1, (match (s.entry p.1).hold with | none => 0xFF | some g => byte g.1)]) := by
  have holds : (fun p : Dst × Src => [byte p.1.1, byte p.2.1, optByte (numOf (s.entry p.1).hold)]) = fun p =>
      [byte p.1.1, byte p.2.1, (match (s.entry p.1).hold with | none => 0xFF | some g => byte g.1)] := by
    funext p
    cases (s.entry p.1).hold <;> rfl
  unfold salvosReply
  rw [holds]
  cases s.salvos[i]? <;> rfl

section
variable {lamp : Lamp → Byte}

theorem channelPart_layout (lamps : lamp = fun x => match x with | .off => 0 | .on => 1 | .flash => 2) (s : State)
    (c : Chn) {x : Channel} (here : x = s.channel c) :
    channelPart s c = [(match x.mapped with | none => 0xFF | some y => byte y.1), lamp x.red, lamp x.green,
      lamp x.amber, byte x.calls] := by
  have codes : ∀ l : Lamp, byte l.code = lamp l := by
    subst lamps
    exact fun l => by cases l <;> rfl
  unfold channelPart
  rw [← here]
  simp only [codes]
  cases x.mapped <;> rfl

end

theorem channelReply_layout (s : State) (c : Chn) {x : Channel} (here : x = s.channel c) :
    channelReply s c = channelPart s c ++
      [(match x.mapped with | none => 0xFF | some y => conditionsByte (conditions s y))] := by
  unfold channelReply
  rw [← here]
  cases x.mapped <;> rfl

theorem switcherReply_layout (s : State) : ∃ p0 p1 p2 v0 v1 v2 : Byte,
    switcherReply s =
      [(match s.tally.switcher with | none => 0xFF | some p => byte p.1),
       (match s.tally.programSource with | none => 0xFF | some x => byte x.1), (if programGate s then 1 else 0),
       p0, p1, p2, v0, v1, v2, (if s.tally.fresh then 0 else 1)] ∧
    ∀ w, s.tally.program.at w = (p0.toNat + 256 * p1.toNat + 65536 * p2.toNat).testBit w.1 ∧
      s.tally.preview.at w = (v0.toNat + 256 * v1.toNat + 65536 * v2.toNat).testBit w.1 := by
  refine ⟨_, _, _, _, _, _, ?_, fun w => ⟨(testBit_inputSet s.tally.program w).symm,
    (testBit_inputSet s.tally.preview w).symm⟩⟩
  unfold switcherReply
  refine congrArg₂ List.cons ?_ <| congrArg₂ List.cons ?_ <| congrArg₂ List.cons rfl ?_
  · cases s.tally.switcher <;> rfl
  · cases s.tally.programSource <;> rfl
  · cases s.tally.fresh <;> rfl

theorem keyReply_layout {mode : KeyMode → Byte} (modes : mode = fun x => match x with
      | .auto => 0 | .momentary => 1 | .latch => 2)
    {stateCode : KeyState → Byte} (codes : ∀ k, stateCode k = byte k.code) (s : State) (k : KeyId) {x : Key}
    (here : x = s.key k) : keyReply s k =
      (match x.defn with
       | none => [0, 0xFF, 0xFF, 0xFF, 0xFF]
       | some ⟨m, .party y call⟩ => [1, mode m, 0, byte y.1, if call then 1 else 0]
       | some ⟨m, .ifb d⟩ => [1, mode m, 1, byte d.1, 0]) ++ stateCode x.state ::
        (two (match x.state with | .timing (some n) => msLeft n | _ => 0xFFFF) ++
          two (match x.state with | .latched (some n) => secondsLeft n | _ => 0xFFFF)) := by
  have modeCodes : ∀ m : KeyMode, byte m.code = mode m := by
    subst modes
    exact fun m => by cases m <;> rfl
  have definition : flag x.defn.isSome :: keyDefPart x.defn = match x.defn with
       | none => [0, 0xFF, 0xFF, 0xFF, 0xFF]
       | some ⟨m, .party y call⟩ => [1, mode m, 0, byte y.1, if call then 1 else 0]
       | some ⟨m, .ifb d⟩ => [1, mode m, 1, byte d.1, 0] := by
    rcases x.defn with _ | ⟨m, _ | _⟩
    · rfl
    · simp only [keyDefPart, modeCodes]; rfl
    · simp only [keyDefPart, modeCodes]; rfl
  unfold keyReply
  rw [← here]
  dsimp only
  rw [optTwo_thresholdLeft, optTwo_limitLeft, definition, codes, List.append_assoc, List.append_assoc, List.singleton_append]

theorem stationReply_layout {stateCode : KeyState → Byte} (codes : ∀ k, stateCode k = byte k.code) (s : State)
    (p : Pnl) : stationReply s p =
      [(match s.talk.mics.at p with | none => 0xFF | some x => byte x.1),
       (match (s.link p).state with | .down => 0 | .up => 1 | .quiescing => 2 | .quiesced => 3)] ++
      ([0, 1, 2, 3, 4].map fun n : Byte =>
        byte ((stationKeys p).filter fun k => decide (stateCode (s.key k).state = n)).length) ++
      (fins 32).map fun y => byte (s.holdCount p y) := by
  have counts : (List.range 5).map (fun c => byte (keysIn s p c)) = [0, 1, 2, 3, 4].map fun n : Byte =>
      byte ((stationKeys p).filter fun k => decide (stateCode (s.key k).state = n)).length := by
    have numbers : ([0, 1, 2, 3, 4] : List Byte) = (List.range 5).map byte := rfl
    rw [numbers, List.map_map]
    exact List.map_congr_left fun c listed => congrArg byte (keysIn_eq codes s p (List.mem_range.mp listed))
  unfold stationReply
  rw [counts]
  refine congrArg₂ (· ++ ·) (congrArg₂ (· ++ ·) (congrArg₂ List.cons ?_ (congrArg₂ List.cons ?_ rfl)) rfl) rfl
  · cases s.talk.mics.at p <;> rfl
  · cases (s.link p).state <;> rfl

theorem partyReply_layout (s : State) (y : Pty) {heard : Byte} (on : (∃ p, 0 < s.holdCount p y) → heard = 1)
    (off : (∀ p, s.holdCount p y = 0) → heard = 0) :
    partyReply s y = (match s.talk.parties.at y with | none => 0xFF | some c => byte c.1) ::
      ((fins 8).map fun p => byte (s.holdCount p y)) ++ [heard] := by
  have last : flag (partyHeard s y) = heard := by
    cases hears : partyHeard s y with
    | true => exact (on ((partyHeard_iff s y).mp hears)).symm
    | false =>
      refine (off fun p => ?_).symm
      by_contra held
      exact Bool.false_ne_true (hears.symm.trans ((partyHeard_iff s y).mpr ⟨p, by omega⟩))
  unfold partyReply
  rw [last]
  cases s.talk.parties.at y <;> rfl

theorem guardReply_layout (s : State) (g : Gid) {x : Guard} {f : GuardDef} (here : x = s.guard g) (defn : f = x.defn) :
    ∃ s1 s0 v1 v0 : Byte,
      (∀ l, (256 * s1.toNat + s0.toNat).testBit l.1 = (f.action.at l).isSome ∧
        (256 * v1.toNat + v0.toNat).testBit l.1 = decide (f.action.at l = some true)) ∧
      guardReply s g =
        [byte f.line.1, if f.high then 1 else 0] ++ two f.debounce ++
        [if f.auto then 1 else 0, byte f.fallback.length] ++ (f.fallback.flatMap fun p => [byte p.1.1, byte p.2.1]) ++
        [s1, s0, v1, v0, if f.armedAtStart then 1 else 0,
         (match x.state with
          | .disabled => 0 | .armed => 1 | .debouncing _ => 2 | .tripped _ => 3 | .recovering _ _ => 4)] ++
        two (match x.state with | .debouncing n => msLeft n | .recovering n _ => msLeft n | _ => 0xFFFF) ++
        (match x.state with
         | .tripped r => r.map fun y => byte y.1
         | .recovering _ r => r.map fun y => byte y.1
         | _ => f.fallback.map fun _ => 0xFF) ++
        [if s.line f.line = .input f.high then 1 else 0] := by
  refine ⟨_, _, _, _, fun l => ⟨(testBit_lineSet _ l).trans (Tab.at_tabOf _ l),
    (testBit_lineSet (tabOf fun l : Lid => (f.action.at l).getD false) l).trans ?_⟩, ?_⟩
  · rw [Tab.at_tabOf]
    rcases f.action.at l with _ | (_ | _) <;> rfl
  · have now : flag (matching s f) = if s.line f.line = .input f.high then 1 else 0 :=
      if_congr (matching_iff s f) rfl rfl
    unfold guardReply
    rw [← here]
    dsimp only
    rw [← defn, now, optTwo_timer]
    simp only [List.append_assoc]
    refine congrArg₂ (· ++ ·) rfl <| congrArg₂ (· ++ ·) rfl <| congrArg₂ (· ++ ·) rfl <| congrArg₂ (· ++ ·) rfl ?_
    cases x.state <;> rfl

theorem lineReply_input {s : State} {l : Lid} {sample : Bool} (here : s.line l = .input sample) :
    lineReply s l = [(0 : Byte), 0xFF, 0xFF, 0xFF, if sample then 1 else 0] ++
      (fins 4).map fun g => if (s.guard g).defn.line = l
        then (if sample = (s.guard g).defn.high then 1 else 0) else 0xFF := by
  have watched : ∀ g, (if (s.guard g).defn.line = l then flag (matching s (s.guard g).defn) else 255) =
      if (s.guard g).defn.line = l then (if sample = (s.guard g).defn.high then 1 else 0) else 0xFF := by
    intro g
    by_cases watches : (s.guard g).defn.line = l
    · rw [if_pos watches, if_pos watches]
      exact if_congr (by rw [matching_iff, watches, here, Line.input.injEq]) rfl rfl
    · rw [if_neg watches, if_neg watches]
  simp only [lineReply, here, watched]
  rfl

theorem lineReply_output (s : State) (l : Lid) (mode : OutMode) (latch on : Bool) :
    s.line l = .output mode latch on → lineReply s l =
      [(1 : Byte), (match mode with | .manual => 0 | .tally _ => 1 | .talk _ => 2),
        (match mode with | .manual => 0xFF | .tally x => byte x.1 | .talk y => byte y.1),
        if latch then 1 else 0, if on then 1 else 0] ++
      (fins 4).map fun g => if (s.guard g).defn.action.at l = none then 0xFF
        else if (s.guard g).state.holding then 1 else 0 := by
  intro here
  have acts : ∀ g, (match (s.guard g).defn.action.at l with
        | some _ => flag (s.guard g).state.holding
        | none => 255) =
      if (s.guard g).defn.action.at l = none then 0xFF else if (s.guard g).state.holding then 1 else 0 := by
    intro g
    cases (s.guard g).defn.action.at l <;> rfl
  simp only [lineReply, here]
  refine congrArg₂ (· ++ ·) ?_ (List.map_congr_left fun g _ => acts g)
  cases mode <;> rfl

theorem isOut_iff (x : Line) : x.isOut = true ↔ ∃ mode latch on, x = .output mode latch on := by
  cases x <;> simp [Line.isOut]

theorem level_iff (x : Line) : x.level = true ↔ (x = .input true ∨ ∃ mode latch, x = .output mode latch true) := by
  cases x <;> simp [Line.level]

theorem statusReply_layout (s : State) : statusReply s =
    [(match s.ctl.startCause with | .power => (0 : Byte) | .line => 1 | .restart => 2), if s.ctl.preserved then 1 else 0,
     (match s.take.reference with | .ok => 0 | .lost => 1),
     (if s.ctl.ready then (match s.take.reference with | .ok => 1 | .lost => 2) else 0),
     (match s.store.engine with | .loading => 0 | .idle => 1 | .busy _ _ => 2 | .granted _ => 3),
     (match s.store.engine with | .busy _ (some _) => 1 | .granted _ => 2 | _ => 0),
     if s.store.permit then 1 else 0, if s.tally.fresh then 0 else 1] ++
    (fins 8).map fun p => match (s.link p).state with
      | .down => (0 : Byte) | .up => 1 | .quiescing => 2 | .quiesced => 3 := by
  have links : ∀ x : LinkState, byte x.code =
      match x with | .down => (0 : Byte) | .up => 1 | .quiescing => 2 | .quiesced => 3 := by
    intro x
    cases x <;> rfl
  unfold statusReply takeSourceCode
  refine congrArg₂ (· ++ ·) ?_ (List.map_congr_left fun p _ => links _)
  refine congrArg₂ List.cons ?_ <| congrArg₂ List.cons rfl <| congrArg₂ List.cons ?_ <| congrArg₂ List.cons ?_ <|
    congrArg₂ List.cons ?_ <| congrArg₂ List.cons ?_ <| congrArg₂ List.cons rfl <| congrArg₂ List.cons ?_ rfl
  · cases s.ctl.startCause <;> rfl
  · cases s.take.reference <;> rfl
  · cases s.ctl.ready <;> cases s.take.reference <;> rfl
  · cases s.store.engine <;> rfl
  · rcases s.store.engine with _ | _ | ⟨_, _ | _⟩ | _ <;> rfl
  · cases s.tally.fresh <;> rfl

/-- Settles O7: each query's block refuses or replies without an effect, and each reply is the layout's list field by
field. -/
theorem queriesAnswerAndChangeNothing : Obligations.QueriesAnswerAndChangeNothing := by
  refine ⟨fun s o tag => ⟨?ping, ?route, ?salvos, ?tally, ?key, ?guard, ?line, answers_readStatus s tag⟩,
    ⟨fun _ => rfl, fun _ => rfl, fun _ => rfl, rfl, conditionsByte_bit, msLeft_eq, le_secondsLeft⟩, ?_,
    salvosReply_layout, ?_, ?_, ?_, ?_, statusReply_layout⟩
  case ping => exact fun admits => answers_of_block (block := okWith) rfl admits rfl
  case route => exact fun admits => ⟨answers_queryRoute admits, fun _ => answers_queryRoute_range admits⟩
  case salvos =>
    exact fun admits => ⟨fun _ => answers_querySalvos admits, fun _ => answers_querySalvos_range admits⟩
  case tally =>
    exact fun admits => ⟨answers_queryTally_channel admits, answers_queryTally_source admits,
      answers_queryTally_switcher admits, fun k n out =>
        answers_range (block := queryTallyBlock k n) admits rfl fun _ => queryTallyBlock_range out⟩
  case key =>
    exact fun admits => ⟨answers_queryKey_key admits, answers_queryKey_station admits, answers_queryKey_party admits,
      fun k n out => answers_range (block := queryKeyBlock k n) admits rfl fun _ => queryKeyBlock_range out⟩
  case guard => exact fun admits => ⟨answers_queryGuard admits, fun _ => answers_queryGuard_range admits⟩
  case line =>
    exact fun admits => ⟨answers_queryLine admits, answers_queryLine_all admits, fun _ => answers_queryLine_range admits⟩
  · exact fun s d e here => ⟨routeReply_layout s d, routePart_layout s d here⟩
  · refine fun lamp lamps s => ⟨fun c x here => ⟨channelPart_layout lamps s c here, channelReply_layout s c here⟩,
      fun x => ⟨mappedTo s x, pairwise_mappedTo s x, mem_mappedTo s x, rfl⟩, switcherReply_layout s⟩
  · intro mode modes stateCode codes s
    have codeOf : ∀ k, stateCode k = byte k.code := by
      subst codes
      exact fun k => by cases k <;> rfl
    exact ⟨fun k x here => keyReply_layout modes codeOf s k here, stationReply_layout codeOf s,
      fun y heard on off => partyReply_layout s y on off⟩
  · exact fun s g x f here defn => guardReply_layout s g here defn
  · refine fun s => ⟨fun l sample here => lineReply_input here,
      lineReply_output s, _, _, _, _, rfl, fun l => ?_⟩
    rw [testBit_lineSet, testBit_lineSet, Tab.at_tabOf, Tab.at_tabOf]
    exact ⟨isOut_iff _, level_iff _⟩

end Sys2Proof.Machine
end

section
/-! SUPPORT. The configuration record: its words and its tests, for the obligation O51. -/

namespace Sys2Proof.Machine

/-! ### One word (R196, R197)

A word is read by its bit fields and laid out as a sum; for a word below 65536 the two agree. -/

theorem finOf_map_some {n x : Nat} {y : Option (Fin n)} : (finOf n x).map some = some y ↔ ∃ i, y = some i ∧ x = i.1 := by
  rw [Option.map_eq_some_iff]
  constructor
  · rintro ⟨i, found, rfl⟩
    exact ⟨i, rfl, finOf_eq_some.mp found⟩
  · rintro ⟨i, rfl, number⟩
    exact ⟨i, finOf_eq_some.mpr number, rfl⟩

theorem ofCode?_iff {code : Nat} {index : Option (Fin 24)} {c : DestClass} :
    DestClass.of? code index = some c ↔ code = c.code ∧ index = c.input := by
  constructor
  · intro made
    unfold DestClass.of? at made
    split at made <;> cases made <;> exact ⟨rfl, rfl⟩
  · rintro ⟨rfl, rfl⟩
    cases c <;> rfl

/-- The switcher index of a destination word; 31 stands for none. -/
theorem indexField_iff {i : Nat} {index : Option (Fin 24)} :
    (if i = 31 then some none else (finOf 24 i).map some) = some index ↔ i = (index.map Fin.val).getD 31 := by
  cases index with
  | none => by_cases none31 : i = 31 <;> simp [none31]
  | some w =>
    have := w.isLt
    by_cases none31 : i = 31
    · simp [none31]
      omega
    · simp [none31, finOf_eq_some]

theorem destWord?_iff {w : Nat} (word : w < 65536) {x : DestDef} :
    destWord? w = some x ↔ w = 8192 * x.cls.code + 256 * ((x.cls.input.map Fin.val).getD 31) + x.home.1 := by
  obtain ⟨cls, home⟩ := x
  have classCode : cls.code < 6 := by cases cls <;> simp [DestClass.code]
  have indexCode : (cls.input.map Fin.val).getD 31 < 32 := by
    cases cls.input with
    | none => decide
    | some i => exact Nat.lt_trans i.isLt (by decide)
  have fields : destWord? w = some ⟨cls, home⟩ ↔ field w 13 3 = cls.code ∧
      field w 8 5 = (cls.input.map Fin.val).getD 31 ∧ field w 0 8 = home.1 := by
    rw [← indexField_iff, ← finOf_eq_some]
    unfold destWord?
    dsimp only
    constructor
    · intro read
      generalize (if field w 8 5 = 31 then some none else (finOf 24 (field w 8 5)).map some) = stored at read ⊢
      split at read
      next c x made found =>
        cases read
        obtain ⟨index, indexed, made⟩ := Option.bind_eq_some_iff.mp made
        obtain ⟨code, rfl⟩ := ofCode?_iff.mp made
        exact ⟨code, indexed, found⟩
      next => cases read
    · rintro ⟨code, indexed, found⟩
      simp only [indexed, found, Option.bind_some, ofCode?_iff.mpr ⟨code, rfl⟩]
  have := home.isLt
  rw [fields]
  simp only [field, Nat.reducePow, Nat.div_one]
  omega

theorem optWord?_iff {n w : Nat} (word : w < 65536) {x : Option (Fin n)} :
    optWord? n w = some x ↔ w = presentWord x := by
  unfold optWord? presentWord
  cases x with
  | none =>
    by_cases zero : w = 0
    · simp [zero]
    · by_cases present : field w 15 1 = 1 <;> simp [zero, present]
  | some i =>
    have := i.isLt
    by_cases zero : w = 0
    · simp [zero]
      omega
    · by_cases present : field w 15 1 = 1
      · simp only [zero, present, if_true, if_false, finOf_map_some, Option.some.injEq, exists_eq_left']
        simp only [field, Option.map_some, Option.getD_some] at present ⊢
        omega
      · simp only [zero, present, if_false, reduceCtorEq, false_iff]
        simp only [field, Option.map_some, Option.getD_some] at present ⊢
        omega

theorem keyModeOfCode?_iff {code : Nat} {m : KeyMode} : KeyMode.ofCode? code = some m ↔ code = m.code := by
  constructor
  · intro made
    unfold KeyMode.ofCode? at made
    split at made <;> cases made <;> rfl
  · rintro rfl
    cases m <;> rfl

theorem code_keyMode_lt (m : KeyMode) : m.code < 3 := by cases m <;> decide

theorem keyWord?_none {w : Nat} : keyWord? w = some none ↔ w = 0 := by
  unfold keyWord?
  by_cases zero : w = 0
  · simp [zero]
  · rw [if_neg zero]
    refine iff_of_false (fun read => ?_) zero
    split at read
    · split at read <;> cases read
    · cases read

/-- The fields of a word that holds an assigned key. -/
theorem keyWord?_some {w : Nat} {m : KeyMode} {t : KeyTarget} : keyWord? w = some (some ⟨m, t⟩) ↔
    (w ≠ 0 ∧ field w 15 1 = 1 ∧ field w 6 5 = 0 ∧ ¬(field w 12 1 = 1 ∧ field w 11 1 = 1) ∧ field w 13 2 = m.code ∧
      keyTarget? (field w 12 1) (field w 0 6) (field w 11 1) = some t) := by
  unfold keyWord?
  by_cases zero : w = 0
  · simp [zero]
  · rw [if_neg zero, ← keyModeOfCode?_iff]
    constructor
    · intro read
      split at read
      next formed =>
        split at read
        next m t mode target =>
          cases read
          simp only [Bool.and_eq_true, decide_eq_true_eq, Bool.not_eq_true', Bool.and_eq_false_iff,
            decide_eq_false_iff_not] at formed
          obtain ⟨⟨present, clear⟩, plain⟩ := formed
          exact ⟨zero, present, clear, fun ⟨ifb, call⟩ => plain.elim (· ifb) (· call), mode, target⟩
        next => cases read
      next => cases read
    · rintro ⟨-, present, clear, plain, mode, target⟩
      have formed : (field w 15 1 = 1 && field w 6 5 = 0 && !(field w 12 1 = 1 && field w 11 1 = 1)) = true := by
        simpa [present, clear] using imp_iff_not_or.mp (not_and.mp plain)
      rw [if_pos formed, mode, target]

theorem keyTarget?_party {kind target call : Nat} {y : Pty} {calls : Bool} (bit : call < 2) (kindBit : kind < 2) :
    keyTarget? kind target call = some (.party y calls) ↔ kind = 0 ∧ target = y.1 ∧ call = calls.toNat := by
  rcases show kind = 0 ∨ kind = 1 by omega with rfl | rfl
  · rcases show call = 0 ∨ call = 1 by omega with rfl | rfl <;> cases calls <;>
      simp [keyTarget?, finOf_eq_some]
  · simp [keyTarget?]

theorem keyTarget?_ifb {kind target call : Nat} {d : Dst} (kindBit : kind < 2) :
    keyTarget? kind target call = some (.ifb d) ↔ kind = 1 ∧ target = d.1 := by
  rcases show kind = 0 ∨ kind = 1 by omega with rfl | rfl
  · simp [keyTarget?]
  · simp [keyTarget?, finOf_eq_some]

theorem keyWord?_iff {w : Nat} (word : w < 65536) {x : Option KeyDef} : keyWord? w = some x ↔ w = storedKey x := by
  have callBit : field w 11 1 < 2 := Nat.mod_lt _ (by decide)
  have kindBit : field w 12 1 < 2 := Nat.mod_lt _ (by decide)
  rcases x with _ | ⟨m, ⟨y, call⟩ | d⟩
  · exact keyWord?_none
  · rw [keyWord?_some, keyTarget?_party callBit kindBit, storedKey]
    have := code_keyMode_lt m
    have := y.isLt
    have := call.toNat_lt
    simp only [field, Nat.reducePow, Nat.div_one]
    omega
  · rw [keyWord?_some, keyTarget?_ifb kindBit, storedKey]
    have := code_keyMode_lt m
    have := d.isLt
    simp only [field, Nat.reducePow, Nat.div_one]
    omega

theorem pairWord?_iff {w : Nat} (word : w < 65536) {p : Dst × Src} : pairWord? w = some p ↔ w = storedPair p := by
  obtain ⟨d, x⟩ := p
  have := d.isLt
  have := x.isLt
  have found : pairOf (field w 8 6, field w 0 8) = some (d, x) ↔ field w 8 6 = d.1 ∧ field w 0 8 = x.1 := by
    rw [← finOf_eq_some, ← finOf_eq_some]
    unfold pairOf
    cases finOf 48 (field w 8 6) <;> cases finOf 64 (field w 0 8) <;> simp
  unfold pairWord? storedPair
  by_cases clear : field w 14 2 = 0
  · rw [if_pos clear, found]
    simp only [field, Nat.reducePow, Nat.div_one] at clear ⊢
    omega
  · rw [if_neg clear]
    refine iff_of_false nofun ?_
    simp only [field, Nat.reducePow] at clear
    omega

theorem storedMode?_iff {mode target : Nat} {m : OutMode} :
    storedMode? mode target = some m ↔ mode = m.code ∧ target = m.targetNumber.getD 0 := by
  constructor
  · intro made
    unfold storedMode? at made
    split at made
    · split at made
      next zero => cases made; exact ⟨rfl, zero⟩
      next => cases made
    · obtain ⟨x, found, rfl⟩ := Option.map_eq_some_iff.mp made
      exact ⟨rfl, finOf_eq_some.mp found⟩
    · obtain ⟨y, found, rfl⟩ := Option.map_eq_some_iff.mp made
      exact ⟨rfl, finOf_eq_some.mp found⟩
    · cases made
  · rintro ⟨rfl, rfl⟩
    cases m with
    | manual => rfl
    | tally x => simp [storedMode?, OutMode.code, OutMode.targetNumber, finOf_val]
    | talk y => simp [storedMode?, OutMode.code, OutMode.targetNumber, finOf_val]

theorem lineWord?_none {w : Nat} : lineWord? w = some none ↔ w = 0 := by
  unfold lineWord?
  by_cases zero : w = 0
  · simp [zero]
  · simp [zero]

theorem lineWord?_iff {w : Nat} (word : w < 65536) {x : Option (OutMode × Bool)} :
    lineWord? w = some x ↔ w = storedLine x := by
  rcases x with _ | ⟨m, latch⟩
  · exact lineWord?_none
  · have modeCode : m.code < 3 := by cases m <;> simp [OutMode.code]
    have target : m.targetNumber.getD 0 < 64 := by
      cases m with
      | manual => decide
      | tally x => exact x.isLt
      | talk y => exact Nat.lt_trans y.isLt (by decide)
    have latchBit : decide (field w 12 1 = 1) = latch ↔ field w 12 1 = latch.toNat := by
      have bit : field w 12 1 < 2 := Nat.mod_lt _ (by decide)
      rcases show field w 12 1 = 0 ∨ field w 12 1 = 1 by omega with clear | set
      · cases latch <;> simp [clear]
      · cases latch <;> simp [set]
    have fields : lineWord? w = some (some (m, latch)) ↔ w ≠ 0 ∧ (field w 15 1 = 1 ∧ field w 6 6 = 0) ∧
        (field w 13 2 = m.code ∧ field w 0 6 = m.targetNumber.getD 0) ∧ field w 12 1 = latch.toNat := by
      rw [← storedMode?_iff, ← latchBit]
      unfold lineWord?
      by_cases zero : w = 0
      · simp [zero]
      · by_cases formed : field w 15 1 = 1 ∧ field w 6 6 = 0
        · simp [zero, formed]
        · have unformed : (field w 15 1 = 1 && field w 6 6 = 0 : Bool) = false := by simpa using formed
          simp only [zero, unformed, formed, if_false, Bool.false_eq_true, reduceCtorEq, false_and, and_false]
    rw [fields, storedLine]
    have := latch.toNat_lt
    simp only [field, Nat.reducePow, Nat.div_one]
    omega

theorem wholeWord?_iff {n w : Nat} (small : n ≤ 65535) {x : Option (Fin n)} :
    wholeWord? n w = some x ↔ w = (x.map Fin.val).getD 65535 := by
  unfold wholeWord?
  cases x with
  | none => by_cases absent : w = 65535 <;> simp [absent]
  | some i =>
    have := i.isLt
    by_cases absent : w = 65535
    · simp [absent]
      omega
    · simp [absent, finOf_eq_some]

theorem timing?_iff {rate threshold limit timeout : Nat} {t : Timing} :
    timing? rate threshold limit timeout = some t ↔
      (rate = rateCode t.rate ∧ threshold = t.threshold ∧ limit = t.limit ∧ timeout = t.linkTimeout) ∧
        (100 ≤ t.threshold ∧ t.threshold ≤ 1000) ∧ t.limit ≤ 120 ∧ 100 ≤ t.linkTimeout ∧ t.linkTimeout ≤ 2000 := by
  unfold timing?
  constructor
  · intro read
    split at read
    next r rated =>
      split at read
      next ranges =>
        cases read
        simp only [Bool.and_eq_true, decide_eq_true_eq] at ranges
        obtain ⟨⟨⟨⟨lowThreshold, highThreshold⟩, limit⟩, lowTimeout⟩, highTimeout⟩ := ranges
        refine ⟨⟨?_, rfl, rfl, rfl⟩, ⟨lowThreshold, highThreshold⟩, limit, lowTimeout, highTimeout⟩
        unfold rateOf? at rated
        split at rated <;> cases rated <;> rfl
      next => cases read
    next => cases read
  · rintro ⟨⟨rfl, rfl, rfl, rfl⟩, ⟨lowThreshold, highThreshold⟩, limit, lowTimeout, highTimeout⟩
    simp [rateOf?_rateCode, lowThreshold, highThreshold, limit, lowTimeout, highTimeout]

/-! ### The words of a guard -/

theorem allOf_eq_some {α β : Type} {f : α → Option β} {as : List α} {bs : List β} :
    allOf f as = some bs ↔ List.Forall₂ (fun a b => f a = some b) as bs := by
  induction as generalizing bs with
  | nil => cases bs <;> simp [allOf]
  | cons a as ih =>
    unfold allOf
    constructor
    · intro read
      split at read
      next b rest first others => cases read; exact .cons first (ih.mp others)
      next => cases read
    · rintro (_ | ⟨first, others⟩)
      simp only [first, ih.mpr others]

/-- A run of words read one by one. -/
theorem allOf_range {β : Type} {f : Nat → Option β} {word : Nat → Nat} {n : Nat} {bs : List β} :
    allOf f ((List.range n).map word) = some bs ↔
      bs.length = n ∧ ∀ (i : Nat) (h : i < bs.length), f (word i) = some bs[i] := by
  rw [allOf_eq_some, List.forall₂_iff_get]
  simp only [List.length_map, List.length_range, List.get_eq_getElem, List.getElem_map, List.getElem_range]
  constructor
  · rintro ⟨length, read⟩
    exact ⟨length.symm, fun i inside => read i (length ▸ inside) inside⟩
  · rintro ⟨length, read⟩
    exact ⟨length.symm, fun i _ inside => read i inside⟩

/-- The header of a guard by its fields. -/
theorem storedHeader_iff {h : Nat} (word : h < 65536) {f : GuardDef} (count : f.fallback.length ≤ 8) :
    h = storedHeader f ↔ field h 12 4 = f.line.1 ∧ field h 11 1 = f.high.toNat ∧ field h 10 1 = f.auto.toNat ∧
      field h 9 1 = f.armedAtStart.toNat ∧ field h 4 5 = 0 ∧ field h 0 4 = f.fallback.length := by
  have := f.line.isLt
  have := f.high.toNat_lt
  have := f.auto.toNat_lt
  have := f.armedAtStart.toNat_lt
  simp only [field, storedHeader, Nat.reducePow, Nat.div_one]
  omega

theorem flagField_iff (h lo : Nat) (b : Bool) : field h lo 1 = b.toNat ↔ decide (field h lo 1 = 1) = b := by
  have bit : field h lo 1 < 2 := Nat.mod_lt _ (by decide)
  rcases show field h lo 1 = 0 ∨ field h lo 1 = 1 by omega with clear | set
  · cases b <;> simp [clear]
  · cases b <;> simp [set]

/-- The line action a set and a values word hold. -/
def storedAction (set values : Nat) : Tab (Option Bool) 16 :=
  tabOf fun i : Lid => if set.testBit i.1 then some (values.testBit i.1) else none

theorem storedAction_iff {set values : Nat} {action : Tab (Option Bool) 16} : storedAction set values = action ↔
    (∀ l : Lid, set.testBit l.1 = (action.at l).isSome) ∧
      ∀ (l : Lid) v, action.at l = some v → values.testBit l.1 = v := by
  constructor
  · rintro rfl
    refine ⟨fun l => ?_, fun l v => ?_⟩
    · rw [storedAction, Tab.at_tabOf]
      cases set.testBit l.1 <;> rfl
    · rw [storedAction, Tab.at_tabOf]
      cases set.testBit l.1 <;> simp
  · rintro ⟨named, forces⟩
    refine Tab.ext_at fun l => ?_
    rw [storedAction, Tab.at_tabOf, named l]
    cases here : action.at l with
    | none => rfl
    | some v => rw [forces l v here]; rfl

theorem guardWords?_iff {word : Nat → Nat} (bounded : ∀ a, word a < 65536) {base : Nat} {f : GuardDef} :
    guardWords? (fun i => word (base + i)) = some f ↔
      StoredGuard word base f ∧ (1 ≤ f.debounce ∧ f.debounce ≤ 1000) ∧ f.fallback.length ≤ 8 := by
  have pairs {ps : List (Dst × Src)} {n : Nat} :
      allOf pairWord? ((List.range n).map fun i => word (base + (2 + i))) = some ps ↔
        ps.length = n ∧ ∀ (i : Nat) (h : i < ps.length), word (base + 2 + i) = storedPair ps[i] := by
    rw [allOf_range]
    simp only [pairWord?_iff (bounded _), Nat.add_assoc]
  constructor
  · intro read
    unfold guardWords? at read
    dsimp only at read
    split at read
    next l ps line listed =>
      split at read
      next ranges =>
        cases read
        simp only [Bool.and_eq_true, decide_eq_true_eq] at ranges
        obtain ⟨⟨⟨clear, count⟩, low⟩, high⟩ := ranges
        obtain ⟨length, listed⟩ := pairs.mp listed
        obtain ⟨named, forces⟩ := storedAction_iff.mp (rfl : storedAction (word (base + 10)) (word (base + 11)) = _)
        rw [← length] at count
        refine ⟨⟨(storedHeader_iff (bounded base) count).mpr ⟨finOf_eq_some.mp line, (flagField_iff _ _ _).mpr rfl,
          (flagField_iff _ _ _).mpr rfl, (flagField_iff _ _ _).mpr rfl, clear, length.symm⟩, rfl, listed, named,
          forces⟩, ⟨low, high⟩, count⟩
      next => cases read
    next => cases read
  · rintro ⟨⟨header, debounce, listed, named, forces⟩, ⟨low, high⟩, count⟩
    obtain ⟨line, level, auto, armed, clear, length⟩ := (storedHeader_iff (bounded base) count).mp header
    have action := storedAction_iff.mpr ⟨named, forces⟩
    have ranges : (field (word base) 4 5 = 0 && field (word base) 0 4 ≤ 8 && 1 ≤ word (base + 1) &&
        word (base + 1) ≤ 1000 : Bool) = true := by
      simp [clear, length, count, debounce, low, high]
    unfold guardWords?
    simp only [Nat.add_zero, finOf_eq_some.mpr line, pairs.mpr ⟨length.symm, listed⟩, ranges, if_true]
    rw [(flagField_iff _ _ _).mp level, (flagField_iff _ _ _).mp auto, (flagField_iff _ _ _).mp armed, debounce]
    exact congrArg (fun a => some { f with action := a }) action

/-! ### The whole record (R188) -/

theorem tabAll_iff {α : Type} {n : Nat} {f : Fin n → Option α} {t : Tab α n} :
    tabAll f = some t ↔ ∀ i, f i = some (t.at i) := by
  unfold tabAll
  constructor
  · intro read
    split at read
    next all =>
      cases read
      exact fun i => by rw [Tab.at_tabOf, Option.some_get]
    next => cases read
  · intro read
    have all : ∀ i, (f i).isSome = true := fun i => by rw [read i]; rfl
    rw [dif_pos all]
    exact congrArg some (Tab.ext_at fun i => by rw [Tab.at_tabOf]; exact Option.get_of_eq_some _ (read i))

theorem readConfig_iff {word : Nat → Nat} {c : Loaded} : readConfig word = some c ↔
    (∀ d : Dst, destWord? (word (2 + d.1)) = some (c.defs.at d)) ∧
    (∀ i : Chn, optWord? 64 (word (50 + i.1)) = some (c.mapped.at i)) ∧
    (∀ p : Pnl, optWord? 64 (word (82 + p.1)) = some (c.mics.at p)) ∧
    (∀ y : Pty, optWord? 32 (word (90 + y.1)) = some (c.parties.at y)) ∧
    (∀ k : KeyId, keyWord? (word (122 + k.1)) = some (c.keys.at k)) ∧
    (∀ g : Gid, guardWords? (fun i => word (250 + 12 * g.1 + i)) = some (c.guards.at g)) ∧
    (∀ l : Lid, lineWord? (word (298 + l.1)) = some (c.lines.at l)) ∧
    wholeWord? 8 (word 314) = some c.switcher ∧ wholeWord? 64 (word 315) = some c.programSource ∧
    timing? (word 316) (word 317) (word 318) (word 319) = some c.timing := by
  simp only [← tabAll_iff]
  constructor
  · intro read
    unfold readConfig at read
    split at read
    next dests channels stations parties keys guards lines switcher program timing =>
      cases read
      exact ⟨dests, channels, stations, parties, keys, guards, lines, switcher, program, timing⟩
    next => cases read
  · rintro ⟨dests, channels, stations, parties, keys, guards, lines, switcher, program, timing⟩
    unfold readConfig
    rw [dests, channels, stations, parties, keys, guards, lines, switcher, program, timing]

theorem inputsDistinct_iff (c : Loaded) : inputsDistinct c = true ↔
    ∀ d e w, (c.defs.at d).cls = .swin w → (c.defs.at e).cls = .swin w → d = e := by
  simp only [inputsDistinct, List.all_eq_true, mem_fins, forall_const, ← input_eq_some_iff]
  refine forall_congr' fun d => ?_
  cases here : (c.defs.at d).cls.input with
  | none => simp
  | some w =>
    simp only [List.all_eq_true, mem_fins, forall_const, Bool.or_eq_true, decide_eq_true_eq, bne_iff_ne,
      Option.some.injEq, forall_eq', eq_comm (a := d)]
    exact forall_congr' fun e => (imp_iff_or_not).symm

theorem fallbacksGood_iff (c : Loaded) : fallbacksGood c = true ↔
    ((fins 4).flatMap fun g => (c.guards.at g).fallback.map Prod.fst).Nodup ∧
      ∀ g, ∀ p ∈ (c.guards.at g).fallback, (c.defs.at p.1).cls ≠ .ifb := by
  simp only [fallbacksGood, Bool.and_eq_true, distinct_iff, List.all_eq_true, mem_fins, forall_const, bne_iff_ne]

theorem actionsAgree_iff (c : Loaded) : actionsAgree c = true ↔
    ∀ g h l v w, (c.guards.at g).action.at l = some v → (c.guards.at h).action.at l = some w → v = w := by
  simp only [actionsAgree, List.all_eq_true, mem_fins, forall_const]
  refine forall_congr' fun g => forall_congr' fun h => forall_congr' fun l => ?_
  cases (c.guards.at g).action.at l <;> cases (c.guards.at h).action.at l <;> simp

theorem guardLinesGood_iff (c : Loaded) (f : GuardDef) : guardLinesGood c f = true ↔
    (f.armedAtStart = true → c.lines.at f.line = none ∧ f.fallback ≠ []) ∧
      ∀ l, (f.action.at l).isSome = true → (c.lines.at l).isSome = true := by
  unfold guardLinesGood
  rw [Bool.and_eq_true]
  refine and_congr ?_ ?_
  · cases f.armedAtStart <;> simp
  · simp only [List.all_eq_true, mem_fins, forall_const, Bool.or_eq_true, Option.isNone_iff_eq_none]
    exact forall_congr' fun l => by cases f.action.at l <;> simp

theorem keyGood_iff (c : Loaded) (k : KeyId) : keyGood c k = true ↔
    ∀ m d, c.keys.at k = some ⟨m, .ifb d⟩ → (c.defs.at d).cls = .ifb ∧ (c.mics.at (stationOf k)).isSome = true := by
  unfold keyGood
  rcases c.keys.at k with _ | ⟨m, _ | d⟩ <;> simp

/-- The ranges of a configuration: those its words' own tests hold it to. -/
def RangesGood (c : Loaded) : Prop :=
  (∀ g, (1 ≤ (c.guards.at g).debounce ∧ (c.guards.at g).debounce ≤ 1000) ∧ (c.guards.at g).fallback.length ≤ 8) ∧
    (100 ≤ c.timing.threshold ∧ c.timing.threshold ≤ 1000) ∧ c.timing.limit ≤ 120 ∧
    100 ≤ c.timing.linkTimeout ∧ c.timing.linkTimeout ≤ 2000

theorem lawfulConfig_iff (c : Loaded) : LawfulConfig c ↔ RangesGood c ∧ crossChecks c = true := by
  simp only [crossChecks, Bool.and_eq_true, List.all_eq_true, mem_fins, forall_const, inputsDistinct_iff,
    fallbacksGood_iff, actionsAgree_iff, guardLinesGood_iff, keyGood_iff]
  constructor
  · intro lawful
    exact ⟨⟨fun g => ⟨lawful.debounce g, lawful.counts g⟩, lawful.threshold, lawful.limit, lawful.linkTimeout⟩,
      ⟨⟨⟨lawful.inputs, lawful.fallbacks, lawful.fallbackClass⟩, lawful.actions⟩,
        fun g => ⟨lawful.monitors g, lawful.outLines g⟩⟩, lawful.ifbKeys⟩
  · rintro ⟨⟨guards, threshold, limit, timeout⟩, ⟨⟨⟨inputs, fallbacks, classes⟩, actions⟩, lines⟩, keys⟩
    exact ⟨fun g => (guards g).1, fun g => (guards g).2, threshold, limit, timeout, inputs, fallbacks, classes, actions,
      fun g => (lines g).1, fun g => (lines g).2, keys⟩

theorem judge_eq_some {word : Nat → Nat} {c : Loaded} : judge word = some c ↔
    (word 0 = 0x574E ∧ word 1 = 1 ∧ ((List.range 321).map word).sum % 65536 = 0) ∧ readConfig word = some c ∧
      crossChecks c = true := by
  unfold judge
  constructor
  · intro good
    split at good
    next marks =>
      simp only [Bool.and_eq_true, decide_eq_true_eq] at marks
      obtain ⟨⟨signature, version⟩, sum⟩ := marks
      split at good
      next c read =>
        split at good
        next checks => cases good; exact ⟨⟨signature, version, sum⟩, read, checks⟩
        next => cases good
      next => cases good
    next => cases good
  · rintro ⟨⟨signature, version, sum⟩, read, checks⟩
    simp [signature, version, sum, read, checks]

theorem rateCode_eq (r : FrameRate) : rateCode r = match r with | .r25 => 0 | .r2997 => 1 | .r50 => 2 | .r5994 => 3 := by
  cases r <;> rfl

/-- Reading every word in range is being laid out so, in range. -/
theorem storedWords_iff {word : Nat → Nat} (bounded : ∀ a, word a < 65536) (c : Loaded) :
    (StoredWords word c ∧ RangesGood c) ↔
      (word 0 = 0x574E ∧ word 1 = 1 ∧ ((List.range 321).map word).sum % 65536 = 0) ∧ readConfig word = some c := by
  rw [readConfig_iff]
  simp only [destWord?_iff (bounded _), optWord?_iff (bounded _), keyWord?_iff (bounded _), guardWords?_iff bounded,
    lineWord?_iff (bounded _), wholeWord?_iff (show 8 ≤ 65535 by decide), wholeWord?_iff (show 64 ≤ 65535 by decide),
    timing?_iff, rateCode_eq]
  constructor
  · rintro ⟨stored, guards, threshold, limit, timeout⟩
    exact ⟨⟨stored.signature, stored.version, stored.sum⟩, stored.dests, stored.channels, stored.stations,
      stored.parties, stored.keys, fun g => ⟨stored.guards g, guards g⟩, stored.lines, stored.switcher,
      stored.programSource, ⟨stored.rate, stored.threshold, stored.limit, stored.linkTimeout⟩, threshold, limit, timeout⟩
  · rintro ⟨⟨signature, version, sum⟩, dests, channels, stations, parties, keys, guards, lines, switcher, program,
      ⟨rate, threshold, limit, timeout⟩, ranges⟩
    exact ⟨⟨signature, version, dests, channels, stations, parties, keys, fun g => (guards g).1, lines, switcher, program,
      rate, threshold, limit, timeout, sum⟩, fun g => (guards g).2, ranges⟩

theorem storedConfig_iff (m : Memory) (c : Loaded) :
    storedConfig m = some c ↔ (StoredWords (fun a => (memRead m a).toNat) c ∧ LawfulConfig c) := by
  have words := storedWords_iff (fun a => (memRead m a).isLt) c
  rw [storedConfig, judge_eq_some, lawfulConfig_iff]
  exact (and_assoc.symm.trans (and_congr_left' words.symm)).trans and_assoc

end Sys2Proof.Machine
end

section
/-! SUPPORT. The end of the load: the obligation O51. -/

namespace Sys2Proof.Machine

/-! ### What the end of the load leaves in each record (R141, R188, R189) -/

/-- One step of the arming at start. -/
def armFlagged (t : State) (g : Gid) : State := if (t.guard g).defn.armedAtStart then (armBlock g.1 t).1 else t

theorem lines_armFlagged (t : State) (g : Gid) : (armFlagged t g).lines = t.lines := by
  unfold armFlagged
  split <;> simp

theorem guard_armFlagged_ne (t : State) {g h : Gid} (other : g ≠ h) : (armFlagged t g).guard h = t.guard h := by
  unfold armFlagged
  rw [armBlock_inRange]
  split
  · split
    · rfl
    · split
      · rfl
      · exact guard_setGuardState_ne t _ other
  · rfl

theorem defn_armFlagged (t : State) (g : Gid) : ((armFlagged t g).guard g).defn = (t.guard g).defn := by
  unfold armFlagged
  rw [armBlock_inRange]
  split
  · split
    · rfl
    · split
      · rfl
      · simp [okWith]
  · rfl

theorem armFlagged_unflagged {t : State} {g : Gid} (unflagged : (t.guard g).defn.armedAtStart = false) :
    armFlagged t g = t := by simp [armFlagged, unflagged]

theorem state_armFlagged {t : State} {g : Gid} {sample : Bool} (flagged : (t.guard g).defn.armedAtStart = true)
    (disabled : (t.guard g).state = .disabled) (listed : (t.guard g).defn.fallback ≠ [])
    (line : t.line (t.guard g).defn.line = .input sample) : ((armFlagged t g).guard g).state =
      if sample = (t.guard g).defn.high then .debouncing ((t.guard g).defn.debounce * 1000) else .armed := by
  unfold armFlagged
  rw [if_pos flagged, armBlock_ok disabled listed line]
  have level : matching t (t.guard g).defn = (sample == (t.guard g).defn.high) := by simp [matching, line]
  simp only [okWith, guard_setGuardState_same, armedState, level, beq_iff_eq, GuardDef.wait, Config.ms]

theorem guard_foldl_armFlagged {g : Gid} (gs : List Gid) (absent : g ∉ gs) (t : State) :
    (gs.foldl armFlagged t).guard g = t.guard g := by
  induction gs generalizing t with
  | nil => rfl
  | cons h gs ih =>
    obtain ⟨other, absent⟩ := List.ne_and_not_mem_of_not_mem_cons absent
    rw [List.foldl_cons, ih absent, guard_armFlagged_ne t other.symm]

/-- The arming at start reaches each guard once, with the lines and the guard as they stood. -/
theorem foldl_armFlagged_guard {g : Gid} (gs : List Gid) (nodup : gs.Nodup) (listed : g ∈ gs) (t : State) :
    ∃ v, (gs.foldl armFlagged t).guard g = (armFlagged v g).guard g ∧ v.guard g = t.guard g ∧ v.lines = t.lines := by
  induction gs generalizing t with
  | nil => exact absurd listed List.not_mem_nil
  | cons h gs ih =>
    obtain ⟨fresh, nodup⟩ := List.nodup_cons.mp nodup
    rw [List.foldl_cons]
    by_cases here : h = g
    · subst here
      exact ⟨t, guard_foldl_armFlagged gs fresh _, rfl, rfl⟩
    · obtain ⟨v, reached, guard, lines⟩ :=
        ih nodup ((List.mem_cons.mp listed).resolve_left (Ne.symm here)) (armFlagged t h)
      exact ⟨v, reached, guard.trans (guard_armFlagged_ne t here), lines.trans (lines_armFlagged t h)⟩

theorem armAtStart_guard (s : State) (g : Gid) :
    ∃ t, (armAtStart s).guard g = (armFlagged t g).guard g ∧ t.guard g = s.guard g ∧ t.lines = s.lines :=
  foldl_armFlagged_guard (fins 4) ((pairwise_fins 4).imp ne_of_lt) (mem_fins g) s

theorem guard_enterReady (s : State) (g : Gid) : (enterReady s).guard g = s.guard g := rfl

theorem guard_install (c : Loaded) (s : State) (g : Gid) :
    (install c s).guard g = { s.guard g with defn := c.guards.at g } := Tab.at_tabOf _ g

theorem line_install (c : Loaded) (s : State) (l : Lid) :
    (install c s).line l = loadedLine (s.line l) (c.lines.at l) := Tab.at_tabOf _ l

/-- The configuration in force, with the cause of a defaulted one. -/
def inForce (s : State) : State :=
  if (storedConfig s.store.mem).isSome then install (loadedConfig s) s
  else raise .configDefaulted (install (loadedConfig s) s)

theorem endLoad_eq_inForce (s : State) : endLoad s = enterReady (armAtStart (refresh (inForce s))) := by
  unfold endLoad inForce loadedConfig
  cases storedConfig s.store.mem <;> rfl

theorem inForce_eq (s : State) :
    inForce s = { install (loadedConfig s) s with ctl := (inForce s).ctl } := by
  unfold inForce
  split <;> rfl

theorem attention_inForce (s : State) : (inForce s).ctl.attention.at 8 = true ↔
    (storedConfig s.store.mem = none ∨ s.ctl.attention.at 8 = true) := by
  unfold inForce
  cases storedConfig s.store.mem with
  | some c => simp [install]
  | none => simp [raise, Cause.bit]

section
variable (s : State)

theorem take_endLoad : (endLoad s).take = (install (loadedConfig s) s).take := by
  rw [endLoad_eq_inForce, inForce_eq]
  simp [enterReady]

theorem timing_endLoad : (endLoad s).timing = (loadedConfig s).timing := by
  rw [endLoad_eq_inForce, inForce_eq]
  simp [enterReady, install]

theorem entry_endLoad (d : Dst) :
    (endLoad s).entry d = { s.entry d with current := ((loadedConfig s).defs.at d).home } :=
  (entry_congr (routes_endLoad s) d).trans (entry_install (loadedConfig s) s d)

theorem attention_endLoad : (endLoad s).ctl.attention.at 8 = true ↔
    (storedConfig s.store.mem = none ∨ s.ctl.attention.at 8 = true) := by
  rw [endLoad_eq_inForce, ← attention_inForce]
  simp [enterReady]

theorem key_endLoad (k : KeyId) : (endLoad s).key k = { s.key k with defn := (loadedConfig s).keys.at k } :=
  (key_congr (congrArg TalkEngine.keys (talk_endLoad s).1) k).trans (key_install (loadedConfig s) s k)

theorem tally_endLoad : (endLoad s).tally.switcher = (loadedConfig s).switcher ∧
    (endLoad s).tally.programSource = (loadedConfig s).programSource ∧
    ∀ c, ((endLoad s).channel c).mapped = (loadedConfig s).mapped.at c := by
  have same : (endLoad s).tally = (refresh (inForce s)).tally := by
    rw [endLoad_eq_inForce]
    simp [enterReady]
  have installed : (inForce s).tally = (install (loadedConfig s) s).tally := by rw [inForce_eq]
  refine ⟨?_, ?_, fun c => ?_⟩
  · rw [same]
    exact congrArg TallyUnit.switcher installed
  · rw [same]
    exact congrArg TallyUnit.programSource installed
  · have shown : (endLoad s).channel c = lit (inForce s) ((inForce s).channel c) := by
      rw [channel_congr (congrArg TallyUnit.channels same)]
      exact Tab.at_tabOf _ c
    rw [shown, lit_mapped, channel_congr (congrArg TallyUnit.channels installed), channel_install]

theorem line_endLoad (l : Lid) : (endLoad s).line l = drivenLine (recompute (inForce s)) l := by
  have same : (endLoad s).lines = (refresh (inForce s)).lines := by
    rw [endLoad_eq_inForce]
    simp [enterReady]
  rw [line_congr (congrArg LineUnit.recs same)]
  exact Tab.at_tabOf _ l

theorem line_recompute_inForce (l : Lid) :
    (recompute (inForce s)).line l = loadedLine (s.line l) ((loadedConfig s).lines.at l) := by
  have same : (recompute (inForce s)).lines = (install (loadedConfig s) s).lines := by
    rw [inForce_eq]
    simp
  rw [line_congr (congrArg LineUnit.recs same), line_install]

theorem line_endLoad_input {l : Lid} {sample : Bool} (configured : (loadedConfig s).lines.at l = none)
    (line : s.line l = .input sample) : (endLoad s).line l = .input sample := by
  rw [line_endLoad]
  refine drivenLine_input ?_
  rw [line_recompute_inForce, configured, line]
  rfl

theorem line_endLoad_output {l : Lid} {m : OutMode} {latch : Bool}
    (configured : (loadedConfig s).lines.at l = some (m, latch)) : ∃ on, (endLoad s).line l = .output m latch on := by
  have line : (recompute (inForce s)).line l = .output m latch false := by
    rw [line_recompute_inForce, configured]
    cases s.line l <;> rfl
  rw [line_endLoad]
  unfold drivenLine
  rw [line]
  exact ⟨_, rfl⟩

/-- Each guard at the end of the load: a state before its arming with the configured definition, DISABLED as it was, and
the lines of the end. -/
theorem guard_endLoad (g : Gid) : ∃ t, (endLoad s).guard g = (armFlagged t g).guard g ∧
    t.guard g = { s.guard g with defn := (loadedConfig s).guards.at g } ∧ t.lines = (endLoad s).lines := by
  obtain ⟨t, reached, guard, lines⟩ := armAtStart_guard (refresh (inForce s)) g
  refine ⟨t, ?_, ?_, lines.trans ?_⟩
  · rw [endLoad_eq_inForce, guard_enterReady, reached]
  · have same : (refresh (inForce s)).guards = (install (loadedConfig s) s).guards := by
      rw [inForce_eq]
      simp
    rw [guard, guard_congr same, guard_install]
  · rw [endLoad_eq_inForce]
    simp [enterReady]

theorem defn_endLoad (g : Gid) : ((endLoad s).guard g).defn = (loadedConfig s).guards.at g := by
  obtain ⟨t, reached, guard, -⟩ := guard_endLoad s g
  rw [reached, defn_armFlagged, guard]

end

section
variable {s : State} {g : Gid} (disabled : (s.guard g).state = .disabled)
include disabled

theorem state_endLoad_unflagged (unflagged : ((loadedConfig s).guards.at g).armedAtStart = false) :
    ((endLoad s).guard g).state = .disabled := by
  obtain ⟨t, reached, guard, -⟩ := guard_endLoad s g
  rw [reached, armFlagged_unflagged (by rw [guard]; exact unflagged), guard]
  exact disabled

theorem state_endLoad_flagged {sample : Bool} (flagged : ((loadedConfig s).guards.at g).armedAtStart = true)
    (line : (endLoad s).line ((loadedConfig s).guards.at g).line = .input sample)
    (listed : ((loadedConfig s).guards.at g).fallback ≠ []) : ((endLoad s).guard g).state =
      if sample = ((loadedConfig s).guards.at g).high then .debouncing (((loadedConfig s).guards.at g).debounce * 1000)
      else .armed := by
  obtain ⟨t, reached, guard, lines⟩ := guard_endLoad s g
  have defn : (t.guard g).defn = (loadedConfig s).guards.at g := by rw [guard]
  rw [reached, ← defn]
  rw [← defn] at flagged line listed
  exact state_armFlagged flagged (by rw [guard]; exact disabled) listed ((line_congr (congrArg LineUnit.recs lines) _).trans line)

end

theorem factory_guard (g : Gid) :
    Loaded.factory.guards.at g = ⟨0, true, 1, false, [], tabOf fun _ => none, false⟩ := Tab.at_tabOf _ g

/-- Settles O51: the configuration the words hold by their layout and tests, and each record at the end of its load. -/
theorem loadPutsTheConfigurationInForce : Obligations.LoadPutsTheConfigurationInForce := by
  refine ⟨fun s c loading quiet found => ?_, ⟨rfl, rfl, rfl, Tab.at_tabOf _, Tab.at_tabOf _, Tab.at_tabOf _,
    Tab.at_tabOf _, Tab.at_tabOf _, Tab.at_tabOf _, factory_guard⟩, storedConfig_iff⟩
  obtain ⟨idle, before⟩ := quiet
  obtain ⟨-, -, disabled, -⟩ := before (idle.mpr loading)
  obtain rfl : loadedConfig s = c := by
    unfold loadedConfig
    rcases found with stored | ⟨stored, rfl⟩
    · rw [stored]; rfl
    · rw [stored]; rfl
  obtain ⟨talk, defs⟩ := talk_endLoad s
  obtain ⟨switcher, program, mapped⟩ := tally_endLoad s
  refine ⟨endLoad s, becomes_of_finish (by simp only [exec, execLoadComplete, loading]), timing_endLoad s, defs,
    fun d => ⟨entry_endLoad s d, ?dirty⟩, mapped, switcher, program, congrArg TalkEngine.mics talk,
    congrArg TalkEngine.parties talk, fun k => by rw [key_endLoad], fun g => ⟨defn_endLoad s g, ?unflagged⟩,
    fun g sample flagged line listed => state_endLoad_flagged (disabled g) flagged line listed,
    fun l => ⟨fun sample => line_endLoad_input s, fun m latch => line_endLoad_output s⟩, ?lost, ?ok,
    attention_endLoad s, by rw [ctl_endLoad], by rw [store_endLoad], by rw [store_endLoad], by rw [store_endLoad],
    outputsFollow_endLoad s⟩
  case dirty =>
    rw [take_endLoad]
    exact Tab.at_tabOf _ d
  case unflagged => exact state_endLoad_unflagged (disabled g)
  case lost =>
    intro lost
    rw [take_endLoad]
    simp [install, lost]
  case ok =>
    intro ok
    rw [take_endLoad]
    simp [install, ok]

end Sys2Proof.Machine
end
